-- ==== Sys2Proof/Word.lean ====
section
/-! DEFINITION. Octets and the plainest arithmetic of the manual: ceiling division, saturating counters, distances. -/

namespace Sys2Proof

/-- One octet of a frame or of the season store. -/
abbrev Byte := BitVec 8

/-- The octet that holds `n` modulo 256. -/
def byte (n : Nat) : Byte := BitVec.ofNat 8 n

/-- `ceil(a / b)` ("Rounding", 00_scope). -/
def ceilDiv (a b : Nat) : Nat := (a + b - 1) / b

/-- One up, saturating at `top`. -/
def satSucc (top n : Nat) : Nat := if n < top then n + 1 else top

/-- `|a - b|` on integers, as a number of steps. -/
def stepsBetween (a b : Int) : Nat := (a - b).natAbs

end Sys2Proof
end

