-- ==== Sys2Proof/Config.lean ====
section
/-! DEFINITION. What one implementation fixes and the manual does not: the free octets of a cut-short operation. -/

namespace Sys2Proof

/-- The value of the `n`-th octet that the array leaves undefined (R30, R33, R34): "each of its octets may hold any value, and
a later read returns that value". A free value: it has no body, so nothing can be proved of it (notes/assumptions/5.md).
State.freeCount says how many have been used. -/
opaque Config.freeOctet : Nat → Byte

end Sys2Proof
end

