-- ==== Sys2Proof/Syntax.lean ====
section
/-! DEFINITION. The commands of the SL-640: one constructor of `Instr` for each row of spec/opcode_table.json, with the
operands that the row's rule names. A host request carries its fields in the order of its rule (R209); an event carries
where it happens and what was sensed. Numbers are held as they arrive, in range or not: refusing is the meaning's work. -/

namespace Sys2Proof

/-- The status codes of a reply, R208. -/
inductive Status where
  | ok | frame | unknownKind | range | state | busy | writeProtected | notBlank | licence | conflict | unavailable | noTime
deriving DecidableEq, Repr

/-- A position of a mover (00_scope "Movers"): switches OPEN and CLOSED, slew drives −2 to +2, reversers FWD and REV. -/
inductive Position where
  | opened | closed
  | slew (steps : Int)
  | fwd | rev
deriving DecidableEq, Repr

/-- A logic level at a safety input, 7.4. -/
inductive Level where
  | high | low
deriving DecidableEq, Repr

/-- An octet as it arrives on the host link: its value, or one whose stop bit is bad, R206. -/
inductive LineOctet where
  | value (b : Byte)
  | badStopBit
deriving DecidableEq, Repr

/-- The transmitter state of a report, R140. The sequencer does not check the field, so a code outside the seven is kept. -/
inductive TxState where
  | off | tuning | tuned | ramping | on | muted | fault
  | other (code : Nat)
deriving DecidableEq, Repr

/-- The last order outcome of a report, R140; a code outside the three is kept. -/
inductive OrderAnswer where
  | none | accepted | refused
  | other (code : Nat)
deriving DecidableEq, Repr

/-- The tune result of a report, R140. -/
structure TuneResult where
  s1 : Nat
  s2 : Nat
  s3 : Nat
  s4 : Nat
  quality : Nat
deriving DecidableEq, Repr

/-- A valid report, R140. `tripCode` is 0 for none; forward power is in 0.1 kW, reflected power in 0.01 kW. -/
structure Report where
  txState : TxState
  freq : Nat
  pf : Nat
  pr : Nat
  lastNumber : Nat
  lastAnswer : OrderAnswer
  reason : Nat
  tripCode : Nat
  tune : Option TuneResult
deriving DecidableEq, Repr

/-- A result of the test set, R197: PASS or FAIL, or the ratio of a MATCH. -/
inductive BusResult where
  | pass | fail
  | ratio (pm : Nat)
deriving DecidableEq, Repr

/-- The hall parameters in the order of the table of 1.3 (HALL_SET, R4). -/
structure HallParams where
  txCount : Nat
  antCount : Nat
  motionSlots : Nat
  crosspointDs : Nat
  parkDs : Nat
  testDs : Nat
  settle : Nat
  validate : Nat
  horizonS : Nat
  guardDs : Nat
  coldDs : Nat
  parkGapS : Nat
  antennaWaitS : Nat
  arcHoldDs : Nat
  hostTimeoutMs : Nat
  txStaleDs : Nat
  txLinkDs : Nat
  orderDs : Nat
  scrubMs : Nat
  presetQualityPm : Nat
deriving DecidableEq, Repr

/-- The fields of TX_DEFINE after the transmitter number, R1. `inService` is the octet sent: 0 no, 1 yes. -/
structure TxFields where
  inService : Nat
  ratingKw : Nat
  freqLow : Nat
  freqHigh : Nat
  rampUpDs : Nat
  rampDownDs : Nat
  presetDs : Nat
  autotuneDs : Nat
  tuneKw : Nat
deriving DecidableEq, Repr

/-- The fields of ANT_DEFINE after the antenna number, R2. `inService`, `reverser` and `precheck` are the octets sent. -/
structure AntFields where
  inService : Nat
  bandLow : Nat
  bandHigh : Nat
  maxKw : Nat
  slewRange : Nat
  reverser : Nat
  slewStepDs : Nat
  revDs : Nat
  precheck : Nat
  neighbours : List Nat
  matchLimitPm : Nat
deriving DecidableEq, Repr

/-- A licence line, 1.4. -/
structure LicenceLine where
  freqLow : Nat
  freqHigh : Nat
  maxKw : Nat
  transmitters : List Nat
  antennas : List Nat
deriving DecidableEq, Repr

/-- The protection settings in the order of the table of 9.7 (PROT_SET, R174). -/
structure ProtSettings where
  warnPm : Nat
  foldPm : Nat
  tripPm : Nat
  foldIntervalDs : Nat
  restoreIntervalS : Nat
  recoveryDs : Nat
  tripWindowS : Nat
  arcWindowS : Nat
deriving DecidableEq, Repr

/-- The key, servo positions and quality of PRESET_WRITE, R188. -/
structure PresetFields where
  antenna : Nat
  channel : Nat
  s1 : Nat
  s2 : Nat
  s3 : Nat
  s4 : Nat
  quality : Nat
deriving DecidableEq, Repr

/-- The commands. The order is the order of spec/opcode_table.json. -/
inductive Instr where
  | coldReset
  | restart
  | echo (data : List Byte)
  | ident
  | alertQuery
  | alertClear (flags : Nat)
  | alertMask (mask : Nat)
  | unknownKindRequest (kind : Nat)
  | hostFrameDiscard (octets : List LineOctet)
  | hostReceiveTimeout
  | hostFrameQueued (kind : Nat) (body : List Byte)
  | hallSet (params : HallParams)
  | hallQuery
  | txDefine (tx : Nat) (fields : TxFields)
  | txQuery (tx : Nat)
  | antDefine (ant : Nat) (fields : AntFields)
  | antQuery (ant : Nat)
  | licenceWrite (first total final : Nat) (lines : List LicenceLine)
  | licenceQuery (first : Nat)
  | licenceLock
  | configSave
  | configLoad
  | timeSet (day second : Nat)
  | timeQuery
  | storeRead (address length : Nat)
  | storeProgram (address : Nat) (data : List Byte)
  | storeErase (sector : Nat)
  | storeStatus
  | bookOpen (book season firstDay lastDay : Nat)
  | entryAdd (book : Nat) (record : List Byte)
  | bookSeal (book count crc : Nat)
  | bookVerify (book : Nat)
  | bookQuery (book : Nat)
  | findingsQuery (book : Nat)
  | entryRead (book position : Nat)
  | bookErase (book : Nat)
  | handoverSet (book day second : Nat)
  | handoverCancel (book : Nat)
  | execStart
  | execStop
  | execHold
  | execRelease
  | dutyQuery (tx : Nat)
  | txManual (tx : Nat)
  | txAuto (tx : Nat)
  | occurrenceSkip (tx entryId day : Nat)
  | move (mover position : Nat)
  | moverQuery (mover : Nat)
  | antennaStatus (ant : Nat)
  | moverClear (mover : Nat)
  | survey
  | safetyDefine (input kind level : Nat) (rows : List Nat)
  | permitQuery
  | txOrderTunePreset (tx freq : Nat)
  | txOrderTuneAuto (tx freq : Nat)
  | txOrderRfOn (tx power feed : Nat)
  | txOrderRfOff (tx : Nat)
  | txOrderMute (tx : Nat)
  | txOrderPower (tx power : Nat)
  | txOrderFeed (tx feed : Nat)
  | txOrderClearTrip (tx : Nat)
  | txStatus (tx : Nat)
  | protSet (settings : ProtSettings)
  | protQuery (tx : Nat)
  | lockoutClear (tx : Nat)
  | presetRead (tx set way : Nat)
  | presetWrite (tx set way : Nat) (fields : PresetFields)
  | presetFlush (scope tx ant channel : Nat)
  | presetFreeze (state : Nat)
  | presetWindow (window enabled base exponent : Nat)
  | presetSave
  | presetRestore
  | presetError
  | diagStart (antennas : List Nat) (steps : Nat)
  | diagStop
  | diagQuery
  | faultClear (ant flags : Nat)
  | timePulse
  | oscillatorMark
  | windowClose
  | holdoverEntry
  | pendingExpiry
  | operationEnd (passed : Bool)
  | operationOverrun
  | progressGuardEnd
  | verifyEnd
  | reindexEnd
  | contactChange (mover : Nat) (position : Position) (made : Bool)
  | settleEnd (mover : Nat)
  | validateEnd (mover : Nat)
  | travelTimeout (mover : Nat)
  | watchEnd (mover : Nat)
  | moverReadEnd (mover : Nat)
  | rowCold (row : Nat)
  | safetyInputEdge (input : Nat) (level : Level)
  | releaseWindowEnd (input : Nat)
  | safetyResetAlert
  | arcInput (ant : Nat)
  | arcHoldEnd (ant : Nat)
  | txReport (tx : Nat) (report : Report)
  | txFrameDiscard (tx : Nat) (octets : List Byte)
  | txLinkTimeout (tx : Nat)
  | reportStale (tx : Nat)
  | orderDeadline (tx : Nat)
  | tuneTimeout (tx : Nat)
  | rampFail (tx : Nat)
  | offTimeout (tx : Nat)
  | recoveryWaitEnd (tx : Nat)
  | scrubCheck
  | restorePageRead
  | busResult (tag : Nat) (result : BusResult)
  | measurementTimeout
  | hostStartOctet
  | huntStopBitError
  | txLinkSyncFound (tx : Nat)
  | verifierRead
deriving DecidableEq, Repr

end Sys2Proof
end

