-- ==== Sys2Proof/Machine/State.lean ====
section
/-! DEFINITION. The state of the SL-640 as plain data, block by block, in the words of the tables at the head of each chapter;
the reasons a step can stop; and the state right after a cold reset of a part whose array is blank. A moment is a value of
`State.clock`, in ms. Tables indexed by transmitter, antenna, mover or input are lists in ascending number. -/

namespace Sys2Proof.Machine

open Sys2Proof

/-- Why the machine faults: never. The spec gives every command an effect or a refusal status in its reply (R208), so there is
no case, and nothing raises one. Safe. -/
inductive Fault where
deriving DecidableEq, Repr

/-- Why a command has no meaning. -/
inductive Refusal where
  /-- Raised only by an arm of `exec` whose command has no meaning yet. Safe: the machine stops where the part goes on. -/
  | notModelled (mnemonic : String)
deriving DecidableEq, Repr

/-! ## Hall Tables, chapter 1 -/

/-- LOADED, BLANK or BAD, R15. -/
inductive Source where
  | loaded | blank | bad
deriving DecidableEq, Repr

/-- A transmitter record, 1.1. -/
structure TxRecord where
  inService : Bool
  ratingKw : Nat
  freqLow : Nat
  freqHigh : Nat
  rampUpDs : Nat
  rampDownDs : Nat
  presetDs : Nat
  autotuneDs : Nat
  tuneKw : Nat
deriving DecidableEq, Repr

/-- An antenna record, 1.2. -/
structure AntRecord where
  inService : Bool
  bandLow : Nat
  bandHigh : Nat
  maxKw : Nat
  slewRange : Nat
  reverser : Bool
  slewStepDs : Nat
  revDs : Nat
  precheck : Bool
  neighbours : List Nat
  matchLimitPm : Nat
deriving DecidableEq, Repr

/-- The licence staging, R9: the total announced and the lines collected. -/
structure Staging where
  total : Nat
  lines : List LicenceLine
deriving DecidableEq, Repr

structure HallTables where
  txs : List (Option TxRecord)
  ants : List (Option AntRecord)
  params : HallParams
  licence : List LicenceLine
  locked : Bool
  staging : Option Staging
  configSource : Source
  licenceSource : Source
deriving DecidableEq, Repr

/-! ## Time Base, chapter 2 -/

inductive TimeState where
  | invalid | pending | locked | holdover
deriving DecidableEq, Repr

/-- A value armed by TIME_SET with the moment of its request, R24. -/
structure PendingSet where
  instant : Nat
  moment : Nat
deriving DecidableEq, Repr

/-- `openWindow`: the E whose acceptance window is still open after the oscillator marked at it in HOLDOVER (R19, R22). -/
structure TimeBase where
  state : TimeState
  instant : Option Nat
  expected : Nat
  openWindow : Option Nat
  pendingSet : Option PendingSet
  chain : List Nat
  lastPulse : Option Nat
  elapsed : Nat
  ignored : Nat
deriving DecidableEq, Repr

/-- The step a second event carries, R26. -/
inductive TimeStep where
  | none | first
  | seconds (n : Int)
deriving DecidableEq, Repr

/-! ## Season Store, chapter 3 -/

/-- The store state, R35. SUSPENDED lasts only inside one command, while the reads of one batch are served, since reads have no
duration (R38). -/
inductive StoreState where
  | ready
  | erasing (sector : Nat)
  | programming (page : Nat)
  | suspended
  | fault
deriving DecidableEq, Repr

inductive StoreOp where
  | erase (sector : Nat)
  | program (address : Nat) (data : List Byte)
deriving DecidableEq, Repr

/-- The mark fields of a book's header, R49. -/
inductive Mark where
  | opening | seal | verified
  | slotInstant (slot : Nat)
  | slotCancelled (slot : Nat)
  | active | retired
deriving DecidableEq, Repr

/-- The internal work items, 3.6. `due` numbers the state marks in the order in which they became due (R50). -/
inductive ItemKind where
  | stateMark (book : Nat) (mark : Mark) (due : Nat)
  | loadPage (book slot : Nat)
  | bookErase (book : Nat)
  | configWrite | licenceWrite | lockMark
  | presetPage (page : Nat) (last : Bool)
deriving DecidableEq, Repr

structure WorkItem where
  kind : ItemKind
  ops : List StoreOp
deriving DecidableEq, Repr

inductive OpOwner where
  | host
  | item (kind : ItemKind)
deriving DecidableEq, Repr

/-- Reads have no duration, so the running time of R34 is the clock less `startedAt`. -/
structure Operation where
  op : StoreOp
  owner : OpOwner
  startedAt : Nat
  guardEnd : Option Nat
deriving DecidableEq, Repr

/-- Who waits for a read, R32; a host reader's reply is held meanwhile (R39). The blank test of PRESET_SAVE reads the sectors 64 to
79 one by one, and `sector` is the one being read. -/
inductive Reader where
  | verifier
  | hostRead (address length : Nat)
  | entryRead (book position : Nat)
  | presetSave (sector : Nat)
  | restorePage
  | executor
  | occurrenceSkip (tx entryId day : Nat)
deriving DecidableEq, Repr

structure WaitingRead where
  reader : Reader
  held : Bool
deriving DecidableEq, Repr

/-- The causes with which an operation or item ends FAILED, R31, R36, R37. -/
inductive FailCause where
  | check | notBlank | overrun | fault | writeProtected
deriving DecidableEq, Repr

inductive HostOpOutcome where
  | inProgress | done
  | failed (cause : FailCause)
deriving DecidableEq, Repr

structure HostOp where
  erase : Bool
  target : Nat
  outcome : HostOpOutcome
deriving DecidableEq, Repr

structure LastFailure where
  sector : Nat
  page : Option Nat
  erase : Bool
  owner : OpOwner
  cause : FailCause
  instant : Option Nat
deriving DecidableEq, Repr

/-- A client that waits to offer again, R41. -/
inductive Waiter where
  | bookMarks (book : Nat)
  | presetSave
deriving DecidableEq, Repr

/-- The array is a list of cells in one canonical form: addresses strictly rising, no cell equal to 0xFF. -/
structure Store where
  array : List Host.Cell
  state : StoreState
  operation : Option Operation
  item : Option WorkItem
  work : List WorkItem
  readWait : List WaitingRead
  offerWait : List Waiter
  lastHostOp : Option HostOp
  lastFailure : Option LastFailure
  failedSectors : List Nat
  suspensions : Nat
deriving DecidableEq, Repr

/-! ## Season Books and the Book Verifier, chapter 4 -/

/-- An antenna with its slew and direction (`reversed`: REV). -/
structure Target where
  antenna : Nat
  slew : Int
  reversed : Bool
deriving DecidableEq, Repr

/-- A schedule entry, 4.2. `days` has weekday n at bit n. -/
structure Entry where
  entryId : Nat
  tx : Nat
  days : Nat
  startMin : Nat
  endMin : Nat
  freq : Nat
  power : Nat
  primary : Target
  feed : Nat
  alternate : Option Target
  window : Option (Nat × Nat)
  lateLimit : Option Nat
deriving DecidableEq, Repr

inductive BookState where
  | empty | erasing | loading | sealed | verifying | failed | standby | active | retired | damaged
deriving DecidableEq, Repr

/-- A load buffer slot, R52: the page of the region it will fill and the records it holds. -/
inductive LoadSlot where
  | free
  | filling (page : Nat) (records : List (List Byte))
  | waiting (page : Nat) (records : List (List Byte))
deriving DecidableEq, Repr

/-- A handover slot, R49, R63. A torn instant counts as used and cancelled. -/
inductive HandoverSlot where
  | blank
  | used (instant : Nat) (cancelled : Bool)
  | torn
deriving DecidableEq, Repr

/-- A handover: its slot and instant. -/
structure Handover where
  slot : Nat
  instant : Nat
deriving DecidableEq, Repr

inductive FindingKind where
  | checksum | field | licence | dupId | overlap | antennaClash
deriving DecidableEq, Repr

structure Finding where
  kind : FindingKind
  ids : List Nat
deriving DecidableEq, Repr

inductive VerifyOutcome where
  | none | standby | failed
deriving DecidableEq, Repr

/-- The findings list, R59. -/
structure Findings where
  outcome : VerifyOutcome
  list : List Finding
  more : Bool
  total : Nat
deriving DecidableEq, Repr

/-- A mark whose programming was refused, lost or failed, R50, with the octets it programs and its number in the order in which
the marks became due. -/
structure MissingMark where
  mark : Mark
  due : Nat
  data : List Byte
  failed : Bool
deriving DecidableEq, Repr

structure Book where
  state : BookState
  season : Option Nat
  firstDay : Nat
  lastDay : Nat
  entriesAdded : Nat
  sealed : Option (Nat × Nat)
  slotA : LoadSlot
  slotB : LoadSlot
  slots : List HandoverSlot
  pendingHandover : Option Handover
  activation : Option Handover
  findings : Findings
  runIndex : Option (List (List Nat))
  missing : List MissingMark
deriving DecidableEq, Repr

/-- The verification or re-index in progress, R55 to R59, R67: the check (1 to 3), the next page to read, the entries the
check has passed, the CRC-32 register so far, whether its store read waits, whether the checks have ended, and, for a
re-index, whether book 1 is still to come. -/
structure Verifier where
  book : Nat
  reindex : Bool
  check : Nat
  page : Nat
  passed : Nat
  crc : Nat
  waiting : Bool
  finished : Bool
deriving DecidableEq, Repr

/-- `markCount` counts the marks that have become due, and so numbers them (R50). -/
structure SeasonBooks where
  book0 : Book
  book1 : Book
  scanRunning : Bool
  verifier : Option Verifier
  markCount : Nat
deriving DecidableEq, Repr

/-! ## Schedule Executor, chapter 5 -/

inductive ExecState where
  | stopped | running | held | seasonEnd
deriving DecidableEq, Repr

inductive DutyMode where
  | auto | manual
deriving DecidableEq, Repr

/-- The causes of a last outcome, in the order of the duty record table of 5.2. -/
inductive Cause where
  | endReached | changeover | manual | antenna | clash | licence | lockout | txLink | txFault | expired | transmitter | route | host | lateLimit
deriving DecidableEq, Repr

inductive OutcomeKind where
  | done | abandoned | skipped | ended
deriving DecidableEq, Repr

/-- Cause flags, R81: bit 0 CAPPED, 1 PRECHECK, 2 PRECHECK_WAIVED, 3 PRESET_LOST, 4 WAIT_ANTENNA, 5 LATE. -/
abbrev CauseFlags := BitVec 6

structure LastOutcome where
  entryId : Nat
  day : Option Nat
  kind : OutcomeKind
  cause : Option Cause
  plannedLate : Nat
  actualLate : Nat
  flags : CauseFlags
  instant : Option Nat
deriving DecidableEq, Repr

/-- The current entry, 5.2. An entry adopted by TX_AUTO has no day, no start and maybe no antenna (R75). `alternate` is the
entry's alternate, kept for R94. -/
structure CurrentEntry where
  entryId : Nat
  day : Option Nat
  startAt : Option Nat
  endAt : Nat
  antenna : Option Nat
  onAlternate : Bool
  freq : Nat
  power : Nat
  slew : Int
  reversed : Bool
  feed : Nat
  alternate : Option Target
deriving DecidableEq, Repr

/-- What is still to be done with a row's route once RF is off, R91, R92, R94. -/
inductive RouteSettle where
  | none | settle | park
deriving DecidableEq, Repr

/-- A held route, R92: the occurrence for which it is held, with its start instant. -/
structure HeldRoute where
  entryId : Nat
  day : Nat
  startAt : Nat
deriving DecidableEq, Repr

structure Duty where
  mode : DutyMode
  current : Option CurrentEntry
  handledThrough : Option Nat
  heldRoute : Option HeldRoute
  lastOutcome : Option LastOutcome
  settle : RouteSettle
deriving DecidableEq, Repr

inductive ChangeKind where
  | seamless | drivesOnly | retune | reroute
deriving DecidableEq, Repr

inductive TuneMode where
  | none | preset | auto
deriving DecidableEq, Repr

inductive ChangePhase where
  | planned | rampingDown | routing | tuning | standingBy | rampingUp | done | abandoned
deriving DecidableEq, Repr

/-- The pre-use check of a changeover in ROUTING, R85. -/
inductive CheckState where
  | notDue | asked | cleared
deriving DecidableEq, Repr

/-- An order of a SEAMLESS changeover, R84: awaited, awaited through the order that replaced it, or accepted. -/
inductive OrderWait where
  | awaited | following | accepted
deriving DecidableEq, Repr

/-- A changeover record, R81, and the working marks of its phases: `check`, `closeOrdered`, `tuneOrdered` (R85, R87),
`switched` (R89), `powerWait` and `feedWait` (R84), `parkOrdered` (R91), `routeDs` (the ROUTE of R82 and R86), `endCap` (the
handover instant that bounds its entry's end, R95); and what it keeps of its entry: the start instant of the occurrence (R77;
none when it is for the rest of an entry that has none) and the late limit (4.2). -/
structure Changeover where
  entryId : Nat
  day : Nat
  target : Target
  substituted : Bool
  alternate : Option Target
  freq : Nat
  power : Nat
  feed : Nat
  kind : ChangeKind
  tuneMode : TuneMode
  leadS : Nat
  ps : Nat
  x : Nat
  lateness : Nat
  s : Nat
  endAt : Nat
  priorHandled : Option Nat
  routeStart : Option Nat
  actualOn : Option Nat
  flags : CauseFlags
  phase : ChangePhase
  cause : Option Cause
  routeDs : Nat
  check : CheckState
  closeOrdered : Bool
  tuneOrdered : Bool
  switched : Bool
  powerWait : OrderWait
  feedWait : OrderWait
  parkOrdered : Bool
  endCap : Option Nat
  startAt : Option Nat
  lateLimit : Option Nat
deriving DecidableEq, Repr

/-- One item of the skip list, R76, with the end instant of its occurrence. -/
structure SkipItem where
  tx : Nat
  entryId : Nat
  day : Nat
  endAt : Nat
deriving DecidableEq, Repr

/-- Work of the executor that reads entries, and so waits for a read of the store (R32): the work of R78 for a transmitter, at a
second event or not, and the settling of a route (R92). -/
inductive ExecWork where
  | pass (tx : Nat) (second : Bool)
  | settle (tx : Nat)
deriving DecidableEq, Repr

structure Executor where
  state : ExecState
  rebuild : Bool
  skip : List SkipItem
  duties : List Duty
  changeovers : List (Option Changeover)
  readWork : List ExecWork
deriving DecidableEq, Repr

/-! ## Matrix Controller, chapter 6 -/

inductive MoverPhase where
  | rest | queued | moving | settling | validating | halted
deriving DecidableEq, Repr

inductive MoverFault where
  | timeout | conflict | lost
deriving DecidableEq, Repr

/-- Who asks for a motion, R107. `survey` is MC's clean-up of R119. -/
inductive Requester where
  | executor (tx : Nat)
  | diagRun | diagPreUse | host | survey
deriving DecidableEq, Repr

structure MotionRequest where
  target : Position
  requester : Requester
  priority : Nat
  age : Nat
deriving DecidableEq, Repr

/-- A watch, R105: when the confirmed contact broke, when the watch ends, and since when the contact is made again. -/
structure Watch where
  brokeAt : Nat
  endsAt : Nat
  madeSince : Option Nat
deriving DecidableEq, Repr

/-- A read in progress, R118: its end, the one position made ever since it began, if so, and whether it is the read of a mover that
has become present (R3), whose crosspoint counts as OPEN until then (notes/assumptions/11.md). -/
structure MoverRead where
  endsAt : Nat
  steady : Option Position
  fresh : Bool
deriving DecidableEq, Repr

/-- A mover record, R99. `contacts` are the position contacts made now (the pins), from which `sensed` is read; `run` is the run
order; `joined` are requesters who share the motion's outcome (R108). -/
structure Mover where
  contacts : List Position
  confirmed : Option Position
  phase : MoverPhase
  target : Option Position
  followOn : Option MotionRequest
  fault : Option MoverFault
  requester : Option Requester
  priority : Nat
  age : Nat
  joined : List Requester
  watch : Option Watch
  run : Option Position
  timer : Option Nat
  window : Option Nat
  reading : Option MoverRead
deriving DecidableEq, Repr

/-- Causes of a row fault, R112. -/
inductive RowCause where
  | mover | column | survey
deriving DecidableEq, Repr

/-- One antenna's claims, 6.7. `openRows` are the rows whose crosspoint in the column was last found not confirmed OPEN. -/
structure AntennaClaims where
  occupant : Option Nat
  reservation : Option Nat
  testClaim : Bool
  openRows : List Nat
deriving DecidableEq, Repr

/-- The survey, R117, R121: complete, or running over the whole matrix or one row, reading or cleaning up. -/
inductive SurveyState where
  | complete
  | running (row : Option Nat) (cleaning : Bool)
deriving DecidableEq, Repr

structure Matrix where
  movers : List Mover
  ageCounter : Nat
  haltList : List Nat
  rowFaults : List (List RowCause)
  claims : List AntennaClaims
  survey : SurveyState
  surveyed : Bool
deriving DecidableEq, Repr

/-! ## Permit Unit, chapter 7 -/

/-- The causes of a fall in their order of precedence, R125. -/
inductive FallCause where
  | lockout | link | safety | arc | antenna | route | request
deriving DecidableEq, Repr

structure PermitRow where
  line : Bool
  request : Bool
  offSince : Nat
  cold : Bool
  lastFall : Option (FallCause × Nat)
  drops : Nat
deriving DecidableEq, Repr

inductive SafetyKind where
  | stop | cage | rows | note
deriving DecidableEq, Repr

inductive SafetyState where
  | inactive | active | releasing
deriving DecidableEq, Repr

structure SafetyInput where
  kind : SafetyKind
  level : Level
  rows : List Nat
  state : SafetyState
  sensed : Level
  activations : Nat
  window : Option Nat
deriving DecidableEq, Repr

structure PermitUnit where
  rows : List PermitRow
  inputs : List SafetyInput
  arcHolds : List (Option Nat)
  resetAlertAt : Option Nat
deriving DecidableEq, Repr

/-! ## Transmitter Sequencers, chapter 8 -/

inductive SeqState where
  | unknown | off | tuning | tuned | rampUp | onAir | rampDown | muted | recoveryWait | lockout | linkLost | fault
deriving DecidableEq, Repr

inductive OrderKind where
  | tunePreset | tuneAuto | rfOn | rfOff | mute | power | feed | clearTrip
deriving DecidableEq, Repr

/-- The orders with their fields, R142. -/
inductive Order where
  | tunePreset (freq s1 s2 s3 s4 : Nat)
  | tuneAuto (freq kw : Nat)
  | rfOn (power ramp feed : Nat)
  | rfOff (ramp : Nat)
  | mute
  | power (power : Nat)
  | feed (feed : Nat)
  | clearTrip
deriving DecidableEq, Repr

/-- The owners of 8.3. `quench` marks an order of a quench, which never makes the sequencer enter FAULT (R146). -/
inductive OrderOwner where
  | executor | protection | host | sequencer | quench
deriving DecidableEq, Repr

inductive OrderEnd where
  | accepted
  | refused (reason : Nat)
  | timeout | replaced | superseded | discarded | notTaken | noPreset
deriving DecidableEq, Repr

structure QueuedOrder where
  order : Order
  owner : OrderOwner
deriving DecidableEq, Repr

structure Outstanding where
  order : Order
  number : Nat
  owner : OrderOwner
  sentAt : Nat
deriving DecidableEq, Repr

structure OrderRecord where
  kind : OrderKind
  number : Option Nat
  owner : OrderOwner
  outcome : OrderEnd
deriving DecidableEq, Repr

inductive MuteOrigin where
  | trip | drop | host | rampDown
deriving DecidableEq, Repr

structure Mute where
  origin : MuteOrigin
  accepted : Bool
  notice : Option Nat
deriving DecidableEq, Repr

inductive SeqFault where
  | orderTimeout | txRefused | tuneTimeout | tuneAborted | offTimeout
deriving DecidableEq, Repr

/-- The receiver of a transmitter link, R138; `huntSync` is HUNT with one sync octet taken. TAKING holds the octets taken from the
length octet on. -/
inductive LinkReceiver where
  | hunt | huntSync | sync
  | taking (octets : List Byte)
deriving DecidableEq, Repr

inductive LinkState where
  | down | up | lost
deriving DecidableEq, Repr

/-- The quench by which UNKNOWN and LINK_LOST are left, R149. -/
inductive QuenchState where
  | none | inProgress | failed
deriving DecidableEq, Repr

structure HeldReport where
  report : Report
  arrived : Nat
deriving DecidableEq, Repr

structure LinkCounters where
  good : Nat
  crc : Nat
  length : Nat
  format : Nat
  syncs : Nat
deriving DecidableEq, Repr

/-- A sequencer. `tuneFreq` and `tuneAnt` are the frequency and antenna of the tune in progress; `restart` is the restart power
held in RECOVERY_WAIT; `kept` is a recovery notice kept for the drop it answers (R170); `lastFeed` is the last feed ordered
(R75); `lastFrame` is the latest order frame put on the link (R137). -/
structure Sequencer where
  state : SeqState
  tuneMode : TuneMode
  tuneFreq : Nat
  tuneAnt : Option Nat
  tunedFreq : Option Nat
  timer : Option Nat
  mute : Option Mute
  restart : Option Nat
  faultCause : Option SeqFault
  receiver : LinkReceiver
  link : LinkState
  report : Option HeldReport
  counter : Nat
  outstanding : Option Outstanding
  queue : List QueuedOrder
  deferred : List QueuedOrder
  lastOrder : Option OrderRecord
  feedback : Option (Nat × Nat)
  quench : QuenchState
  kept : Option Nat
  lastFeed : Nat
  lastFrame : List Byte
  counters : LinkCounters
deriving DecidableEq, Repr

/-! ## Protection Unit, chapter 9 -/

/-- The causes of a trip, R168. -/
inductive TripCause where
  | vswr | foldFloor | rampFail | tx | arc | route | antenna | safety | link
deriving DecidableEq, Repr

inductive TripOutcome where
  | recovery | lockout | none
deriving DecidableEq, Repr

structure LastTrip where
  cause : TripCause
  code : Nat
  elapsed : Nat
  counted : Bool
  outcome : TripOutcome
deriving DecidableEq, Repr

structure Protection where
  limit : Option Nat
  floor : Nat
  commanded : Nat
  working : Nat
  ratio : Option Nat
  evaluatedAt : Option Nat
  warn : Bool
  folded : Bool
  lastFold : Option Nat
  restoreRun : Option Nat
  history : List Nat
  lockout : Bool
  restart : Nat
  lastTrip : Option LastTrip
  counted : Nat
  uncounted : Nat
deriving DecidableEq, Repr

structure ArcRecord where
  history : List Nat
  count : Nat
deriving DecidableEq, Repr

structure ProtectionUnit where
  settings : ProtSettings
  txs : List Protection
  arcs : List ArcRecord
deriving DecidableEq, Repr

/-! ## Preset Cache, chapter 10 -/

structure PresetRecord where
  valid : Bool
  antenna : Nat
  channel : Nat
  s1 : Nat
  s2 : Nat
  s3 : Nat
  s4 : Nat
  quality : Nat
  check : BitVec 16
deriving DecidableEq, Repr

structure PresetSet where
  way0 : PresetRecord
  way1 : PresetRecord
  lru : Nat
deriving DecidableEq, Repr

structure PresetWindow where
  enabled : Bool
  base : Nat
  exponent : Nat
deriving DecidableEq, Repr

inductive PresetErrorKind where
  | double | duplicate
deriving DecidableEq, Repr

inductive PresetSource where
  | probe | lookup | fill | scrub | host
deriving DecidableEq, Repr

structure ErrorLatch where
  kind : PresetErrorKind
  tx : Nat
  setNo : Nat
  way : Nat
  source : PresetSource
  elapsed : Nat
deriving DecidableEq, Repr

/-- How a save or restore ended, R191 to R193. -/
inductive CopyEnd where
  | done
  | failed (page : Nat)
  | frozen | reset
deriving DecidableEq, Repr

structure SaveOutcome where
  outcome : CopyEnd
  pages : Nat
deriving DecidableEq, Repr

/-- The counts of a restore, in the order of the table of R192. -/
structure RestoreCounts where
  blank : Nat
  invalid : Nat
  bad : Nat
  windowed : Nat
  present : Nat
  full : Nat
  installed : Nat
deriving DecidableEq, Repr

structure RestoreOutcome where
  outcome : CopyEnd
  pages : Nat
  counts : RestoreCounts
deriving DecidableEq, Repr

/-- A save in progress: the next page to offer and the pages that have ended DONE. -/
structure SaveRun where
  next : Nat
  done : Nat
deriving DecidableEq, Repr

/-- A restore in progress: the next page to read, when its interval ends, whether its read waits, and the counts so far. -/
structure RestoreRun where
  next : Nat
  dueAt : Nat
  waiting : Bool
  counts : RestoreCounts
deriving DecidableEq, Repr

structure PresetCache where
  directories : List (List PresetSet)
  windows : List PresetWindow
  frozen : Bool
  scrubTx : Nat
  scrubSet : Nat
  scrubWay : Nat
  scrubAt : Option Nat
  latch : Option ErrorLatch
  more : Bool
  corrected : Nat
  double : Nat
  duplicate : Nat
  save : Option SaveRun
  restore : Option RestoreRun
  lastSave : Option SaveOutcome
  lastRestore : Option RestoreOutcome
deriving DecidableEq, Repr

/-! ## Line Diagnostics, chapter 11 -/

/-- A fault set, R194: bit 0 UNCHECKED, 1 SHORT_GND, 2 OPEN, 3 CROSS, 4 MISMATCH, 5 ARC, 6 DRIVE, 7 ROUTE. -/
abbrev FaultSet := BitVec 8

inductive DiagStep where
  | insul | loop | cross | matching
deriving DecidableEq, Repr

inductive StepResult where
  | pass | fail | omitted | notSelected | discarded
deriving DecidableEq, Repr

inductive PlanOutcome where
  | notReached | pass | failed | aborted | skippedUndefined | skippedFaulty | skippedBusy
deriving DecidableEq, Repr

/-- The result of one neighbour in a CROSS step, R201. -/
inductive CrossResult where
  | pass | fail | notTested | passedOver
deriving DecidableEq, Repr

/-- One antenna of the run plan, R199 to R201. A step result is none until it is known. -/
structure PlanEntry where
  antenna : Nat
  outcome : PlanOutcome
  byDrive : Bool
  flags : FaultSet
  insul : Option StepResult
  loop : Option StepResult
  cross : Option StepResult
  matching : Option StepResult
  neighbours : List (Nat × CrossResult)
  ratio : Option Nat
deriving DecidableEq, Repr

inductive RunState where
  | idle | active | ending
deriving DecidableEq, Repr

inductive RunOutcome where
  | done | stopped | safety | busFault | reset
deriving DecidableEq, Repr

/-- Where the run stands with its current antenna, R198 to R200: waiting for the bus before its self-check, in its self-check,
before the claim of its next antenna, closing the test switch, measuring, opening the switch to yield the bus, waiting after
a yield, opening the switch at the end of the antenna. -/
inductive RunPhase where
  | waitBus | selfCheck | nextAntenna | connecting | measuring | yielding | yielded | disconnecting
deriving DecidableEq, Repr

/-- The run position: the place in the plan (from 0), its phase, the next or present step, the neighbour of a CROSS step. -/
structure RunPosition where
  index : Nat
  phase : RunPhase
  step : DiagStep
  neighbour : Nat
deriving DecidableEq, Repr

inductive BusState where
  | free | selfCheck | runStep | preUse
deriving DecidableEq, Repr

/-- The orders of 11.2; MATCH carries its frequency. -/
inductive BusOrder where
  | selfCheck
  | insul (ant : Nat)
  | loop (ant : Nat)
  | cross (ant neighbour : Nat)
  | matching (ant freq : Nat)
deriving DecidableEq, Repr

structure Measurement where
  order : BusOrder
  tag : Nat
  sentAt : Nat
  discard : Bool
deriving DecidableEq, Repr

inductive BusFaultCause where
  | selfCheck | timeout
deriving DecidableEq, Repr

inductive PreUsePhase where
  | closing | measuring | opening
deriving DecidableEq, Repr

structure PreUse where
  tx : Nat
  antenna : Nat
  phase : PreUsePhase
deriving DecidableEq, Repr

/-- `closedSwitch`: the antenna whose test switch the run has ordered closed, until it has been seen open or faulted at the end of
the antenna. -/
structure Diagnostics where
  faults : List FaultSet
  lastChecked : List (Option Nat)
  run : RunState
  plan : List PlanEntry
  steps : BitVec 4
  outcome : Option RunOutcome
  position : Option RunPosition
  closedSwitch : Option Nat
  bus : BusState
  measurement : Option Measurement
  busFault : Option (BusFaultCause × Nat)
  preUseQueue : List (Nat × Nat)
  preUse : Option PreUse
  tag : Nat
deriving DecidableEq, Repr

/-! ## Link Controller, chapter 12 -/

/-- The receive state of 12.1: HUNT, or TAKING with the octets taken so far, the start octet first, the moment of the start octet and
the end of the receive timer, none while host_timeout_ms is 0 (R206). -/
inductive HostReceiver where
  | hunt
  | taking (octets : List Byte) (startedAt : Nat) (deadline : Option Nat)
deriving DecidableEq, Repr

/-- A waiting frame of the receive buffer, as the request it spells, or as the refusal its form earns (R208). -/
inductive WaitingFrame where
  | request (command : Instr)
  | malformed (kind : Nat) (status : Status)
deriving DecidableEq, Repr

structure HostCounters where
  crc : Nat
  timeout : Nat
  overflow : Nat
  stopBit : Nat
deriving DecidableEq, Repr

/-- A reply frame, R208. -/
structure Reply where
  kind : Nat
  status : Status
  body : List Byte
deriving DecidableEq, Repr

/-- `held` is the kind of the request being handled whose reply waits (R207); `serving` is the model's mark that the next
command is the waiting frame that has reached the head of the buffer. -/
structure LinkController where
  rate : Nat
  receiver : HostReceiver
  held : Option Nat
  waiting : List WaitingFrame
  serving : Bool
  alerts : BitVec 16
  mask : BitVec 16
  counters : HostCounters
  reply : Option Reply
deriving DecidableEq, Repr

/-! ## Hand-overs between blocks -/

/-- A hand-over from one block to another inside one command. Which rule hands it over stands beside each. -/
inductive Notice where
  /-- TB: the second event, R26. -/
  | secondEvent (instant : Nat) (step : TimeStep)
  /-- SE: the work of R78 at a second event, after the handover of that event (R95). -/
  | executorPass (instant : Nat)
  /-- Season Books: the handover notice, R65, R95. -/
  | handover (instant book : Nat)
  /-- MC: confirmed positions, phases or faults have changed; occupancy is derived again (R113). -/
  | matrix
  /-- PU: conditions of R124 or R128 may have changed. -/
  | permits
  /-- MA: a grant is considered, R110. -/
  | arbiter
  /-- PU: a drop notice, R125. -/
  | drop (row : Nat) (cause : FallCause)
  /-- PU: an arc handed to PT, R133, R173. -/
  | arc (ant : Nat) (occupant : Option Nat)
  /-- PU: the line of the row has risen, R126, R144. -/
  | rise (row : Nat)
  /-- LD: a newly set fault flag, R194. -/
  | flagSet (ant : Nat) (flag : Nat)
  /-- MC: a row fault has been set, R112. -/
  | rowFault (row : Nat)
  /-- MC: a grant of a reservation on an antenna that another row occupies, R114. -/
  | reserved (ant : Nat) (tx : Nat)
  /-- MC: a test claim has been withdrawn, R113, R114. -/
  | claimWithdrawn (ant : Nat)
  /-- MC: a motion request has ended FAULT for a requester of LD, R107. -/
  | motionFault (mover : Nat) (requester : Requester)
  /-- MC: the survey may be complete, R119. -/
  | survey
  /-- TQ: the sequencer has entered a state, R148. -/
  | sequencer (tx : Nat)
  /-- TQ: an order has ended, R145. -/
  | orderEnded (tx : Nat) (kind : OrderKind) (owner : OrderOwner) (outcome : OrderEnd)
  /-- TQ: a wait in RECOVERY_WAIT that is over is tested again, R155. -/
  | recovery (tx : Nat)
  /-- SE: a changeover or a route to settle may go on, R84 to R92. -/
  | executor (tx : Nat)
  /-- LD: the outcome of a pre-use check, R203: none for WAIVED, true for PASS, false for FAIL and ABORTED. -/
  | preUse (tx ant : Nat) (passed : Option Bool)
  /-- LD: the bus and the run may go on, R198 to R200. -/
  | diag
  /-- SS: a work item has ended, DONE (none) or FAILED with a cause, R41. -/
  | itemEnded (kind : ItemKind) (failure : Option FailCause)
  /-- SS: an item has left the list, and waiting clients offer again, R41. -/
  | offersAgain
  /-- SS: a read has been served, R32. -/
  | served (reader : Reader)
  /-- SS: the reads of a suspension have been served, and the operation is resumed, R38. -/
  | resumed
deriving DecidableEq, Repr

/-! ## The state -/

structure State where
  pending : List Instr
  clock : Nat
  notices : List Notice
  freeCount : Nat
  straps : Nat
  ht : HallTables
  tb : TimeBase
  ss : Store
  sb : SeasonBooks
  se : Executor
  mc : Matrix
  pu : PermitUnit
  tq : List Sequencer
  pt : ProtectionUnit
  pc : PresetCache
  ld : Diagnostics
  lc : LinkController
deriving DecidableEq, Repr

/-! ## After cold reset -/

/-- The defaults of 1.3; tx_count and ant_count 0. -/
def HallParams.defaults : HallParams :=
  { txCount := 0, antCount := 0, motionSlots := 4, crosspointDs := 40, parkDs := 40, testDs := 30, settle := 5, validate := 12,
    horizonS := 900, guardDs := 20, coldDs := 10, parkGapS := 120, antennaWaitS := 120, arcHoldDs := 5, hostTimeoutMs := 50,
    txStaleDs := 6, txLinkDs := 20, orderDs := 10, scrubMs := 50, presetQualityPm := 60 }

/-- The defaults of 9.7. -/
def ProtSettings.defaults : ProtSettings :=
  { warnPm := 40, foldPm := 64, tripPm := 111, foldIntervalDs := 10, restoreIntervalS := 10, recoveryDs := 50,
    tripWindowS := 60, arcWindowS := 300 }

def HallTables.reset : HallTables :=
  { txs := List.replicate 12 none, ants := List.replicate 24 none, params := HallParams.defaults, licence := [],
    locked := false, staging := none, configSource := .blank, licenceSource := .blank }

/-- R29, with the end of the reset at moment `now`. -/
def TimeBase.reset (now : Nat) : TimeBase :=
  { state := .invalid, instant := none, expected := now + 1000, openWindow := none, pendingSet := none, chain := [],
    lastPulse := none, elapsed := 0, ignored := 0 }

/-- R47, over the array as it stands. -/
def Store.reset (array : List Host.Cell) : Store :=
  { array := array, state := .ready, operation := none, item := none, work := [], readWait := [], offerWait := [],
    lastHostOp := none, lastFailure := none, failedSectors := [], suspensions := 0 }

def Findings.empty : Findings := { outcome := .none, list := [], more := false, total := 0 }

/-- The record of a book whose region is blank, R66. -/
def Book.empty : Book :=
  { state := .empty, season := none, firstDay := 0, lastDay := 0, entriesAdded := 0, sealed := none, slotA := .free,
    slotB := .free, slots := List.replicate 4 .blank, pendingHandover := none, activation := none, findings := Findings.empty,
    runIndex := none, missing := [] }

def SeasonBooks.reset : SeasonBooks :=
  { book0 := Book.empty, book1 := Book.empty, scanRunning := false, verifier := none, markCount := 0 }

def Duty.reset : Duty :=
  { mode := .auto, current := none, handledThrough := none, heldRoute := none, lastOutcome := none, settle := .none }

/-- The table at the head of chapter 5, after either reset. -/
def Executor.reset : Executor :=
  { state := .stopped, rebuild := false, skip := [], duties := List.replicate 12 Duty.reset,
    changeovers := List.replicate 12 none, readWork := [] }

/-- A mover UNKNOWN at REST over the contacts its pins show, R123. -/
def Mover.reset (contacts : List Position) : Mover :=
  { contacts := contacts, confirmed := none, phase := .rest, target := none, followOn := none, fault := none,
    requester := none, priority := 0, age := 0, joined := [], watch := none, run := none, timer := none, window := none,
    reading := none }

def AntennaClaims.reset : AntennaClaims :=
  { occupant := none, reservation := none, testClaim := false, openRows := [] }

/-- R123 when no mover is present: the start-up survey has nothing to read or clean up and is complete. -/
def Matrix.reset : Matrix :=
  { movers := List.replicate 372 (Mover.reset []), ageCounter := 0, haltList := [], rowFaults := List.replicate 12 [],
    claims := List.replicate 24 AntennaClaims.reset, survey := .complete, surveyed := true }

def PermitRow.reset (now : Nat) : PermitRow :=
  { line := false, request := false, offSince := now, cold := false, lastFall := none, drops := 0 }

/-- An unwired input with the default definition, 7.4, R136: HIGH is its inactive level, so it is RELEASING. -/
def SafetyInput.reset (windowEnd : Nat) : SafetyInput :=
  { kind := .note, level := .low, rows := [], state := .releasing, sensed := .high, activations := 0, window := some windowEnd }

def PermitUnit.reset : PermitUnit :=
  { rows := List.replicate 12 (PermitRow.reset 0), inputs := List.replicate 8 (SafetyInput.reset 68),
    arcHolds := List.replicate 24 none, resetAlertAt := some 68 }

/-- R161 over the link counters given. -/
def Sequencer.reset (counters : LinkCounters) : Sequencer :=
  { state := .unknown, tuneMode := .none, tuneFreq := 0, tuneAnt := none, tunedFreq := none, timer := none, mute := none,
    restart := none, faultCause := none, receiver := .hunt, link := .down, report := none, counter := 0, outstanding := none,
    queue := [], deferred := [], lastOrder := none, feedback := none, quench := .none, kept := none, lastFeed := 0,
    lastFrame := [], counters := counters }

def LinkCounters.zero : LinkCounters := { good := 0, crc := 0, length := 0, format := 0, syncs := 0 }

/-- R176 over the trip counters given. -/
def Protection.reset (counted uncounted : Nat) : Protection :=
  { limit := none, floor := 0, commanded := 0, working := 0, ratio := none, evaluatedAt := none, warn := false, folded := false,
    lastFold := none, restoreRun := none, history := [], lockout := false, restart := 0, lastTrip := none, counted := counted,
    uncounted := uncounted }

def ProtectionUnit.reset : ProtectionUnit :=
  { settings := ProtSettings.defaults, txs := List.replicate 12 (Protection.reset 0 0),
    arcs := List.replicate 24 { history := [], count := 0 } }

def PresetRecord.invalid : PresetRecord :=
  { valid := false, antenna := 0, channel := 0, s1 := 0, s2 := 0, s3 := 0, s4 := 0, quality := 0, check := 0 }

def PresetSet.empty : PresetSet := { way0 := PresetRecord.invalid, way1 := PresetRecord.invalid, lru := 0 }

/-- R193, with no configuration record loaded; the first scrub interval ends at `scrubAt`. -/
def PresetCache.reset (scrubAt : Option Nat) : PresetCache :=
  { directories := List.replicate 12 (List.replicate 64 PresetSet.empty),
    windows := List.replicate 4 { enabled := false, base := 0, exponent := 0 }, frozen := false, scrubTx := 1, scrubSet := 0,
    scrubWay := 0, scrubAt := scrubAt, latch := none, more := false, corrected := 0, double := 0, duplicate := 0, save := none,
    restore := none, lastSave := none, lastRestore := none }

/-- R205 with no antenna defined. -/
def Diagnostics.reset : Diagnostics :=
  { faults := List.replicate 24 0, lastChecked := List.replicate 24 none, run := .idle, plan := [], steps := 0, outcome := none,
    position := none, closedSwitch := none, bus := .free, measurement := none, busFault := none, preUseQueue := [],
    preUse := none, tag := 0 }

/-- R211: the values of LC at cold reset, with the rate the straps select. DESIGN CHOICE: the value k of the two straps selects the
rate numbered k (notes/assumptions/6.md). -/
def LinkController.reset (rate : Nat) : LinkController :=
  { rate := rate, receiver := .hunt, held := none, waiting := [], serving := false, alerts := 0, mask := 0xFFFF,
    counters := { crc := 0, timeout := 0, overflow := 0, stopBit := 0 }, reply := none }

/-- The part right after a cold reset with a blank array (R16, R47) and its pins unwired. -/
def State.reset : State :=
  { pending := [], clock := 0, notices := [], freeCount := 0, straps := 0, ht := HallTables.reset, tb := TimeBase.reset 0,
    ss := Store.reset [], sb := SeasonBooks.reset, se := Executor.reset, mc := Matrix.reset, pu := PermitUnit.reset,
    tq := List.replicate 12 (Sequencer.reset LinkCounters.zero), pt := ProtectionUnit.reset,
    pc := PresetCache.reset (some 50), ld := Diagnostics.reset, lc := LinkController.reset 0 }

end Sys2Proof.Machine
end

