-- ==== Sys2Proof/Machine/Ops.lean ====
section
/-! DEFINITION. The named operations every block is written over: numbered tables, the array of the season store, moments,
hand-overs, replies, and one reader and one writer for each table of the state. -/

namespace Sys2Proof.Machine

open Sys2Proof

/-! ## Numbered tables -/

/-- The item numbered `n`, counting from 1; `d` outside the table. -/
def nth {α : Type} (xs : List α) (d : α) (n : Nat) : α := if n = 0 then d else xs.getD (n - 1) d

/-- The table with item `n` (from 1) replaced; unchanged when there is no such item. -/
def setNth {α : Type} (xs : List α) (n : Nat) (v : α) : List α := if n = 0 then xs else xs.set (n - 1) v

/-- The numbers 1 to `n`. -/
def upTo (n : Nat) : List Nat := (List.range n).map (· + 1)

/-- Puts `x` at the end unless it is there. -/
def addOnce {α : Type} [DecidableEq α] (xs : List α) (x : α) : List α := if x ∈ xs then xs else xs ++ [x]

/-! ## The array, R30 -/

/-- The octet at an address; an unlisted octet is erased, 0xFF (notes/assumptions/4.md). -/
def memRead : List Host.Cell → Nat → Byte
  | [], _ => 0xFF
  | (a, v) :: rest, x => if a = x then v else memRead rest x

/-- Writes one octet and keeps the canonical form. -/
def memWrite : List Host.Cell → Nat → Byte → List Host.Cell
  | [], x, v => if v = 0xFF then [] else [(x, v)]
  | (a, w) :: rest, x, v =>
    if x < a then (if v = 0xFF then (a, w) :: rest else (x, v) :: (a, w) :: rest)
    else if x = a then (if v = 0xFF then rest else (x, v) :: rest)
    else (a, w) :: memWrite rest x v

/-- Writes a run of octets upward from an address. -/
def memWriteAll : List Host.Cell → Nat → List Byte → List Host.Cell
  | m, _, [] => m
  | m, x, v :: vs => memWriteAll (memWrite m x v) (x + 1) vs

/-- The octets of a run. -/
def memReadAll (m : List Host.Cell) (x n : Nat) : List Byte := (List.range n).map fun k => memRead m (x + k)

/-- Erases one sector: every octet of it is 0xFF (R34). -/
def memErase (m : List Host.Cell) (sector : Nat) : List Host.Cell := m.filter fun c => c.1 / 4096 != sector

/-- No listed octet lies in the run, so the run is blank (R30). -/
def memBlank (m : List Host.Cell) (x n : Nat) : Bool := m.all fun c => decide (c.1 < x ∨ x + n ≤ c.1)

/-- The canonical form: addresses strictly rising, and no cell equal to what an unlisted address reads as. -/
def memWf (m : List Host.Cell) : Bool := decide (m.Pairwise fun c d => c.1 < d.1) && m.all fun c => c.2 != 0xFF

/-- `n` fresh free octets, numbered from `k` (R30; notes/assumptions/5.md). -/
def freeOctets (k n : Nat) : List Byte := (List.range n).map fun i => Config.freeOctet (k + i)

/-! ## Moments -/

/-- The clock at the moment `m`, or where it stands if it has passed it (notes/assumptions/2.md). -/
def State.reach (s : State) (m : Nat) : State := { s with clock := max s.clock m }

/-- R18: the time is valid in LOCKED and HOLDOVER. -/
def State.timeValid (s : State) : Bool := s.tb.state = .locked || s.tb.state = .holdover

/-- The hall instant, "now": none while the time is not valid (R18). -/
def State.now (s : State) : Option Nat := if s.timeValid then s.tb.instant else none

/-- The current day, none while the time is not valid. -/
def State.today (s : State) : Option Nat := s.now.map (· / 86400)

/-! ## Hand-overs and replies -/

def State.post (s : State) (n : Notice) : State := { s with notices := s.notices ++ [n] }

/-- Posts a notice that asks for a re-examination, unless one is waiting. -/
def State.postOnce (s : State) (n : Notice) : State := { s with notices := addOnce s.notices n }

/-- Sends the reply of the request being handled (R208); a reply that is not OK carries no body. -/
def State.answer (s : State) (kind : Nat) (status : Status) (body : List Byte) : State :=
  { s with lc := { s.lc with
      reply := some { kind := kind, status := status, body := if status = .ok then body else [] }, held := none } }

/-- Accepts or refuses: the first failing check gives the status and changes nothing but the reply (R208). -/
def State.handle (s : State) (kind : Nat) (checks : List (Bool × Status)) (accept : State → State) : State :=
  match checks.find? (fun c => c.1) with
  | some c => s.answer kind c.2 []
  | none => accept s

/-! ## Hall tables -/

def State.params (s : State) : HallParams := s.ht.params

/-- The record of a transmitter slot; a slot above tx_count is undefined (1.1). -/
def State.tx (s : State) (t : Nat) : Option TxRecord := if t ≤ s.ht.params.txCount then nth s.ht.txs none t else none

/-- The record of an antenna slot; a slot above ant_count is undefined (1.2). -/
def State.ant (s : State) (a : Nat) : Option AntRecord := if a ≤ s.ht.params.antCount then nth s.ht.ants none a else none

/-- The transmitter number is 0 or above tx_count. -/
def State.badTx (s : State) (t : Nat) : Bool := t == 0 || decide (s.ht.params.txCount < t)

/-- The antenna number is 0 or above ant_count. -/
def State.badAnt (s : State) (a : Nat) : Bool := a == 0 || decide (s.ht.params.antCount < a)

/-- Settle plus validate, in ms. -/
def State.contactMs (s : State) : Nat := (s.params.settle + s.params.validate) * 4

/-! ## Readers and writers of the numbered tables -/

def State.seq (s : State) (t : Nat) : Sequencer := nth s.tq (Sequencer.reset LinkCounters.zero) t
def State.setSeq (s : State) (t : Nat) (q : Sequencer) : State := { s with tq := setNth s.tq t q }

def State.prot (s : State) (t : Nat) : Protection := nth s.pt.txs (Protection.reset 0 0) t
def State.setProt (s : State) (t : Nat) (p : Protection) : State := { s with pt := { s.pt with txs := setNth s.pt.txs t p } }

def State.arcRecord (s : State) (a : Nat) : ArcRecord := nth s.pt.arcs { history := [], count := 0 } a
def State.setArcRecord (s : State) (a : Nat) (r : ArcRecord) : State :=
  { s with pt := { s.pt with arcs := setNth s.pt.arcs a r } }

def State.permit (s : State) (r : Nat) : PermitRow := nth s.pu.rows (PermitRow.reset 0) r
def State.setPermit (s : State) (r : Nat) (p : PermitRow) : State := { s with pu := { s.pu with rows := setNth s.pu.rows r p } }

def State.input (s : State) (i : Nat) : SafetyInput := nth s.pu.inputs (SafetyInput.reset 0) i
def State.setInput (s : State) (i : Nat) (x : SafetyInput) : State :=
  { s with pu := { s.pu with inputs := setNth s.pu.inputs i x } }

def State.arcHold (s : State) (a : Nat) : Option Nat := nth s.pu.arcHolds none a
def State.setArcHold (s : State) (a : Nat) (h : Option Nat) : State :=
  { s with pu := { s.pu with arcHolds := setNth s.pu.arcHolds a h } }

def State.mover (s : State) (m : Nat) : Mover := nth s.mc.movers (Mover.reset []) m
def State.setMover (s : State) (m : Nat) (x : Mover) : State := { s with mc := { s.mc with movers := setNth s.mc.movers m x } }

def State.claim (s : State) (a : Nat) : AntennaClaims := nth s.mc.claims AntennaClaims.reset a
def State.setClaim (s : State) (a : Nat) (c : AntennaClaims) : State :=
  { s with mc := { s.mc with claims := setNth s.mc.claims a c } }

def State.rowFault (s : State) (r : Nat) : List RowCause := nth s.mc.rowFaults [] r
def State.setRowFault (s : State) (r : Nat) (c : List RowCause) : State :=
  { s with mc := { s.mc with rowFaults := setNth s.mc.rowFaults r c } }

def State.duty (s : State) (t : Nat) : Duty := nth s.se.duties Duty.reset t
def State.setDuty (s : State) (t : Nat) (d : Duty) : State := { s with se := { s.se with duties := setNth s.se.duties t d } }

def State.change (s : State) (t : Nat) : Option Changeover := nth s.se.changeovers none t
def State.setChange (s : State) (t : Nat) (c : Option Changeover) : State :=
  { s with se := { s.se with changeovers := setNth s.se.changeovers t c } }

def State.faultSet (s : State) (a : Nat) : FaultSet := nth s.ld.faults 0 a
def State.setFaultSet (s : State) (a : Nat) (f : FaultSet) : State := { s with ld := { s.ld with faults := setNth s.ld.faults a f } }

def State.lastChecked (s : State) (a : Nat) : Option Nat := nth s.ld.lastChecked none a
def State.setLastChecked (s : State) (a : Nat) (d : Option Nat) : State :=
  { s with ld := { s.ld with lastChecked := setNth s.ld.lastChecked a d } }

def State.book (s : State) (b : Nat) : Book := if b = 0 then s.sb.book0 else s.sb.book1
def State.setBook (s : State) (b : Nat) (x : Book) : State :=
  if b = 0 then { s with sb := { s.sb with book0 := x } } else { s with sb := { s.sb with book1 := x } }

/-- Set `n` (from 0) of a transmitter's directory, R177. -/
def State.presetSet (s : State) (t n : Nat) : PresetSet := (nth s.pc.directories [] t).getD n PresetSet.empty
def State.setPresetSet (s : State) (t n : Nat) (x : PresetSet) : State :=
  { s with pc := { s.pc with directories := setNth s.pc.directories t ((nth s.pc.directories [] t).set n x) } }

def State.setStore (s : State) (x : Store) : State := { s with ss := x }

end Sys2Proof.Machine
end

