-- ==== Sys2Proof/Machine/Flags.lean ====
section
/-! DEFINITION. The three sets of flags: alert flags and the ALERT line (12.4), antenna fault flags (R194), cause flags (R81). -/

namespace Sys2Proof.Machine

open Sys2Proof

/-- The alert flags in the order of their mask bits, R212. -/
inductive Alert where
  | linkErr | time | storeDone | storeFault | book | seasonEnd | late | abandon
  | mover | safety | trip | lockout | txLink | preset | diagDone | antenna
deriving DecidableEq, Repr

/-- The mask bit of a flag, R212. -/
def Alert.bit : Alert → Nat
  | .linkErr => 0 | .time => 1 | .storeDone => 2 | .storeFault => 3 | .book => 4 | .seasonEnd => 5 | .late => 6 | .abandon => 7
  | .mover => 8 | .safety => 9 | .trip => 10 | .lockout => 11 | .txLink => 12 | .preset => 13 | .diagDone => 14 | .antenna => 15

/-- Sets an alert flag; a flag already set stays set (R212). -/
def State.alert (s : State) (f : Alert) : State :=
  { s with lc := { s.lc with alerts := s.lc.alerts ||| BitVec.ofNat 16 (2 ^ f.bit) } }

/-- ALERT is asserted exactly when some alert flag is set whose mask bit is enabled (R212). -/
def State.alertLine (s : State) : Bool := s.lc.alerts &&& s.lc.mask != 0

/-- Whether a flag is set. -/
def State.alertSet (s : State) (f : Alert) : Bool := s.lc.alerts.getLsbD f.bit

/-- The fault flags of an antenna by bit, R194. -/
inductive FaultFlag where
  | unchecked | shortGnd | openLoop | cross | mismatch | arc | drive | route
deriving DecidableEq, Repr

def FaultFlag.bit : FaultFlag → Nat
  | .unchecked => 0 | .shortGnd => 1 | .openLoop => 2 | .cross => 3 | .mismatch => 4 | .arc => 5 | .drive => 6 | .route => 7

def FaultFlag.mask (f : FaultFlag) : FaultSet := BitVec.ofNat 8 (2 ^ f.bit)

/-- LD adds a flag to an antenna's fault set (R194): a flag newly set sets alert ANTENNA and is told to the Permit Unit and the
Schedule Executor; an antenna that is undefined or above ant_count is disregarded. -/
def State.addFault (s : State) (a : Nat) (f : FaultFlag) : State :=
  if (s.ant a).isNone then s
  else if (s.faultSet a).getLsbD f.bit then s
  else (((s.setFaultSet a (s.faultSet a ||| f.mask)).alert .antenna).postOnce .permits).post (.flagSet a f.bit)

/-- An antenna is available when it is defined, in service and its fault set is empty (R194). -/
def State.available (s : State) (a : Nat) : Bool :=
  match s.ant a with
  | some r => r.inService && s.faultSet a == 0
  | none => false

def flagCapped : CauseFlags := 1
def flagPrecheck : CauseFlags := 2
def flagWaived : CauseFlags := 4
def flagPresetLost : CauseFlags := 8
def flagWaitAntenna : CauseFlags := 16
def flagLate : CauseFlags := 32

end Sys2Proof.Machine
end

