-- ==== Sys2Proof/Machine/Operands.lean ====
section
/-! DEFINITION. How operands are laid out in octets (R209, 12.6): integers, sets, optional parts, checksums, the schedule entry
record; and the range checks that the tables of fields give. -/

namespace Sys2Proof.Machine

open Sys2Proof

/-! ## Writing, R209 -/

def u8 (n : Nat) : List Byte := [byte n]
def u16 (n : Nat) : List Byte := [byte (n / 256), byte n]
def u32 (n : Nat) : List Byte := [byte (n / 16777216), byte (n / 65536), byte (n / 256), byte n]
def flag (b : Bool) : List Byte := u8 (if b then 1 else 0)

/-- An optional part behind its presence octet. -/
def opt {α : Type} (x : Option α) (f : α → List Byte) : List Byte :=
  match x with
  | some v => u8 1 ++ f v
  | none => u8 0

/-- A list behind its count octet. -/
def counted {α : Type} (xs : List α) (f : α → List Byte) : List Byte := u8 xs.length ++ xs.flatMap f

/-- An instant as a day followed by a second of day. -/
def instantOctets (i : Nat) : List Byte := u16 (i / 86400) ++ u32 (i % 86400)

/-- The mask of a set of numbers: member n is bit n − 1. -/
def maskOf (xs : List Nat) : Nat := xs.foldl (fun m n => m ||| (if n = 0 then 0 else 2 ^ (n - 1))) 0

/-- A slew in two's complement. -/
def slewOctet (v : Int) : List Byte := u8 (if v < 0 then 256 - v.natAbs else v.natAbs)

/-- A moment as the ds since it, saturating at 65535. DESIGN CHOICE: a part of a ds that has begun is not counted
(notes/assumptions/32.md). -/
def sinceDs (s : State) (m : Nat) : Nat := min 65535 ((s.clock - m) / 100)

/-- The ds left until a deadline, rounded up, or 0. -/
def leftDs (s : State) (m : Nat) : Nat := min 65535 (ceilDiv (m - s.clock) 100)

/-! ## Reading -/

def octetAt (bs : List Byte) (i : Nat) : Nat := (bs.getD i 0).toNat
def wordAt (bs : List Byte) (i : Nat) : Nat := octetAt bs i * 256 + octetAt bs (i + 1)
def longAt (bs : List Byte) (i : Nat) : Nat := wordAt bs i * 65536 + wordAt bs (i + 2)

/-- An octet as a signed number. -/
def signedOctet (n : Nat) : Int := if n < 128 then (n : Int) else (n : Int) - 256

/-- The members of a mask of `width` members, in ascending number. -/
def membersOf (width mask : Nat) : List Nat := (upTo width).filter fun n => mask.testBit (n - 1)

/-! ## Checksums, 12.6 -/

def crc16Shift (c : BitVec 16) : BitVec 16 := if c.getLsbD 15 then (c <<< 1) ^^^ 0x1021 else c <<< 1

def crc16Octet (c : BitVec 16) (b : Byte) : BitVec 16 :=
  Nat.repeat crc16Shift 8 (c ^^^ ((b.zeroExtend 16) <<< 8))

/-- CRC-16: polynomial 0x1021, initial value 0xFFFF, most significant bit first, no final inversion. -/
def crc16 (bs : List Byte) : BitVec 16 := bs.foldl crc16Octet 0xFFFF

def crc32Shift (c : BitVec 32) : BitVec 32 := if c.getLsbD 0 then (c >>> 1) ^^^ 0xEDB88320 else c >>> 1

def crc32Octet (c : BitVec 32) (b : Byte) : BitVec 32 := Nat.repeat crc32Shift 8 (c ^^^ b.zeroExtend 32)

/-- The CRC-32 register after more octets; it begins at 0xFFFFFFFF. -/
def crc32More (c : BitVec 32) (bs : List Byte) : BitVec 32 := bs.foldl crc32Octet c

/-- CRC-32: polynomial 0x04C11DB7 taken least significant bit first, final inversion. -/
def crc32 (bs : List Byte) : BitVec 32 := ~~~ crc32More 0xFFFFFFFF bs

/-! ## Statuses and host frames -/

/-- The status codes of R208. -/
def Status.code : Status → Nat
  | .ok => 0 | .frame => 1 | .unknownKind => 2 | .range => 3 | .state => 4 | .busy => 5 | .writeProtected => 6 | .notBlank => 7
  | .licence => 8 | .conflict => 9 | .unavailable => 10 | .noTime => 11

/-- The octets of a reply frame, R208: start octet, LEN, kind + 0x80, status, body, CRC-16 over LEN to the end of the body. DESIGN
CHOICE: for an unknown kind of 0x80 or above the kind octet is kind + 0x80 modulo 256 (notes/assumptions/22.md). -/
def Reply.octets (r : Reply) : List Byte :=
  let covered := u16 (r.body.length + 2) ++ u8 (r.kind + 0x80) ++ u8 (Status.code r.status) ++ r.body
  u8 0x5A ++ covered ++ u16 (crc16 covered).toNat

/-! ## Field ranges of the tables -/

def within (lo hi n : Nat) : Bool := decide (lo ≤ n ∧ n ≤ hi)

/-- A frequency: a multiple of 5 from 2300 to 26100 kHz (00_scope). -/
def freqOk (f : Nat) : Bool := within 2300 26100 f && f % 5 == 0

/-- A field with a default, where 0 stands for the default. -/
def withinOrZero (lo hi n : Nat) : Bool := n == 0 || within lo hi n

/-- A yes-or-no octet (R209). -/
def yesNo (n : Nat) : Bool := decide (n ≤ 1)

/-- The ranges of 1.3 and tx_stale_ds ≤ tx_link_ds (R4). -/
def HallParams.inRange (p : HallParams) : Bool :=
  within 1 12 p.txCount && within 1 24 p.antCount && within 1 4 p.motionSlots && within 5 200 p.crosspointDs &&
  within 5 200 p.parkDs && within 5 200 p.testDs && within 0 63 p.settle && within 0 63 p.validate &&
  within 60 1800 p.horizonS && within 0 600 p.guardDs && within 0 100 p.coldDs && within 0 3600 p.parkGapS &&
  within 10 600 p.antennaWaitS && within 1 100 p.arcHoldDs && within 0 255 p.hostTimeoutMs && within 2 50 p.txStaleDs &&
  within 5 100 p.txLinkDs && within 2 100 p.orderDs && within 0 1000 p.scrubMs && within 1 999 p.presetQualityPm &&
  decide (p.txStaleDs ≤ p.txLinkDs)

/-- The ranges of 1.1, with 0 for a default, and freq_low ≤ freq_high (R1). -/
def TxFields.inRange (f : TxFields) : Bool :=
  yesNo f.inService && within 10 1000 f.ratingKw && freqOk f.freqLow && freqOk f.freqHigh && decide (f.freqLow ≤ f.freqHigh) &&
  withinOrZero 10 600 f.rampUpDs && withinOrZero 5 600 f.rampDownDs && withinOrZero 10 600 f.presetDs &&
  withinOrZero 100 1800 f.autotuneDs && withinOrZero 1 10 f.tuneKw

/-- The value or, for 0, the default. -/
def orDefault (n d : Nat) : Nat := if n = 0 then d else n

/-- The record TX_DEFINE stores (R1). -/
def TxFields.record (f : TxFields) : TxRecord :=
  { inService := f.inService == 1, ratingKw := f.ratingKw, freqLow := f.freqLow, freqHigh := f.freqHigh,
    rampUpDs := orDefault f.rampUpDs 50, rampDownDs := orDefault f.rampDownDs 20, presetDs := orDefault f.presetDs 80,
    autotuneDs := orDefault f.autotuneDs 450, tuneKw := orDefault f.tuneKw 5 }

/-- The ranges of 1.2 and the neighbour list for antenna `a` of `count` (R2). -/
def AntFields.inRange (f : AntFields) (a count : Nat) : Bool :=
  yesNo f.inService && freqOk f.bandLow && freqOk f.bandHigh && decide (f.bandLow ≤ f.bandHigh) && within 1 1000 f.maxKw &&
  within 0 2 f.slewRange && yesNo f.reverser && withinOrZero 50 600 f.slewStepDs && withinOrZero 100 900 f.revDs &&
  yesNo f.precheck && decide (f.neighbours.length ≤ 2) && decide f.neighbours.Nodup && !(f.neighbours.contains a) &&
  f.neighbours.all (within 1 count) && withinOrZero 1 999 f.matchLimitPm

/-- The record ANT_DEFINE stores (R2). -/
def AntFields.record (f : AntFields) : AntRecord :=
  { inService := f.inService == 1, bandLow := f.bandLow, bandHigh := f.bandHigh, maxKw := f.maxKw, slewRange := f.slewRange,
    reverser := f.reverser == 1, slewStepDs := orDefault f.slewStepDs 150, revDs := orDefault f.revDs 300,
    precheck := f.precheck == 1, neighbours := f.neighbours, matchLimitPm := orDefault f.matchLimitPm 150 }

/-- The ranges of a licence line, 1.4. -/
def LicenceLine.inRange (l : LicenceLine) : Bool :=
  freqOk l.freqLow && freqOk l.freqHigh && decide (l.freqLow ≤ l.freqHigh) && within 1 1000 l.maxKw &&
  !l.transmitters.isEmpty && l.transmitters.all (within 1 12) && !l.antennas.isEmpty && l.antennas.all (within 1 24)

/-- The ranges of 9.7 and warn < fold < trip (R174). -/
def ProtSettings.inRange (p : ProtSettings) : Bool :=
  within 1 999 p.warnPm && within 1 999 p.foldPm && within 1 999 p.tripPm && within 1 600 p.foldIntervalDs &&
  within 1 600 p.restoreIntervalS && within 10 600 p.recoveryDs && within 1 3600 p.tripWindowS && within 1 3600 p.arcWindowS &&
  decide (p.warnPm < p.foldPm) && decide (p.foldPm < p.tripPm)

/-! ## The schedule entry record, 12.6 -/

/-- Where the presence octets of a record stand and where its parts end. -/
structure EntryPlaces where
  alternate : Nat
  window : Nat
  late : Nat
  stop : Nat

def entryPlaces (bs : List Byte) : EntryPlaces :=
  let w := if octetAt bs 17 = 1 then 21 else 18
  let l := if octetAt bs w = 1 then w + 5 else w + 1
  { alternate := 17, window := w, late := l, stop := if octetAt bs l = 1 then l + 3 else l + 1 }

/-- The presence octets that stand within the octets given hold 0 or 1 (R208). -/
def entryPresenceOk (bs : List Byte) : Bool :=
  let p := entryPlaces bs
  [p.alternate, p.window, p.late].all fun i => decide (octetAt bs i ≤ 1)

def targetAt (bs : List Byte) (i : Nat) : Target :=
  { antenna := octetAt bs i, slew := signedOctet (octetAt bs (i + 1)), reversed := octetAt bs (i + 2) == 1 }

/-- The fields of a record of the layout of 12.6. -/
def entryOf (bs : List Byte) : Entry :=
  let p := entryPlaces bs
  { entryId := wordAt bs 1, tx := octetAt bs 3, days := octetAt bs 4, startMin := wordAt bs 5, endMin := wordAt bs 7,
    freq := wordAt bs 9, power := wordAt bs 11, primary := targetAt bs 13, feed := octetAt bs 16,
    alternate := if octetAt bs p.alternate = 1 then some (targetAt bs 18) else none,
    window := if octetAt bs p.window = 1 then some (wordAt bs (p.window + 1), wordAt bs (p.window + 3)) else none,
    lateLimit := if octetAt bs p.late = 1 then some (wordAt bs (p.late + 1)) else none }

def targetOk (bs : List Byte) (i : Nat) : Bool :=
  within 1 24 (octetAt bs i) && decide (-2 ≤ signedOctet (octetAt bs (i + 1)) ∧ signedOctet (octetAt bs (i + 1)) ≤ 2) &&
  yesNo (octetAt bs (i + 2))

/-- A record whose fields lie in the ranges of 4.2 and whose fill is 0x00 (12.6). DESIGN CHOICE: the fill may take all the octets up
to a length of 36, whatever parts are present (notes/assumptions/29.md). -/
def entryInRange (bs : List Byte) : Bool :=
  let p := entryPlaces bs
  let e := entryOf bs
  within 20 36 bs.length && decide (p.stop ≤ bs.length) && (bs.drop p.stop).all (· == 0) && within 1 65535 e.entryId &&
  within 1 12 e.tx && within 1 127 e.days && within 0 1439 e.startMin && within 1 1440 e.endMin &&
  decide (e.startMin < e.endMin) && freqOk e.freq && within 1 1000 e.power && targetOk bs 13 && within 1 16 e.feed &&
  (octetAt bs p.alternate != 1 || targetOk bs 18) &&
  (match e.window with | some w => decide (w.1 ≤ w.2) | none => true) &&
  (match e.lateLimit with | some l => within 0 600 l | none => true)

/-- A stored record can be read as a record: its length and presence octets hold together (R56). -/
def entryReadable (bs : List Byte) : Bool :=
  within 20 36 bs.length && entryPresenceOk bs && decide ((entryPlaces bs).stop ≤ bs.length)

/-- The records of a page up to its blank tail; none if a part of it cannot be read as a record (R56). DESIGN CHOICE: 0xFF where a
record would begin starts the tail, and the octets after it are not looked at (notes/assumptions/14.md). The first argument bounds the
number of records a page can hold. -/
def pageRecords : Nat → List Byte → Option (List (List Byte))
  | 0, _ => some []
  | _ + 1, [] => some []
  | n + 1, b :: rest =>
    if b = 0xFF then some []
    else
      let r := (b :: rest).take b.toNat
      if r.length = b.toNat ∧ entryReadable r then (pageRecords n ((b :: rest).drop b.toNat)).map (r :: ·) else none

end Sys2Proof.Machine
end

