-- ==== Sys2Proof/Machine/Records.lean ====
section
/-! DEFINITION. What the part keeps in the season store in a form of its own: the licence and its limit (R7), the licence record
and lock mark, the configuration record, the mark fields of a book. The manual gives what each holds and in which order; the
octet layout is the model's (notes/assumptions/12.md and 13.md). -/

namespace Sys2Proof.Machine

open Sys2Proof

/-! ## The licence, R7 -/

/-- A line covers the frequency and names both the transmitter and the antenna. -/
def LicenceLine.covers (l : LicenceLine) (t a f : Nat) : Bool :=
  decide (l.freqLow ≤ f ∧ f ≤ l.freqHigh) && l.transmitters.contains t && l.antennas.contains a

/-- The licence limit: the greatest max_kw among the lines that cover the combination, 0 if none does. -/
def licenceLimit (lines : List LicenceLine) (t a f : Nat) : Nat :=
  lines.foldl (fun m l => if LicenceLine.covers l t a f then max m l.maxKw else m) 0

/-- The licensed test of R7. -/
def State.licensed (s : State) (t a f p : Nat) : Bool := decide (p ≤ licenceLimit s.ht.licence t a f)

/-! ## Reading a stored record -/

/-- A reader of octets that may run out. -/
abbrev Rd := StateT (List Byte) Option

def rdTake (n : Nat) : Rd (List Byte) := fun bs => if n ≤ bs.length then some (bs.take n, bs.drop n) else none
def rd8 : Rd Nat := do return octetAt (← rdTake 1) 0
def rd16 : Rd Nat := do return wordAt (← rdTake 2) 0
def rd32 : Rd Nat := do return longAt (← rdTake 4) 0

/-- `n` readings one after another. -/
def rdList {α : Type} : Nat → Rd α → Rd (List α)
  | 0, _ => pure []
  | n + 1, r => do
    let x ← r
    let xs ← rdList n r
    return x :: xs

/-- A part behind a presence octet; an octet other than 0 or 1 cannot be read. -/
def rdOpt {α : Type} (r : Rd α) : Rd (Option α) := do
  let p ← rd8
  if p = 0 then return none
  else if p = 1 then return some (← r)
  else failure

/-! ## Records of the tables, as HALL_QUERY, TX_QUERY and ANT_QUERY carry them and as the configuration record keeps them -/

def HallParams.octets (p : HallParams) : List Byte :=
  u8 p.txCount ++ u8 p.antCount ++ u8 p.motionSlots ++ u8 p.crosspointDs ++ u8 p.parkDs ++ u8 p.testDs ++ u8 p.settle ++
  u8 p.validate ++ u16 p.horizonS ++ u16 p.guardDs ++ u8 p.coldDs ++ u16 p.parkGapS ++ u16 p.antennaWaitS ++ u8 p.arcHoldDs ++
  u8 p.hostTimeoutMs ++ u8 p.txStaleDs ++ u8 p.txLinkDs ++ u8 p.orderDs ++ u16 p.scrubMs ++ u16 p.presetQualityPm

def rdHallParams : Rd HallParams := do
  let txCount ← rd8
  let antCount ← rd8
  let motionSlots ← rd8
  let crosspointDs ← rd8
  let parkDs ← rd8
  let testDs ← rd8
  let settle ← rd8
  let validate ← rd8
  let horizonS ← rd16
  let guardDs ← rd16
  let coldDs ← rd8
  let parkGapS ← rd16
  let antennaWaitS ← rd16
  let arcHoldDs ← rd8
  let hostTimeoutMs ← rd8
  let txStaleDs ← rd8
  let txLinkDs ← rd8
  let orderDs ← rd8
  let scrubMs ← rd16
  let presetQualityPm ← rd16
  return { txCount, antCount, motionSlots, crosspointDs, parkDs, testDs, settle, validate, horizonS, guardDs, coldDs, parkGapS,
           antennaWaitS, arcHoldDs, hostTimeoutMs, txStaleDs, txLinkDs, orderDs, scrubMs, presetQualityPm }

def TxRecord.octets (r : TxRecord) : List Byte :=
  flag r.inService ++ u16 r.ratingKw ++ u16 r.freqLow ++ u16 r.freqHigh ++ u16 r.rampUpDs ++ u16 r.rampDownDs ++ u16 r.presetDs ++
  u16 r.autotuneDs ++ u8 r.tuneKw

/-- The fields of TX_DEFINE as they stand on the link and in the record. -/
def rdTxFields : Rd TxFields := do
  let inService ← rd8
  let ratingKw ← rd16
  let freqLow ← rd16
  let freqHigh ← rd16
  let rampUpDs ← rd16
  let rampDownDs ← rd16
  let presetDs ← rd16
  let autotuneDs ← rd16
  let tuneKw ← rd8
  return { inService, ratingKw, freqLow, freqHigh, rampUpDs, rampDownDs, presetDs, autotuneDs, tuneKw }

def AntRecord.octets (r : AntRecord) : List Byte :=
  flag r.inService ++ u16 r.bandLow ++ u16 r.bandHigh ++ u16 r.maxKw ++ u8 r.slewRange ++ flag r.reverser ++ u16 r.slewStepDs ++
  u16 r.revDs ++ flag r.precheck ++ counted r.neighbours u8 ++ u16 r.matchLimitPm

def rdAntFields : Rd AntFields := do
  let inService ← rd8
  let bandLow ← rd16
  let bandHigh ← rd16
  let maxKw ← rd16
  let slewRange ← rd8
  let reverser ← rd8
  let slewStepDs ← rd16
  let revDs ← rd16
  let precheck ← rd8
  let count ← rd8
  let neighbours ← rdList count rd8
  let matchLimitPm ← rd16
  return { inService, bandLow, bandHigh, maxKw, slewRange, reverser, slewStepDs, revDs, precheck, neighbours, matchLimitPm }

def ProtSettings.octets (p : ProtSettings) : List Byte :=
  u16 p.warnPm ++ u16 p.foldPm ++ u16 p.tripPm ++ u16 p.foldIntervalDs ++ u16 p.restoreIntervalS ++ u16 p.recoveryDs ++
  u16 p.tripWindowS ++ u16 p.arcWindowS

def rdProtSettings : Rd ProtSettings := do
  let warnPm ← rd16
  let foldPm ← rd16
  let tripPm ← rd16
  let foldIntervalDs ← rd16
  let restoreIntervalS ← rd16
  let recoveryDs ← rd16
  let tripWindowS ← rd16
  let arcWindowS ← rd16
  return { warnPm, foldPm, tripPm, foldIntervalDs, restoreIntervalS, recoveryDs, tripWindowS, arcWindowS }

def LicenceLine.octets (l : LicenceLine) : List Byte :=
  u16 l.freqLow ++ u16 l.freqHigh ++ u16 l.maxKw ++ u16 (maskOf l.transmitters) ++ u32 (maskOf l.antennas)

/-- A licence line on the link. A mask bit outside the set's members reads as a member outside it, which the range check of
the line refuses (R209). -/
def rdLicenceLine : Rd LicenceLine := do
  let freqLow ← rd16
  let freqHigh ← rd16
  let maxKw ← rd16
  let transmitters ← rd16
  let antennas ← rd32
  return { freqLow, freqHigh, maxKw, transmitters := membersOf 16 transmitters, antennas := membersOf 32 antennas }

/-! ## Codes of the safety input fields, 7.4 -/

def SafetyKind.code : SafetyKind → Nat
  | .stop => 0 | .cage => 1 | .rows => 2 | .note => 3

def safetyKindOf : Nat → Option SafetyKind
  | 0 => some .stop | 1 => some .cage | 2 => some .rows | 3 => some .note | _ => none

def Level.code : Level → Nat
  | .high => 0 | .low => 1

def levelOf : Nat → Option Level
  | 0 => some .high | 1 => some .low | _ => none

/-! ## The configuration record, 1.5 -/

/-- A saved definition of a safety input. -/
structure SafetyDef where
  kind : SafetyKind
  level : Level
  rows : List Nat
deriving DecidableEq, Repr

/-- The settings of the configuration record, 1.5. -/
structure ConfigRecord where
  params : HallParams
  txs : List (Option TxRecord)
  ants : List (Option AntRecord)
  settings : ProtSettings
  inputs : List SafetyDef
  windows : List PresetWindow
deriving DecidableEq, Repr

/-- The record format number of this part (notes/assumptions/13.md). -/
def configFormat : Nat := 0x0640

/-- The settings as they stand (R13). -/
def State.configRecord (s : State) : ConfigRecord :=
  { params := s.ht.params, txs := s.ht.txs, ants := s.ht.ants, settings := s.pt.settings,
    inputs := s.pu.inputs.map fun i => { kind := i.kind, level := i.level, rows := i.rows }, windows := s.pc.windows }

def SafetyDef.octets (d : SafetyDef) : List Byte := u8 (SafetyKind.code d.kind) ++ u8 (Level.code d.level) ++ u16 (maskOf d.rows)

def rdSafetyDef : Rd SafetyDef := do
  match safetyKindOf (← rd8), levelOf (← rd8) with
  | some kind, some level => return { kind, level, rows := membersOf 12 (← rd16) }
  | _, _ => failure

def PresetWindow.octets (w : PresetWindow) : List Byte := flag w.enabled ++ u16 w.base ++ u8 w.exponent

def rdPresetWindow : Rd PresetWindow := do return { enabled := (← rd8) == 1, base := ← rd16, exponent := ← rd8 }

/-- The record in the order of 1.5, CRC-32 last. -/
def ConfigRecord.octets (c : ConfigRecord) : List Byte :=
  let body := u16 configFormat ++ HallParams.octets c.params ++ c.txs.flatMap (fun r => opt r TxRecord.octets) ++
    c.ants.flatMap (fun r => opt r AntRecord.octets) ++ ProtSettings.octets c.settings ++ c.inputs.flatMap SafetyDef.octets ++
    c.windows.flatMap PresetWindow.octets
  body ++ u32 (crc32 body).toNat

def rdConfigRecord : Rd ConfigRecord := do
  let format ← rd16
  if format ≠ configFormat then failure
  let params ← rdHallParams
  let txs ← rdList 12 (rdOpt rdTxFields)
  let ants ← rdList 24 (rdOpt rdAntFields)
  let settings ← rdProtSettings
  let inputs ← rdList 8 rdSafetyDef
  let windows ← rdList 4 rdPresetWindow
  return { params, txs := txs.map (Option.map TxFields.record), ants := ants.map (Option.map AntFields.record), settings, inputs,
           windows }

/-- A record with its CRC-32 after it: what `r` reads, if the CRC-32 over the octets it read matches. -/
def checkedRecord {α : Type} (r : Rd α) (bs : List Byte) : Option α :=
  match r bs with
  | some (x, rest) =>
    let covered := bs.take (bs.length - rest.length)
    if 4 ≤ rest.length ∧ longAt rest 0 = (crc32 covered).toNat then some x else none
  | none => none

def configAddress : Nat := 80 * 4096

/-- What the configuration sectors hold: a valid record, nothing (BLANK) or something else (BAD), R14, R16. -/
def readConfig (m : List Host.Cell) : Source × Option ConfigRecord :=
  if memBlank m configAddress 8192 then (.blank, none)
  else match checkedRecord rdConfigRecord (memReadAll m configAddress 1280) with
    | some c => (.loaded, some c)
    | none => (.bad, none)

/-! ## The licence record and the lock mark -/

def licenceAddress : Nat := 127 * 4096

/-- The first octet of page 2047 (3.2). -/
def lockAddress : Nat := 2047 * 256

def licenceOctets (lines : List LicenceLine) : List Byte :=
  let body := u8 lines.length ++ lines.flatMap LicenceLine.octets
  body ++ u32 (crc32 body).toNat

def rdLicence : Rd (List LicenceLine) := do
  let count ← rd8
  rdList count rdLicenceLine

/-- What sector 127 holds, R16. -/
def readLicence (m : List Host.Cell) : Source × List LicenceLine :=
  if memBlank m licenceAddress 4096 then (.blank, [])
  else match checkedRecord rdLicence (memReadAll m licenceAddress 512) with
    | some lines => (.loaded, lines)
    | none => (.bad, [])

/-- The lock mark is programmed (R16). -/
def readLock (m : List Host.Cell) : Bool := memRead m lockAddress != 0xFF

/-- A run of octets as programs within one page each, in address order. -/
def pagePrograms : Nat → Nat → List Byte → List StoreOp
  | 0, _, _ => []
  | n + 1, address, data =>
    if data.isEmpty then []
    else
      let room := 256 - address % 256
      .program address (data.take room) :: pagePrograms n (address + room) (data.drop room)

/-! ## Book regions and mark fields, R49 -/

/-- The first address of a book's region, 3.2. -/
def bookBase (b : Nat) : Nat := b * 131072

/-- The place of a mark field in page 0 (notes/assumptions/12.md): sixteen octets each. -/
def Mark.index : Mark → Nat
  | .opening => 0 | .seal => 1 | .verified => 2 | .slotInstant n => 2 + n | .slotCancelled n => 6 + n | .active => 11
  | .retired => 12

def markAddress (b : Nat) (m : Mark) : Nat := bookBase b + 16 * m.index

/-- A field: its index, its contents, and its own check. -/
def markOctets (m : Mark) (contents : List Byte) : List Byte :=
  let covered := u8 m.index ++ contents
  covered ++ u16 (crc16 covered).toNat

inductive MarkFound where
  | absent
  | present (contents : List Byte)
  | torn
deriving DecidableEq, Repr

/-- What a mark field of `size` octets of contents is found to be (R49): absent if blank, present if its check is good. -/
def readMark (a : List Host.Cell) (b : Nat) (m : Mark) (size : Nat) : MarkFound :=
  let bs := memReadAll a (markAddress b m) (size + 3)
  if memBlank a (markAddress b m) 16 then .absent
  else if bs = markOctets m ((bs.drop 1).take size) then .present ((bs.drop 1).take size)
  else .torn

/-- An instant read from six octets. -/
def instantAt (bs : List Byte) (i : Nat) : Nat := wordAt bs i * 86400 + longAt bs (i + 2)

end Sys2Proof.Machine
end

