-- ==== Sys2Proof/Decode.lean ====
section
/-! DEFINITION. Which command a host frame spells: the kind codes of 12.5 and the field layouts of R209. The table of commands gives
no bits, so no table word spells one. -/

namespace Sys2Proof

open Sys2Proof.Machine

/-- No row of spec/opcode_table.json gives bits: a word spells no command. -/
def decodeTableWord (_nbits _w : Nat) : Option Instr := none

/-- The kind codes of 12.5. -/
def kindCodes : List Nat :=
  [0x01, 0x02, 0x03, 0x04, 0x05, 0x06] ++
  [0x10, 0x11, 0x12, 0x13, 0x14, 0x15, 0x16, 0x17, 0x18, 0x19, 0x1A] ++ [0x20, 0x21] ++ [0x28, 0x29, 0x2A, 0x2B] ++
  [0x30, 0x31, 0x32, 0x33, 0x34, 0x35, 0x36, 0x37, 0x38, 0x39] ++
  [0x40, 0x41, 0x42, 0x43, 0x44, 0x45, 0x46, 0x47] ++ [0x50, 0x51, 0x52, 0x53, 0x54] ++ [0x58, 0x59] ++ [0x60, 0x61] ++
  [0x68, 0x69, 0x6A] ++ [0x70, 0x71, 0x72, 0x73, 0x74, 0x75, 0x76, 0x77] ++ [0x78, 0x79, 0x7A, 0x7B]

/-- All the octets that are left. -/
def rdRest : Rd (List Byte) := fun bs => some (bs, [])

/-- `n` octets behind a count octet. -/
def rdCounted : Rd (List Byte) := do
  let n ← rd8
  rdTake n

def rdPresetFields : Rd PresetFields := do
  let antenna ← rd8
  let channel ← rd16
  let s1 ← rd16
  let s2 ← rd16
  let s3 ← rd16
  let s4 ← rd16
  let quality ← rd16
  return { antenna, channel, s1, s2, s3, s4, quality }

/-- The link and hall requests, 0x01 to 0x1A. -/
def rdLinkRequest (kind : Nat) : Rd Instr := do
  match kind with
  | 0x01 => return .echo (← rdRest)
  | 0x02 => return .ident
  | 0x03 => return .alertQuery
  | 0x04 => return .alertClear (← rd16)
  | 0x05 => return .alertMask (← rd16)
  | 0x06 => return .restart
  | 0x10 => return .hallSet (← rdHallParams)
  | 0x11 => return .hallQuery
  | 0x12 => return .txDefine (← rd8) (← rdTxFields)
  | 0x13 => return .txQuery (← rd8)
  | 0x14 => return .antDefine (← rd8) (← rdAntFields)
  | 0x15 => return .antQuery (← rd8)
  | 0x16 =>
    let first ← rd8
    let total ← rd8
    let final ← rd8
    let count ← rd8
    return .licenceWrite first total final (← rdList count rdLicenceLine)
  | 0x17 => return .licenceQuery (← rd8)
  | 0x18 => return .licenceLock
  | 0x19 => return .configSave
  | 0x1A => return .configLoad
  | _ => failure

/-- The time, store and book requests, 0x20 to 0x39. -/
def rdStoreRequest (kind : Nat) : Rd Instr := do
  match kind with
  | 0x20 => return .timeSet (← rd16) (← rd32)
  | 0x21 => return .timeQuery
  | 0x28 => return .storeRead (← rd32) (← rd8)
  | 0x29 => return .storeProgram (← rd32) (← rdCounted)
  | 0x2A => return .storeErase (← rd8)
  | 0x2B => return .storeStatus
  | 0x30 => return .bookOpen (← rd8) (← rd16) (← rd16) (← rd16)
  | 0x31 => return .entryAdd (← rd8) (← rdRest)
  | 0x32 => return .bookSeal (← rd8) (← rd16) (← rd32)
  | 0x33 => return .bookVerify (← rd8)
  | 0x34 => return .bookQuery (← rd8)
  | 0x35 => return .findingsQuery (← rd8)
  | 0x36 => return .entryRead (← rd8) (← rd16)
  | 0x37 => return .bookErase (← rd8)
  | 0x38 => return .handoverSet (← rd8) (← rd16) (← rd32)
  | 0x39 => return .handoverCancel (← rd8)
  | _ => failure

/-- The executor, matrix, permit and protection requests, 0x40 to 0x6A, but TX_ORDER. -/
def rdHallRequest (kind : Nat) : Rd Instr := do
  match kind with
  | 0x40 => return .execStart
  | 0x41 => return .execStop
  | 0x42 => return .execHold
  | 0x43 => return .execRelease
  | 0x44 => return .dutyQuery (← rd8)
  | 0x45 => return .txManual (← rd8)
  | 0x46 => return .txAuto (← rd8)
  | 0x47 => return .occurrenceSkip (← rd8) (← rd16) (← rd16)
  | 0x50 => return .move (← rd16) (← rd8)
  | 0x51 => return .moverQuery (← rd16)
  | 0x52 => return .antennaStatus (← rd8)
  | 0x53 => return .moverClear (← rd16)
  | 0x54 => return .survey
  | 0x58 =>
    let input ← rd8
    let kind ← rd8
    let level ← rd8
    return .safetyDefine input kind level (membersOf 16 (← rd16))
  | 0x59 => return .permitQuery
  | 0x61 => return .txStatus (← rd8)
  | 0x68 => return .protSet (← rdProtSettings)
  | 0x69 => return .protQuery (← rd8)
  | 0x6A => return .lockoutClear (← rd8)
  | _ => failure

/-- The preset and diagnostics requests, 0x70 to 0x7B. -/
def rdPresetRequest (kind : Nat) : Rd Instr := do
  match kind with
  | 0x70 => return .presetRead (← rd8) (← rd8) (← rd8)
  | 0x71 => return .presetWrite (← rd8) (← rd8) (← rd8) (← rdPresetFields)
  | 0x72 => return .presetFlush (← rd8) (← rd8) (← rd8) (← rd16)
  | 0x73 => return .presetFreeze (← rd8)
  | 0x74 => return .presetWindow (← rd8) (← rd8) (← rd16) (← rd8)
  | 0x75 => return .presetSave
  | 0x76 => return .presetRestore
  | 0x77 => return .presetError
  | 0x78 => return .diagStart (membersOf 32 (← rd32)) (← rd8)
  | 0x79 => return .diagStop
  | 0x7A => return .diagQuery
  | 0x7B => return .faultClear (← rd8) (← rd8)
  | _ => failure

/-- A TX_ORDER by its order, numbered as the table of R142 lists the eight. -/
def rdOrder (order tx : Nat) : Rd Instr := do
  match order with
  | 0 => return .txOrderTunePreset tx (← rd16)
  | 1 => return .txOrderTuneAuto tx (← rd16)
  | 2 => return .txOrderRfOn tx (← rd16) (← rd8)
  | 3 => return .txOrderRfOff tx
  | 4 => return .txOrderMute tx
  | 5 => return .txOrderPower tx (← rd16)
  | 6 => return .txOrderFeed tx (← rd8)
  | 7 => return .txOrderClearTrip tx
  | _ => failure

/-- The fields of the whole body, or FRAME when its length is not the one the kind's fields give (R208). -/
def wholeBody (r : Rd Instr) (body : List Byte) : Except Status Instr :=
  match r body with
  | some (c, []) => .ok c
  | _ => .error .frame

/-- A TX_ORDER body; an order that is not one of the eight is outside its range (R159). -/
def decodeOrder (body : List Byte) : Except Status Instr :=
  match body with
  | tx :: order :: rest => if 7 < order.toNat then .error .range else wholeBody (rdOrder order.toNat tx.toNat) rest
  | _ => .error .frame

/-- The command a complete request frame spells, or the status its form earns: UNKNOWN_KIND, then FRAME (R208). -/
def decodeRequest (kind : Nat) (body : List Byte) : Except Status Instr :=
  if !(kindCodes.contains kind) then .error .unknownKind
  else if kind = 0x60 then decodeOrder body
  else if kind ≤ 0x1A then wholeBody (rdLinkRequest kind) body
  else if kind ≤ 0x39 then wholeBody (rdStoreRequest kind) body
  else if kind ≤ 0x6A then wholeBody (rdHallRequest kind) body
  else wholeBody (rdPresetRequest kind) body

end Sys2Proof
end

