-- ==== Sys2Proof/Machine/Store.lean ====
section
/-! DEFINITION. The Season Store, chapter 3: reads and suspensions (R32, R38, R39), the end of an operation and the next work
(R35 to R37), offers of internal work (R31, R41). Content changes at an operation's end; what an operation cut short leaves is
free octets (notes/assumptions/5.md). -/

namespace Sys2Proof.Machine

open Sys2Proof

/-! ## Operations -/

/-- The sector an operation works on. -/
def StoreOp.sector : StoreOp → Nat
  | .erase k => k
  | .program a _ => a / 4096

/-- The sector being erased or the page being programmed meets the range (R38). -/
def StoreOp.touches (op : StoreOp) (address length : Nat) : Bool :=
  match op with
  | .erase k => decide (address < (k + 1) * 4096 ∧ k * 4096 < address + length)
  | .program a _ => decide (address < (a / 256 + 1) * 256 ∧ a / 256 * 256 < address + length)

def StoreOp.state : StoreOp → StoreState
  | .erase k => .erasing k
  | .program a _ => .programming (a / 256)

/-- The greatest running time, R33, R34, in ms. -/
def StoreOp.maxMs : StoreOp → Nat
  | .erase _ => 200
  | .program _ _ => 5

/-- The range holds undefined content (R30): fresh free octets stand in it. -/
def State.undefine (s : State) (address length : Nat) : State :=
  { s with ss := { s.ss with array := memWriteAll s.ss.array address (freeOctets s.freeCount length) }
           freeCount := s.freeCount + length }

/-- A whole sector holds undefined content. -/
def State.undefineSector (s : State) (sector : Nat) : State := s.undefine (sector * 4096) 4096

/-- The array once the operation has passed its completion check (R33, R34). -/
def StoreOp.apply (op : StoreOp) (m : List Host.Cell) : List Host.Cell :=
  match op with
  | .erase k => memErase m k
  | .program a data => memWriteAll m a data

/-! ## Reads, R32, R38, R39 -/

/-- Hands a reader the octets as they stand now. -/
def State.serve (s : State) (reader : Reader) : State := s.post (.served reader)

/-- Serves every waiting read, oldest first. -/
def State.serveAll (s : State) : State :=
  (s.ss.readWait.foldl (fun s w => s.serve w.reader) s).setStore { s.ss with readWait := [] }

/-- Serves the waiting reads that are not held for the operation, oldest first. -/
def State.serveUnheld (s : State) : State :=
  let t := (s.ss.readWait.filter fun w => !w.held).foldl (fun s w => s.serve w.reader) s
  t.setStore { t.ss with readWait := t.ss.readWait.filter fun w => w.held }

/-- The operation is stopped so that reads may be served (R38). -/
def State.suspend (s : State) : State := s.setStore { s.ss with state := .suspended }

/-- A read is handed to its reader by a notice. -/
def Notice.isServed : Notice → Bool
  | .served _ => true
  | _ => false

/-- The end of a suspension, R38: once every read of the batch has been handed over the operation goes on, the suspension count rises
by one, and a progress guard of 20 ms starts. A read that arrives before is served in the same suspension (R35, R38). -/
def State.resume (s : State) : State :=
  if s.notices.any Notice.isServed then s.post .resumed
  else match s.ss.operation with
  | some o =>
    s.setStore { s.ss with state := o.op.state, suspensions := satSucc 65535 s.ss.suspensions
                           operation := some { o with guardEnd := some (s.clock + 20) } }
  | none => s

def State.waitRead (s : State) (reader : Reader) (held : Bool) : State :=
  s.setStore { s.ss with readWait := s.ss.readWait ++ [{ reader := reader, held := held }] }

/-- A read is asked for: served at once, in the suspension under way, by a suspension, or waiting (R32, R35, R38). -/
def State.requestRead (s : State) (reader : Reader) (address length : Nat) : State :=
  match s.ss.operation with
  | none => s.serve reader
  | some o =>
    if o.op.touches address length then s.waitRead reader true
    else if s.ss.state = .suspended then s.serve reader
    else if o.guardEnd.isSome then s.waitRead reader false
    else ((s.suspend.serve reader).serveUnheld).post .resumed

/-- The end of the progress guard, R39. -/
def State.guardEnds (s : State) : State :=
  if s.ss.readWait.any fun w => !w.held then s.suspend.serveUnheld.post .resumed
  else s.setStore { s.ss with operation := s.ss.operation.map fun o => { o with guardEnd := none } }

/-! ## Failures, R36, R37 -/

/-- The last failure, the failed sector set (but for a program that was not run) and STORE_FAULT. -/
def State.recordFailure (s : State) (op : StoreOp) (owner : OpOwner) (cause : FailCause) : State :=
  (s.setStore { s.ss with
    lastFailure := some
      { sector := op.sector
        page := match op with | .program a _ => some (a / 256) | .erase _ => none
        erase := match op with | .erase _ => true | .program _ _ => false
        owner := owner, cause := cause, instant := s.now }
    failedSectors := if cause = .notBlank then s.ss.failedSectors else addOnce s.ss.failedSectors op.sector }).alert .storeFault

/-- Whether STORE_DONE is set at the end of an item, the table of 3.6. -/
def ItemKind.setsDone : ItemKind → Bool
  | .stateMark _ _ _ => false
  | .loadPage _ _ => false
  | .bookErase _ => false
  | .configWrite => true
  | .licenceWrite => true
  | .lockMark => true
  | .presetPage _ last => last

/-- An item ends: its outcome is handed to its client (R41). -/
def State.itemEnds (s : State) (kind : ItemKind) (failure : Option FailCause) : State :=
  let t := s.post (.itemEnded kind failure)
  if kind.setsDone then t.alert .storeDone else t

/-! ## The next work, R35 -/

def State.startOp (s : State) (op : StoreOp) (owner : OpOwner) : State :=
  s.setStore { s.ss with state := op.state
                         operation := some { op := op, owner := owner, startedAt := s.clock, guardEnd := none } }

/-- The item in flight goes on, or the oldest waiting item is taken, or the store is READY. An internal program whose range is not
blank is not run and ends its item (R33). The first argument bounds the items that end without an operation. -/
def State.nextWork : Nat → State → State
  | 0, s => s
  | n + 1, s =>
    match s.ss.item with
    | some item =>
      match item.ops with
      | [] => State.nextWork n ((s.setStore { s.ss with item := none }).itemEnds item.kind none)
      | .erase k :: rest => (s.setStore { s.ss with item := some { item with ops := rest } }).startOp (.erase k) (.item item.kind)
      | .program a data :: rest =>
        if memBlank s.ss.array a data.length then
          (s.setStore { s.ss with item := some { item with ops := rest } }).startOp (.program a data) (.item item.kind)
        else
          State.nextWork n (((s.recordFailure (.program a data) (.item item.kind) .notBlank).setStore
            { (s.recordFailure (.program a data) (.item item.kind) .notBlank).ss with item := none }).itemEnds item.kind
              (some .notBlank))
    | none =>
      match s.ss.work with
      | item :: rest => State.nextWork n ((s.setStore { s.ss with item := some item, work := rest }).postOnce .offersAgain)
      | [] => s.setStore { s.ss with state := .ready }

/-- More than the items a list of eight and one in flight can end without an operation. -/
def workFuel : Nat := 40

/-- The end of an operation after its own effect: waiting reads, then the next work (R35). -/
def State.operationDone (s : State) : State :=
  State.nextWork workFuel ((s.setStore { s.ss with operation := none }).serveAll)

/-- The host's latest operation ends and STORE_DONE is set (R44, R45). -/
def State.hostOpEnds (s : State) (outcome : HostOpOutcome) : State :=
  (s.setStore { s.ss with lastHostOp := s.ss.lastHostOp.map fun h => { h with outcome := outcome } }).alert .storeDone

/-- An operation passes its completion check. -/
def State.operationPassed (s : State) (o : Operation) : State :=
  let t := s.setStore { s.ss with
    array := o.op.apply s.ss.array
    failedSectors := match o.op with
      | .erase k => s.ss.failedSectors.filter (· != k)
      | .program _ _ => s.ss.failedSectors }
  match o.owner with
  | .host => (t.hostOpEnds .done).operationDone
  | .item _ => t.operationDone

/-- An operation fails its completion check (R33, R34, R36): the range of a program or the sector of an erase is undefined, and the
item of a failed operation ends without its remaining operations. -/
def State.operationFailed (s : State) (o : Operation) : State :=
  let t := (match o.op with
    | .erase k => s.undefineSector k
    | .program a data => s.undefine a data.length).recordFailure o.op o.owner .check
  match o.owner with
  | .host => (t.hostOpEnds (.failed .check)).operationDone
  | .item kind => ((t.setStore { t.ss with item := none }).itemEnds kind (some .check)).operationDone

/-- An overrun, R37, in its order. The items that leave the list let the clients that wait offer again (R41). -/
def State.overrun (s : State) (o : Operation) : State :=
  let t := (s.undefineSector o.op.sector).recordFailure o.op o.owner .overrun
  let t := (t.setStore { t.ss with operation := none, state := .fault }).serveAll
  let t := match o.owner with
    | .host => t.hostOpEnds (.failed .overrun)
    | .item kind => (t.setStore { t.ss with item := none }).itemEnds kind (some .overrun)
  let u := t.ss.work.foldl (fun t item => t.itemEnds item.kind (some .fault)) (t.setStore { t.ss with work := [] })
  if t.ss.work.isEmpty then u else u.postOnce .offersAgain

/-! ## Offers of internal work, R31, R41 -/

/-- What the table of R31 allows a book in this state: load pages, state marks, a book erase. -/
def BookState.allows (b : BookState) (kind : ItemKind) : Bool :=
  match kind, b with
  | .loadPage _ _, .loading => true
  | .loadPage _ _, _ => false
  | .stateMark _ _ _, .verifying => false
  | .stateMark _ _ _, _ => true
  | .bookErase _, .loading => false
  | .bookErase _, .active => false
  | .bookErase _, .verifying => false
  | .bookErase _, _ => true
  | _, _ => false

/-- The protection check of an internal item. -/
def State.itemAllowed (s : State) (kind : ItemKind) : Bool :=
  match kind with
  | .stateMark b _ _ => (s.book b).state.allows kind
  | .loadPage b _ => (s.book b).state.allows kind
  | .bookErase b => (s.book b).state.allows kind
  | .configWrite => true
  | .licenceWrite => !s.ht.locked
  | .lockMark => true
  | .presetPage _ _ => true

/-- The pending internal work list has room. -/
def State.listHasRoom (s : State) : Bool := decide (s.ss.work.length < 8)

/-- An offer and whether it was refused as full: an item that the table does not allow, or offered in FAULT, ends FAILED at once;
an admitted item offered at READY starts at once (R41). -/
def State.offer (s : State) (kind : ItemKind) (ops : List StoreOp) : State × Bool :=
  if !s.itemAllowed kind then (s.itemEnds kind (some .writeProtected), false)
  else if s.ss.state = .fault then (s.itemEnds kind (some .fault), false)
  else if !s.listHasRoom then (s, true)
  else
    let t := s.setStore { s.ss with work := s.ss.work ++ [{ kind := kind, ops := ops }] }
    (if t.ss.state = .ready then t.nextWork workFuel else t, false)

/-- A client joins those that wait to offer again, once. -/
def State.waitToOffer (s : State) (w : Waiter) : State := s.setStore { s.ss with offerWait := addOnce s.ss.offerWait w }

/-! ## After reset, R47, R48 -/

/-- The sector of an operation in flight is left undefined. -/
def State.cutShort (s : State) : State :=
  match s.ss.operation with
  | some o => s.undefineSector o.op.sector
  | none => s

/-! ## Reads that are no longer wanted -/

/-- A reader gives up its waiting read. -/
def State.dropRead (s : State) (reader : Reader) : State :=
  s.setStore { s.ss with readWait := s.ss.readWait.filter fun w => w.reader != reader }

end Sys2Proof.Machine
end

