-- ==== Sys2Proof/Machine/Preset.lean ====
section
/-! DEFINITION. The Preset Cache, chapter 10: the check code and the checks of a read (R177, R178), windows (R179), probe, lookup,
fill and feedback (R180 to R183), the scrubber (R185), the error latch (R186), the saved image (R191) and the restore (R192). -/

namespace Sys2Proof.Machine

open Sys2Proof

/-! ## The check code, R177 -/

/-- The 76 data bits as one number, the first field in its highest bits. -/
def PresetRecord.dataWord (r : PresetRecord) : Nat :=
  (((((r.antenna % 32 * 8192 + r.channel % 8192) * 4096 + r.s1 % 4096) * 4096 + r.s2 % 4096) * 4096 + r.s3 % 4096) * 4096 +
    r.s4 % 4096) * 1024 + r.quality % 1024

/-- The record with the fields of a data word. -/
def PresetRecord.withDataWord (r : PresetRecord) (w : Nat) : PresetRecord :=
  { r with
    antenna := w / 2 ^ 71 % 32, channel := w / 2 ^ 58 % 8192, s1 := w / 2 ^ 46 % 4096, s2 := w / 2 ^ 34 % 4096,
    s3 := w / 2 ^ 22 % 4096, s4 := w / 2 ^ 10 % 4096, quality := w % 1024 }

/-- The positions from 1 to 83 whose numbers are not powers of two, ascending; data bit i (0 the first) stands at the i-th. -/
def dataPositions : List Nat := (upTo 83).filter fun p => !([1, 2, 4, 8, 16, 32, 64].contains p)

/-- The positions at which a data word has a one. -/
def onesOf (w : Nat) : List Nat := ((dataPositions.zipIdx).filter fun p => w.testBit (75 - p.2)).map (·.1)

/-- The check bits 0 to 6: the numbers of the positions with a one, taken bit by bit without carry. -/
def foldPositions (ps : List Nat) : Nat := ps.foldl Nat.xor 0

/-- How many of the lowest eight bits are ones. -/
def onesBelow8 (n : Nat) : Nat := ((List.range 8).filter n.testBit).length

/-- The check code of the fields as they stand: eight bits, and 0x00 in the high octet. -/
def PresetRecord.code (r : PresetRecord) : BitVec 16 :=
  let ones := onesOf r.dataWord
  let low := foldPositions ones
  BitVec.ofNat 16 (low + 128 * ((ones.length + onesBelow8 low) % 2))

/-- The outcome of a check, as PRESET_READ numbers them (R187). -/
inductive WayCheck where
  | none | good | corrected | double
deriving DecidableEq, Repr

/-- The check of R178 on a record and the record as it then stands: repaired when one bit was wrong, invalidated when two were. -/
def PresetRecord.checked (r : PresetRecord) : WayCheck × PresetRecord :=
  let stored := r.check.toNat % 256
  let ones := onesOf r.dataWord
  let syndrome := Nat.xor (foldPositions ones) (stored % 128)
  let odd := (ones.length + onesBelow8 stored) % 2 == 1
  if syndrome = 0 ∧ odd = false then (.good, r)
  else if odd ∧ syndrome ≤ 83 then
    let fixed := match dataPositions.findIdx? (· == syndrome) with
      | some i => r.withDataWord (Nat.xor r.dataWord (2 ^ (75 - i)))
      | none => r
    (.corrected, { fixed with check := fixed.code })
  else (.double, { r with valid := false })

/-! ## Keys and windows -/

/-- The channel of a frequency (00_scope). -/
def channelOf (freq : Nat) : Nat := (freq - 2300) / 5

/-- The set of a key, R177. -/
def keySet (ant channel : Nat) : Nat := (channel + 5 * ant) % 64

def PresetWindow.covers (w : PresetWindow) (c : Nat) : Bool := w.enabled && decide (w.base ≤ c ∧ c < w.base + 2 ^ w.exponent)

/-- Some enabled window covers the channel (R179). -/
def State.windowed (s : State) (c : Nat) : Bool := s.pc.windows.any fun w => w.covers c

def PresetSet.way (x : PresetSet) (way : Nat) : PresetRecord := if way = 0 then x.way0 else x.way1
def PresetSet.setWay (x : PresetSet) (way : Nat) (r : PresetRecord) : PresetSet :=
  if way = 0 then { x with way0 := r } else { x with way1 := r }

def PresetRecord.holds (r : PresetRecord) (ant channel : Nat) : Bool := r.valid && r.antenna == ant && r.channel == channel

/-- The valid way that holds a key. -/
def PresetSet.find (x : PresetSet) (ant channel : Nat) : Option Nat :=
  if x.way0.holds ant channel then some 0 else if x.way1.holds ant channel then some 1 else none

/-- The way an install takes: way 0 if invalid, else way 1 if invalid, else the way the LRU mark names (R182). -/
def PresetSet.installWay (x : PresetSet) : Nat := if !x.way0.valid then 0 else if !x.way1.valid then 1 else x.lru

def PresetRecord.disable (r : PresetRecord) : PresetRecord := { r with valid := false }

/-- Changes every set of every directory. -/
def State.mapSets (s : State) (f : PresetSet → PresetSet) : State :=
  { s with pc := { s.pc with directories := s.pc.directories.map fun d => d.map f } }

/-! ## Errors, R178, R186 -/

/-- An error is offered to the latch and sets PRESET. -/
def State.presetError (s : State) (kind : PresetErrorKind) (t n way : Nat) (source : PresetSource) : State :=
  let pc := match s.pc.latch with
    | none => { s.pc with latch := some { kind := kind, tx := t, setNo := n, way := way, source := source,
                                          elapsed := s.tb.elapsed } }
    | some _ => { s.pc with more := true }
  let pc := match kind with
    | .double => { pc with double := satSucc 65535 pc.double }
    | .duplicate => { pc with duplicate := satSucc 65535 pc.duplicate }
  State.alert { s with pc := pc } .preset

/-- One way is read with the check of R178. -/
def State.checkWay (s : State) (t n way : Nat) (source : PresetSource) : State × WayCheck :=
  let x := s.presetSet t n
  let r := x.way way
  if !r.valid then (s, .none)
  else
    let t' := s.setPresetSet t n (x.setWay way r.checked.2)
    match r.checked.1 with
    | .corrected => ({ t' with pc := { t'.pc with corrected := satSucc 65535 t'.pc.corrected } }, .corrected)
    | .double => (t'.presetError .double t n way source, .double)
    | other => (s, other)

/-- Both ways valid with one key: both are invalidated (R178). -/
def State.checkDuplicate (s : State) (t n : Nat) (source : PresetSource) : State :=
  let x := s.presetSet t n
  if x.way0.valid && x.way1.holds x.way0.antenna x.way0.channel then
    (s.setPresetSet t n { x with way0 := x.way0.disable, way1 := x.way1.disable }).presetError .duplicate t n 1 source
  else s

/-- A read of a set: way 0, way 1, then the comparison of their keys. -/
def State.readSet (s : State) (t n : Nat) (source : PresetSource) : State :=
  (((s.checkWay t n 0 source).1.checkWay t n 1 source).1).checkDuplicate t n source

/-! ## Probe, lookup, fill, feedback -/

inductive ProbeAnswer where
  | hit | miss | windowed
deriving DecidableEq, Repr

/-- R180: no LRU mark changes. -/
def State.probe (s : State) (t ant channel : Nat) : State × ProbeAnswer :=
  if s.windowed channel then (s, .windowed)
  else
    let s := s.readSet t (keySet ant channel) .probe
    (s, if ((s.presetSet t (keySet ant channel)).find ant channel).isSome then .hit else .miss)

/-- R181: the record whose servo positions go into the order, and the LRU mark set to the other way. -/
def State.lookup (s : State) (t ant channel : Nat) : State × Option PresetRecord :=
  if s.windowed channel then (s, none)
  else
    let n := keySet ant channel
    let s := s.readSet t n .lookup
    let x := s.presetSet t n
    match x.find ant channel with
    | some way => (s.setPresetSet t n { x with lru := 1 - way }, some (x.way way))
    | none => (s, none)

/-- A valid record of the fields with a new check code. A servo position takes 12 bits and a quality 10 (R177). -/
def newRecord (ant channel : Nat) (s1 s2 s3 s4 quality : Nat) : PresetRecord :=
  let r : PresetRecord := { valid := true, antenna := ant, channel := channel, s1 := s1 % 4096, s2 := s2 % 4096, s3 := s3 % 4096,
                            s4 := s4 % 4096, quality := quality % 1024, check := 0 }
  { r with check := r.code }

/-- Puts a record into a way and turns the LRU mark to the other. -/
def State.install (s : State) (t n way : Nat) (r : PresetRecord) : State :=
  s.setPresetSet t n { (s.presetSet t n).setWay way r with lru := 1 - way }

/-- R182. -/
def State.fill (s : State) (t ant channel : Nat) (r : TuneResult) : State :=
  if s.windowed channel || decide (s.params.presetQualityPm < r.quality) then s
  else
    let n := keySet ant channel
    let s := s.readSet t n .fill
    let x := s.presetSet t n
    let record := newRecord ant channel r.s1 r.s2 r.s3 r.s4 r.quality
    match x.find ant channel with
    | some way => s.install t n way record
    | none => if s.pc.frozen then s else s.install t n x.installWay record

/-- R183. -/
def State.presetFeedback (s : State) (t ant channel ratio : Nat) : State :=
  let n := keySet ant channel
  let s := s.readSet t n .fill
  let x := s.presetSet t n
  match x.find ant channel with
  | none => s
  | some way =>
    let r := { x.way way with quality := ratio }
    s.setPresetSet t n (x.setWay way
      (if ratio ≤ s.params.presetQualityPm then { r with check := r.code } else { r with valid := false }))

/-! ## The scrubber, R185 -/

/-- The position after a scrub check. -/
def PresetCache.advanceScrub (c : PresetCache) : PresetCache :=
  if c.scrubWay = 0 then { c with scrubWay := 1 }
  else if c.scrubSet < 63 then { c with scrubWay := 0, scrubSet := c.scrubSet + 1 }
  else { c with scrubWay := 0, scrubSet := 0, scrubTx := if c.scrubTx < 12 then c.scrubTx + 1 else 1 }

/-- The record at the position is checked; after way 1, way 0 too and the keys are compared. -/
def State.scrubRecord (s : State) : State :=
  let t := s.pc.scrubTx
  let n := s.pc.scrubSet
  if s.pc.scrubWay = 0 then (s.checkWay t n 0 .scrub).1
  else if !(s.presetSet t n).way1.valid then s
  else
    let s := (s.checkWay t n 1 .scrub).1
    if (s.presetSet t n).way0.valid && (s.presetSet t n).way1.valid then
      ((s.checkWay t n 0 .scrub).1).checkDuplicate t n .scrub
    else s

/-- The next interval begins when a check ends, none with scrub_ms 0. -/
def State.nextScrub (s : State) : State :=
  { s with pc := { s.pc with scrubAt := if s.params.scrubMs = 0 then none else some (s.clock + s.params.scrubMs) } }

/-! ## Invalidation by windows and flushes -/

/-- How many records of the directories given satisfy a test. -/
def countRecords (ds : List (List PresetSet)) (p : PresetRecord → Bool) : Nat :=
  (ds.map fun d => (d.map fun x => (if p x.way0 then 1 else 0) + (if p x.way1 then 1 else 0)).sum).sum

/-- Replaces window `w` (1 to 4); an enabled one invalidates the valid records it covers, by their keys as stored (R179). -/
def State.setWindow (s : State) (w : Nat) (x : PresetWindow) : State :=
  let s := { s with pc := { s.pc with windows := setNth s.pc.windows w x } }
  s.mapSets fun p =>
    { p with way0 := if x.covers p.way0.channel then p.way0.disable else p.way0
             way1 := if x.covers p.way1.channel then p.way1.disable else p.way1 }

/-! ## The saved image, R191 -/

def PresetRecord.imageOctets (r : PresetRecord) : List Byte :=
  flag r.valid ++ u8 r.antenna ++ u16 r.channel ++ u16 r.s1 ++ u16 r.s2 ++ u16 r.s3 ++ u16 r.s4 ++ u16 r.quality ++ u16 r.check.toNat

/-- A saved image read back. Bits above a servo position's 12 or a quality's 10 are dropped (notes/assumptions/19.md). -/
def imageRecord (bs : List Byte) : PresetRecord :=
  { valid := octetAt bs 0 == 1, antenna := octetAt bs 1, channel := wordAt bs 2, s1 := wordAt bs 4 % 4096, s2 := wordAt bs 6 % 4096,
    s3 := wordAt bs 8 % 4096, s4 := wordAt bs 10 % 4096, quality := wordAt bs 12 % 1024, check := BitVec.ofNat 16 (wordAt bs 14) }

/-- The octets of page `n` of the image, from the directories as they stand. -/
def State.imagePage (s : State) (n : Nat) : List Byte :=
  (List.range 8).flatMap fun k =>
    let x := s.presetSet (n / 8 + 1) (n % 8 * 8 + k)
    x.way0.imageOctets ++ x.way1.imageOctets

def saveAddress : Nat := 64 * 4096

/-- An operation of the store touches the preset save area. -/
def State.saveAreaBusy (s : State) : Bool :=
  match s.ss.operation with
  | some o => within 64 79 o.op.sector
  | none => false

/-- Offers pages until all are offered, the list is full, or the store is in FAULT (R191). -/
def State.offerPages : Nat → State → State
  | 0, s => s
  | n + 1, s =>
    match s.pc.save with
    | none => s
    | some run =>
      if run.next < 96 then
        let o := s.offer (.presetPage run.next (run.next == 95)) [.program (saveAddress + run.next * 256) (s.imagePage run.next)]
        if o.2 then o.1.waitToOffer .presetSave
        else
          let t := { o.1 with pc := { o.1.pc with save := some { run with next := run.next + 1 } } }
          if s.ss.state = .fault then t else State.offerPages n t
      else s

/-- The save ends with an outcome (R191, R193). -/
def State.endSave (s : State) (outcome : CopyEnd) : State :=
  match s.pc.save with
  | some run => { s with pc := { s.pc with save := none, lastSave := some { outcome := outcome, pages := run.done } } }
  | none => s

/-- A page item has ended. -/
def State.savePageEnded (s : State) (page : Nat) (last : Bool) (failure : Option FailCause) : State :=
  match s.pc.save with
  | none => s
  | some run =>
    match failure with
    | some _ => s.endSave (.failed page)
    | none =>
      let t := { s with pc := { s.pc with save := some { run with done := run.done + 1 } } }
      if last then t.endSave .done else t

/-! ## Restore, R192 -/

/-- One saved record image for the set and place it stands in, and the counts after it. -/
def State.restoreImage (s : State) (t n : Nat) (bs : List Byte) (c : RestoreCounts) : State × RestoreCounts :=
  if bs.all (· == 0xFF) then (s, { c with blank := c.blank + 1 })
  else
    let raw := imageRecord bs
    if !raw.valid then (s, { c with invalid := c.invalid + 1 })
    else
      let r := raw.checked.2
      if raw.checked.1 = .double ∨ 31 < raw.antenna ∨ 8191 < raw.channel ∨ !(within 1 24 r.antenna) ∨ 4760 < r.channel ∨
          keySet r.antenna r.channel ≠ n then
        (s, { c with bad := c.bad + 1 })
      else if s.windowed r.channel then (s, { c with windowed := c.windowed + 1 })
      else
        let s := s.readSet t n .fill
        let x := s.presetSet t n
        if (x.find r.antenna r.channel).isSome then (s, { c with present := c.present + 1 })
        else if x.way0.valid && x.way1.valid then (s, { c with full := c.full + 1 })
        else
          (s.install t n x.installWay (newRecord r.antenna r.channel r.s1 r.s2 r.s3 r.s4 r.quality),
            { c with installed := c.installed + 1 })

/-- The sixteen images of a page. -/
def State.restorePage (s : State) (page : Nat) (c : RestoreCounts) : State × RestoreCounts :=
  (List.range 16).foldl (fun p k =>
    p.1.restoreImage (page / 8 + 1) (page % 8 * 8 + k / 2) (memReadAll s.ss.array (saveAddress + page * 256 + k * 16) 16) p.2) (s, c)

/-- A restore ends: its record, and no further page is read (R192). -/
def State.endRestore (s : State) (outcome : CopyEnd) : State :=
  match s.pc.restore with
  | some run =>
    State.dropRead
      { s with pc := { s.pc with restore := none
                                 lastRestore := some { outcome := outcome, pages := run.next, counts := run.counts } } }
      .restorePage
  | none => s

/-- Reads the next page (R192). -/
def State.readRestorePage (s : State) : State :=
  match s.pc.restore with
  | some run =>
    State.requestRead { s with pc := { s.pc with restore := some { run with waiting := true } } } .restorePage
      (saveAddress + run.next * 256) 256
  | none => s

/-- A page is taken when its read is served; the next is read 5 ms later. -/
def State.restoreServed (s : State) : State :=
  match s.pc.restore with
  | some run =>
    if !run.waiting then s
    else
      let p := s.restorePage run.next run.counts
      let run' : RestoreRun := { next := run.next + 1, dueAt := s.clock + 5, waiting := false, counts := p.2 }
      let t := { p.1 with pc := { p.1.pc with restore := some run' } }
      if run'.next < 96 then t else t.endRestore .done
  | none => s

end Sys2Proof.Machine
end

