-- ==== Sys2Proof/Machine/Books.lean ====
section
/-! DEFINITION. Season Books and the Book Verifier, chapter 4: marks and missing marks (R49, R50), reading entries, verification
(R56 to R60), handover (R65), the start-up scan and the re-index (R66, R67); and the offers made again when an item leaves the
pending internal work list (R41). -/

namespace Sys2Proof.Machine

open Sys2Proof

/-! ## Reading the entries of a region -/

/-- The address of a page of a book's region. -/
def pageAddress (b page : Nat) : Nat := bookBase b + page * 256

/-- The records of one page, at most `limit` of them. -/
def pageOf (a : List Host.Cell) (b page limit : Nat) : Option (List (List Byte)) :=
  pageRecords (min 13 limit) (memReadAll a (pageAddress b page) 256)

/-- The records of pages from `page` on, up to `count` of them, each with the page it stands in; a page that cannot be read gives
none. The first argument bounds the pages. -/
def recordsFrom : Nat → List Host.Cell → Nat → Nat → Nat → List (Nat × List Byte)
  | 0, _, _, _, _ => []
  | n + 1, a, b, page, count =>
    if count = 0 ∨ 511 < page then []
    else
      let rs := (pageOf a b page count).getD []
      rs.map (fun r => (page, r)) ++ recordsFrom n a b (page + 1) (count - rs.length)

/-- The first `count` records of a book's region. -/
def regionRecords (a : List Host.Cell) (b count : Nat) : List (Nat × List Byte) := recordsFrom 511 a b 1 count

/-- The entry at a storage position (from 1) of a sealed book. -/
def State.entryAt (s : State) (b position : Nat) : Option Entry :=
  ((regionRecords s.ss.array b position)[position - 1]?).map fun r => entryOf r.2

def LoadSlot.records : LoadSlot → List (List Byte)
  | .free => []
  | .filling _ rs => rs
  | .waiting _ rs => rs

def LoadSlot.page : LoadSlot → Nat
  | .free => 0
  | .filling p _ => p
  | .waiting p _ => p

/-- The records in the load buffer, lower page first. -/
def Book.buffered (x : Book) : List (List Byte) :=
  if x.slotA.page ≤ x.slotB.page then x.slotA.records ++ x.slotB.records else x.slotB.records ++ x.slotA.records

/-- The records added and no longer in the buffer: those that stand in the region. -/
def Book.storedCount (x : Book) : Nat :=
  (match x.state, x.sealed with
    | .loading, _ => x.entriesAdded
    | _, some p => p.1
    | _, none => x.entriesAdded) - x.buffered.length

/-! ## Marks, R50 -/

/-- Missing marks that still hold back later ones. -/
def Book.waitingMarks (x : Book) : List MissingMark := x.missing.filter fun m => !m.failed

/-- The RETIRED mark is not offered while the other book's ACTIVE mark is missing and not failed (R65). -/
def State.markBlocked (s : State) (b : Nat) (m : Mark) : Bool :=
  m == .retired && (s.book (1 - b)).waitingMarks.any fun x => x.mark == .active

/-- The missing marks stand in the order in which they became due (the table at the head of chapter 4). -/
def insertMissing (x : MissingMark) : List MissingMark → List MissingMark
  | [] => [x]
  | m :: ms => if x.due < m.due then x :: m :: ms else m :: insertMissing x ms

/-- A mark joins the missing marks in its place, and alert BOOK is set (R50). -/
def State.missMark (s : State) (b : Nat) (x : MissingMark) : State :=
  (s.setBook b { s.book b with missing := insertMissing x (s.book b).missing }).alert .book

/-- One more mark has become due. -/
def State.countMark (s : State) : State := { s with sb := { s.sb with markCount := s.sb.markCount + 1 } }

/-- The item that programs a mark is offered, as R50 has it. -/
def State.offerMark (s : State) (b : Nat) (x : MissingMark) : State × Bool :=
  s.offer (.stateMark b x.mark x.due) [.program (markAddress b x.mark) x.data]

/-- A mark is due: it is offered, or joins the missing marks (R50). -/
def State.markDue (s : State) (b : Nat) (m : Mark) (contents : List Byte) : State :=
  let x : MissingMark := { mark := m, due := s.sb.markCount, data := markOctets m contents, failed := false }
  let s := s.countMark
  if !(s.book b).waitingMarks.isEmpty || s.markBlocked b m then (s.missMark b x).waitToOffer (.bookMarks b)
  else
    let o := s.offerMark b x
    if o.2 then (o.1.missMark b x).waitToOffer (.bookMarks b) else o.1

/-- How an attempt to offer again went. -/
inductive Reoffer where
  | done | full | blocked
deriving DecidableEq, Repr

/-- Removes the first missing mark that is not failed. -/
def dropWaiting : List MissingMark → List MissingMark
  | [] => []
  | m :: ms => if m.failed then m :: dropWaiting ms else ms

/-- Offers a book's missing marks again, in the order they became due. The first argument bounds their number. -/
def State.reofferMarks : Nat → State → Nat → State × Reoffer
  | 0, s, _ => (s, .done)
  | n + 1, s, b =>
    match (s.book b).waitingMarks with
    | [] => (s, .done)
    | m :: _ =>
      if s.markBlocked b m.mark then (s, .blocked)
      else
        let o := s.offerMark b m
        if o.2 then (s, .full)
        else State.reofferMarks n (o.1.setBook b { o.1.book b with missing := dropWaiting (o.1.book b).missing }) b

def State.reoffer (s : State) (w : Waiter) : State × Reoffer :=
  match w with
  | .bookMarks b => State.reofferMarks 32 s b
  | .presetSave =>
    let t := s.offerPages 97
    (t, match t.pc.save with
      | some run => if run.next < 96 ∧ t.ss.state ≠ .fault then .full else .done
      | none => .done)

/-- A client that has had an offer admitted and is then refused anew waits behind the refusals made before (R41). -/
def State.waitLast (s : State) (w : Waiter) : State :=
  s.setStore { s.ss with offerWait := s.ss.offerWait.filter (· != w) ++ [w] }

/-- The clients that wait offer again, the oldest refusal first, until the list is full once more (R41). -/
def State.offerAgain (s : State) : State :=
  let step := fun (p : State × Bool) (w : Waiter) =>
    if p.2 then p
    else
      let r := p.1.reoffer w
      match r.2 with
      | .full => (if p.1.listHasRoom then r.1.waitLast w else r.1, true)
      | .blocked => (r.1, false)
      | .done => (r.1.setStore { r.1.ss with offerWait := r.1.ss.offerWait.filter (· != w) }, false)
  let p := s.ss.offerWait.foldl step (s, false)
  if !p.2 && !p.1.ss.offerWait.isEmpty && decide (p.1.ss.offerWait ≠ s.ss.offerWait) then p.1.postOnce .offersAgain else p.1

/-! ## Findings, R59 -/

def Findings.add (f : Findings) (x : Finding) : Findings :=
  let f := { f with total := satSucc 65535 f.total }
  if f.list.length < 16 then { f with list := f.list ++ [x] } else { f with more := true }

/-- Tests 2 to 5 of R57 for one antenna of an entry. -/
def State.targetFits (s : State) (tx : TxRecord) (e : Entry) (t : Target) : Bool :=
  match s.ant t.antenna with
  | none => false
  | some a =>
    a.inService && decide (a.bandLow ≤ e.freq ∧ e.freq ≤ a.bandHigh) && decide (tx.freqLow ≤ e.freq ∧ e.freq ≤ tx.freqHigh) &&
    decide (e.power ≤ tx.ratingKw) && decide (e.power ≤ a.maxKw) && decide (t.slew.natAbs ≤ a.slewRange) &&
    (!t.reversed || a.reverser)

/-- The second check's field tests, R57. -/
def State.entryFits (s : State) (x : Book) (e : Entry) : Bool :=
  match s.tx e.tx with
  | none => false
  | some tx =>
    tx.inService && s.targetFits tx e e.primary && (match e.alternate with | some t => s.targetFits tx e t | none => true) &&
    (match e.window with | some w => decide (x.firstDay ≤ w.1 ∧ w.2 ≤ x.lastDay) | none => true)

/-- The licensed tests of an entry, R57. -/
def State.entryLicensed (s : State) (e : Entry) : Bool :=
  s.licensed e.tx e.primary.antenna e.freq e.power &&
  (match e.alternate with | some t => s.licensed e.tx t.antenna e.freq e.power | none => true)

def State.checkEntry (s : State) (x : Book) (f : Findings) (e : Entry) : Findings :=
  let f := if s.entryFits x e then f else f.add { kind := .field, ids := [e.entryId] }
  if s.entryLicensed e then f else f.add { kind := .licence, ids := [e.entryId] }

/-- The days of an entry's window; an absent window is the whole season (R58). -/
def Book.windowOf (x : Book) (e : Entry) : Nat × Nat := e.window.getD (x.firstDay, x.lastDay)

/-- R58: a shared weekday, a shared day, minutes that meet. -/
def Book.overlap (x : Book) (e f : Entry) : Bool :=
  e.days &&& f.days != 0 && decide ((x.windowOf e).1 ≤ (x.windowOf f).2 ∧ (x.windowOf f).1 ≤ (x.windowOf e).2) &&
  decide (e.startMin < f.endMin ∧ f.startMin < e.endMin)

/-- The tests of the pair of an earlier entry `i` and `j`, R58. -/
def Book.checkPair (x : Book) (f : Findings) (i j : Entry) : Findings :=
  let f := if i.entryId = j.entryId then f.add { kind := .dupId, ids := [j.entryId] } else f
  let f := if i.tx = j.tx ∧ x.overlap i j then f.add { kind := .overlap, ids := [i.entryId, j.entryId] } else f
  if i.tx ≠ j.tx ∧ i.primary.antenna = j.primary.antenna ∧ x.overlap i j then
    f.add { kind := .antennaClash, ids := [i.entryId, j.entryId] }
  else f

/-- Takes the entries of `js` in order, each against those before it. -/
def Book.checkPairs (x : Book) (f : Findings) (earlier : List Entry) : List Entry → Findings
  | [] => f
  | j :: js => Book.checkPairs x (earlier.foldl (fun f i => x.checkPair f i j) f) (earlier ++ [j]) js

/-! ## The run index, R60 -/

/-- Insertion by start_min, then entry_id. -/
def insertByStart (p : Nat × Entry) : List (Nat × Entry) → List (Nat × Entry)
  | [] => [p]
  | q :: qs =>
    if p.2.startMin < q.2.startMin ∨ (p.2.startMin = q.2.startMin ∧ p.2.entryId < q.2.entryId) then p :: q :: qs
    else q :: insertByStart p qs

/-- The twelve lists of storage positions. -/
def buildIndex (entries : List Entry) : List (List Nat) :=
  let numbered := (entries.zipIdx).map fun p => (p.2 + 1, p.1)
  (upTo 12).map fun t => (((numbered.filter fun p => p.2.tx == t).foldl (fun acc p => insertByStart p acc) []).map (·.1))

def State.indexOf (s : State) (b : Nat) : List (List Nat) :=
  let count := ((s.book b).sealed.getD (0, 0)).1
  buildIndex ((regionRecords s.ss.array b count).map fun r => entryOf r.2)

/-! ## The verifier -/

/-- The record of a verification or re-index of a book at its start. -/
def Verifier.start (b : Nat) (reindex : Bool) : Verifier :=
  { book := b, reindex := reindex, check := 1, page := 1, passed := 0, crc := 0xFFFFFFFF, waiting := false, finished := false }

def State.setVerifier (s : State) (v : Option Verifier) : State := { s with sb := { s.sb with verifier := v } }

/-- The book the re-index takes after book `b`, if any: STANDBY and ACTIVE books, book 0 first (R67). -/
def State.nextReindex (s : State) (first : Nat) : Option Nat :=
  [0, 1].find? fun b => decide (first ≤ b) && ((s.book b).state == .standby || (s.book b).state == .active)

/-- The re-index goes on to the next book, or its checks have ended. -/
def State.reindexNext (s : State) (v : Verifier) : State :=
  match s.nextReindex (v.book + 1) with
  | some b => s.setVerifier (some (Verifier.start b true))
  | none => s.setVerifier (some { v with finished := true })

/-- The first check has failed: CHECKSUM, or for a re-index the book is DAMAGED (R56, R67). -/
def State.checksumFails (s : State) (v : Verifier) : State :=
  let x := s.book v.book
  if v.reindex then
    ((s.setBook v.book { x with state := .damaged, runIndex := none, pendingHandover := none }).alert .book).reindexNext v
  else
    (s.setBook v.book { x with findings := x.findings.add { kind := .checksum, ids := [] } }).setVerifier
      (some { v with finished := true })

/-- The first check has passed: the second begins, or for a re-index the run index is installed. -/
def State.checksumPasses (s : State) (v : Verifier) : State :=
  if v.reindex then
    let x := s.book v.book
    let s := if x.state = .standby ∨ x.state = .active then s.setBook v.book { x with runIndex := some (s.indexOf v.book) } else s
    s.reindexNext v
  else s.setVerifier (some { v with check := 2, page := 1, passed := 0 })

/-- The number of entries and the CRC of the seal. -/
def Book.sealValues (x : Book) : Nat × Nat := x.sealed.getD (0, 0)

/-- Ends each check that has taken every entry, without a read. The first argument bounds the ends that can follow one another. -/
def State.verifierAdvance : Nat → State → State
  | 0, s => s
  | n + 1, s =>
    match s.sb.verifier with
    | none => s
    | some v =>
      let sealValues := (s.book v.book).sealValues
      if v.finished ∨ v.waiting then s
      else if v.passed < sealValues.1 ∧ v.page ≤ 511 then s
      else if v.check = 1 then
        if v.passed < sealValues.1 ∨ (~~~ BitVec.ofNat 32 v.crc).toNat ≠ sealValues.2 then
          State.verifierAdvance n (s.checksumFails v)
        else State.verifierAdvance n (s.checksumPasses v)
      else if v.check = 2 then State.verifierAdvance n (s.setVerifier (some { v with check := 3, page := 1, passed := 0 }))
      else s.setVerifier (some { v with finished := true })

/-- A verification, or the re-index from book `b`, begins. -/
def State.startVerifier (s : State) (b : Nat) (reindex : Bool) : State :=
  State.verifierAdvance 8 (s.setVerifier (some (Verifier.start b reindex)))

/-- The verifier's read of its next page has been served: the check in progress takes the page's entries (R56 to R58). -/
def State.verifierServed (s : State) : State :=
  match s.sb.verifier with
  | none => s
  | some v =>
    if !v.waiting then s
    else
      let x := s.book v.book
      let v := { v with waiting := false }
      match pageOf s.ss.array v.book v.page (x.sealValues.1 - v.passed) with
      | none => State.verifierAdvance 8 (if v.check = 1 then s.checksumFails v else s.setVerifier (some { v with page := v.page + 1 }))
      | some rs =>
        let entries := rs.map entryOf
        let w := { v with page := v.page + 1, passed := v.passed + rs.length }
        let s :=
          if v.check = 1 then
            s.setVerifier (some { w with crc := (crc32More (BitVec.ofNat 32 v.crc) rs.flatten).toNat })
          else if v.check = 2 then
            (s.setBook v.book { x with findings := entries.foldl (s.checkEntry x) x.findings }).setVerifier (some w)
          else
            let earlier := (regionRecords s.ss.array v.book v.passed).map fun r => entryOf r.2
            (s.setBook v.book { x with findings := x.checkPairs x.findings earlier entries }).setVerifier (some w)
        State.verifierAdvance 8 s

/-- The states in which a book may be read by the verifier, R32. -/
def BookState.verifiable : BookState → Bool
  | .verifying => true
  | .standby => true
  | .active => true
  | .empty => false
  | .loading => false
  | .sealed => false
  | .failed => false
  | .retired => false
  | .erasing => false
  | .damaged => false

/-- The verifier reads its next page. It reads only books in VERIFYING, STANDBY and ACTIVE (R32). -/
def State.verifierReads (s : State) : State :=
  match s.sb.verifier with
  | none => s
  | some v =>
    if v.finished ∨ v.waiting ∨ (s.book v.book).state.verifiable = false then s
    else (s.setVerifier (some { v with waiting := true })).requestRead .verifier (pageAddress v.book v.page) 256

/-- A handover has retired a book: a re-index of it ends there, since the verifier reads no RETIRED book (R32). A read that waits is
withdrawn, and the re-index goes on with the next book (DEDUCED, notes/assumptions/29.md). -/
def State.leaveReindex (s : State) (b : Nat) : State :=
  match s.sb.verifier with
  | none => s
  | some v =>
    if v.reindex ∧ v.book = b ∧ v.finished = false then
      State.verifierAdvance 8 ((s.dropRead .verifier).reindexNext { v with waiting := false })
    else s

/-- The end of a verification, R59. -/
def State.verificationEnds (s : State) (v : Verifier) : State :=
  let x := s.book v.book
  let s := s.setVerifier none
  let s :=
    if x.findings.total = 0 then
      (s.setBook v.book { x with state := .standby, runIndex := some (s.indexOf v.book)
                                 findings := { x.findings with outcome := .standby } }).markDue v.book .verified []
    else s.setBook v.book { x with state := .failed, findings := { x.findings with outcome := .failed } }
  s.alert .book

/-! ## Handover, R65 -/

/-- A pending handover of book `b` is taken. -/
def State.takeHandover (s : State) (b : Nat) (h : Handover) : State :=
  let s := s.setBook b { s.book b with state := .active, activation := some h, pendingHandover := none }
  let old := decide ((s.book (1 - b)).state = .active)
  let s := if old then (s.setBook (1 - b) { s.book (1 - b) with state := .retired, runIndex := none }).leaveReindex (1 - b) else s
  let s := s.markDue b .active (u8 h.slot ++ instantOctets h.instant)
  let s := if old then s.markDue (1 - b) .retired [] else s
  (s.alert .book).post (.handover h.instant b)

/-- The pending handover of a book is taken if its instant has come, the book is STANDBY and its run index is installed. DESIGN
CHOICE: a second event that comes while the re-index still runs on the other book takes it by R65's words, once the book's own
index is installed; R67's end of the re-index takes one that is still pending then (notes/assumptions/29.md). -/
def State.handoverIfDue (s : State) (instant b : Nat) : State :=
  match (s.book b).pendingHandover with
  | some h =>
    if h.instant ≤ instant ∧ (s.book b).state = .standby ∧ (s.book b).runIndex.isSome then s.takeHandover b h else s
  | none => s

def State.handoversDue (s : State) (instant : Nat) : State := (s.handoverIfDue instant 0).handoverIfDue instant 1

/-! ## The start-up scan, R66, R67 -/

/-- Present or torn. -/
def MarkFound.found : MarkFound → Bool
  | .absent => false
  | .present _ => true
  | .torn => true

def MarkFound.contents : MarkFound → Option (List Byte)
  | .present bs => some bs
  | _ => none

/-- A handover slot as the marks give it, R49. DESIGN CHOICE: a slot with a blank instant is blank and may be used again, also when its
cancelled mark is found (notes/assumptions/29.md). -/
def readSlot (a : List Host.Cell) (b n : Nat) : HandoverSlot :=
  match readMark a b (.slotInstant n) 6 with
  | .absent => .blank
  | .torn => .torn
  | .present bs => .used (instantAt bs 0) (readMark a b (.slotCancelled n) 0).found

/-- The highest-numbered slot that carries an instant and no cancelled mark. -/
def lastUncancelled (slots : List HandoverSlot) : Option Handover :=
  ((slots.zipIdx).filterMap fun p =>
    match p.1 with
    | .used i false => some ({ slot := p.2 + 1, instant := i } : Handover)
    | _ => none).getLast?

/-- Every slot but the one kept counts as cancelled. -/
def cancelOthers (keep : Nat) (slots : List HandoverSlot) : List HandoverSlot :=
  (slots.zipIdx).map fun p =>
    match p.1 with
    | .used i c => .used i (c || p.2 + 1 != keep)
    | other => other

/-- The book record of a region, before the two books are compared (R66). DESIGN CHOICE: OPEN, SEAL and a later
mark with an absent one before it, VERIFIED before ACTIVE or RETIRED, or ACTIVE before RETIRED, match two rows of the table of R66: the
latest mark wins, and without an ACTIVE mark there is no activation instant (notes/assumptions/29.md). -/
def scanBook (a : List Host.Cell) (b : Nat) : Book :=
  let mOpen := readMark a b .opening 6
  let mSeal := readMark a b .seal 6
  let verified := (readMark a b .verified 0).found
  let mActive := readMark a b .active 7
  let retired := (readMark a b .retired 0).found
  let slots := (upTo 4).map (readSlot a b)
  let state : BookState :=
    if memBlank a (bookBase b) 131072 then .empty
    else if mOpen.contents.isNone || mSeal.contents.isNone then .damaged
    else if retired then .retired
    else if mActive.found then .active
    else if verified then .standby
    else .sealed
  let window := mOpen.contents.getD []
  let activation : Option Handover := match mActive with
    | .absent => none
    | .present bs => some { slot := octetAt bs 0, instant := instantAt bs 1 }
    | .torn => some ((lastUncancelled slots).getD { slot := 0, instant := 0 })
  let used := (slots.zipIdx).filter fun p => p.1 != .blank
  let pending : Option Handover := match state, used.getLast? with
    | .standby, some (.used i false, n) => some { slot := n + 1, instant := i }
    | _, _ => none
  { Book.empty with
    state := state
    season := mOpen.contents.map fun bs => wordAt bs 0
    firstDay := wordAt window 2
    lastDay := wordAt window 4
    sealed := mSeal.contents.map fun bs => (wordAt bs 0, longAt bs 2)
    slots := if state = .standby then cancelOthers ((pending.map (·.slot)).getD 0) slots else slots
    pendingHandover := pending
    activation := activation }

/-- Both books STANDBY with a pending handover: the later instant keeps it, book 1 if they are equal. -/
def State.scanPending (s : State) : State :=
  match s.sb.book0.pendingHandover, s.sb.book1.pendingHandover with
  | some h0, some h1 =>
    let loser := if h1.instant < h0.instant then 1 else 0
    let h := if loser = 0 then h0 else h1
    let x := s.book loser
    ((s.setBook loser { x with pendingHandover := none, slots := cancelOthers 0 x.slots }).markDue loser (.slotCancelled h.slot) [])
      |>.alert .book
  | _, _ => s

/-- Both books ACTIVE: the later activation stays, book 1 if they are equal. -/
def State.scanActive (s : State) : State :=
  if s.sb.book0.state = .active ∧ s.sb.book1.state = .active then
    let at0 : Nat := (s.sb.book0.activation.map (·.instant)).getD 0
    let at1 : Nat := (s.sb.book1.activation.map (·.instant)).getD 0
    let loser := if at1 < at0 then 1 else 0
    (s.setBook loser { s.book loser with state := .retired }).markDue loser .retired []
  else s

/-- The scan after a reset: the states of both books, then the re-index. With nothing to re-index the scan is DONE
(notes/assumptions/8.md). -/
def State.startScan (s : State) : State :=
  let s := { s with sb := { book0 := scanBook s.ss.array 0, book1 := scanBook s.ss.array 1, scanRunning := false, verifier := none,
                            markCount := 0 } }
  let s := s.scanPending.scanActive
  let s := if s.sb.book0.state = .damaged ∨ s.sb.book1.state = .damaged then s.alert .book else s
  match s.nextReindex 0 with
  | some b => State.startVerifier { s with sb := { s.sb with scanRunning := true } } b true
  | none => s

/-- The end of the re-index, R67: the scan is DONE and a pending handover whose instant has passed is taken. -/
def State.reindexEnds (s : State) : State :=
  let s := { s with sb := { s.sb with scanRunning := false, verifier := none } }
  match s.now with
  | some n => s.handoversDue n
  | none => s

/-! ## Items of the season books that have ended -/

/-- A load page has ended, R53. -/
def State.loadPageEnded (s : State) (b slot : Nat) (failure : Option FailCause) : State :=
  let x := s.book b
  match failure with
  | none => s.setBook b (if slot = 0 then { x with slotA := .free } else { x with slotB := .free })
  | some _ =>
    let x := if x.state = .loading ∨ x.state = .sealed then { x with state := .damaged, runIndex := none } else x
    (s.setBook b { x with slotA := .free, slotB := .free }).alert .book

/-- A book erase has ended, R62. -/
def State.bookEraseEnded (s : State) (b : Nat) (failure : Option FailCause) : State :=
  match failure with
  | none => s.setBook b { s.book b with state := .empty }
  | some _ => (s.setBook b { s.book b with state := .damaged }).alert .book

/-- A state mark has ended, R50. -/
def State.markEnded (s : State) (b : Nat) (m : Mark) (due : Nat) (failure : Option FailCause) : State :=
  match failure with
  | none => s
  | some _ => s.missMark b { mark := m, due := due, data := [], failed := true }

end Sys2Proof.Machine
end

