-- ==== Sys2Proof/Machine/Matrix.lean ====
section
/-! DEFINITION. The Matrix Controller, chapter 6: which movers are present (R98), what they are confirmed at (R99), motions and
their ends (R100 to R106), requests (R107 to R109), the arbiter (R110, R111), row faults (R112), the antenna status table
(R113 to R115) and the survey (R117 to R119, R121). -/

namespace Sys2Proof.Machine

open Sys2Proof

/-! ## Mover numbers -/

inductive MoverKind where
  | crosspoint (t a : Nat)
  | park (t : Nat)
  | test (a : Nat)
  | slew (a : Nat)
  | reverser (a : Nat)
deriving DecidableEq, Repr

/-- The numbering of 00_scope. -/
def kindOf (m : Nat) : MoverKind :=
  if m ≤ 288 then .crosspoint ((m - 1) / 24 + 1) ((m - 1) % 24 + 1)
  else if m ≤ 300 then .park (m - 288)
  else if m ≤ 324 then .test (m - 300)
  else if m ≤ 348 then .slew (m - 324)
  else .reverser (m - 348)

def crosspoint (t a : Nat) : Nat := (t - 1) * 24 + a
def parkSwitch (t : Nat) : Nat := 288 + t
def testSwitch (a : Nat) : Nat := 300 + a
def slewDrive (a : Nat) : Nat := 324 + a
def reverserOf (a : Nat) : Nat := 348 + a

/-- The position a named value stands for at a mover of this kind (R209): OPEN 0, CLOSED 1; FWD 0, REV 1; a slew in two's
complement. -/
def MoverKind.position (k : MoverKind) (code : Nat) : Option Position :=
  match k with
  | .slew _ => if -2 ≤ signedOctet code ∧ signedOctet code ≤ 2 then some (.slew (signedOctet code)) else none
  | .reverser _ => if code = 0 then some .fwd else if code = 1 then some .rev else none
  | _ => if code = 0 then some .opened else if code = 1 then some .closed else none

/-- The mover has a contact of this position. -/
def MoverKind.hasPosition (k : MoverKind) (p : Position) : Bool :=
  match k, p with
  | .slew _, .slew v => decide (-2 ≤ v ∧ v ≤ 2)
  | .reverser _, .fwd => true
  | .reverser _, .rev => true
  | .crosspoint _ _, .opened => true
  | .crosspoint _ _, .closed => true
  | .park _, .opened => true
  | .park _, .closed => true
  | .test _, .opened => true
  | .test _, .closed => true
  | _, _ => false

/-- R98. -/
def State.present (s : State) (m : Nat) : Bool :=
  within 1 372 m &&
  match kindOf m with
  | .crosspoint t a => decide (t ≤ s.params.txCount) && decide (a ≤ s.params.antCount)
  | .park t => decide (t ≤ s.params.txCount)
  | .test a => decide (a ≤ s.params.antCount)
  | .slew a => match s.ant a with | some r => decide (1 ≤ r.slewRange) | none => false
  | .reverser a => match s.ant a with | some r => r.reverser | none => false

/-! ## What a mover is confirmed at, R99 -/

/-- The confirmed position, none under a watch. -/
def Mover.confirmedAt (x : Mover) : Option Position := if x.watch.isSome then none else x.confirmed

def Mover.atRestSound (x : Mover) : Bool :=
  (x.phase == .rest || x.phase == .queued) && x.fault.isNone && x.watch.isNone

def Mover.inMotion (x : Mover) : Bool := x.phase == .moving || x.phase == .settling || x.phase == .validating

/-- Confirmed OPEN; an absent switch counts as confirmed OPEN. -/
def State.isOpen (s : State) (m : Nat) : Bool := !s.present m || (s.mover m).confirmedAt == some .opened

def State.isClosed (s : State) (m : Nat) : Bool := s.present m && (s.mover m).confirmedAt == some .closed

/-- Confirmed CLOSED, or under a watch that began there (R105): the switch has been confirmed CLOSED and not been seen to leave. -/
def State.standsClosed (s : State) (m : Nat) : Bool := s.present m && (s.mover m).confirmed == some .closed

/-- At REST without fault; an absent mover counts as so. -/
def State.atRest (s : State) (m : Nat) : Bool := !s.present m || (s.mover m).atRestSound

/-- The crosspoints and the park switch of a row, as far as they are present. -/
def State.rowMovers (s : State) (t : Nat) : List Nat :=
  if 1 ≤ t ∧ t ≤ s.params.txCount then parkSwitch t :: (upTo s.params.antCount).map (crosspoint t) else []

/-- The present crosspoints of a column. -/
def State.columnMovers (s : State) (a : Nat) : List Nat :=
  if 1 ≤ a ∧ a ≤ s.params.antCount then (upTo s.params.txCount).map fun t => crosspoint t a else []

/-- The rows whose crosspoint in the column is not confirmed OPEN (R111). -/
def State.rowsNotOpen (s : State) (a : Nat) : List Nat :=
  if 1 ≤ a ∧ a ≤ s.params.antCount then (upTo s.params.txCount).filter fun t => !s.isOpen (crosspoint t a) else []

/-- In the read of a mover that has become present (R98). -/
def Mover.fresh (x : Mover) : Bool := match x.reading with | some r => r.fresh | none => false

/-- The rows that count for occupancy: a crosspoint under a watch counts where it was confirmed (R113), and one that has just become
present counts as OPEN, as it did while absent, until its read has ended (R98; notes/assumptions/11.md). -/
def State.rowsOccupying (s : State) (a : Nat) : List Nat :=
  if 1 ≤ a ∧ a ≤ s.params.antCount then
    (upTo s.params.txCount).filter fun t =>
      (s.mover (crosspoint t a)).confirmed != some .opened && !(s.mover (crosspoint t a)).fresh
  else []

def State.surveyRunning (s : State) : Bool := s.mc.survey != .complete

/-- A survey is in its read. -/
def State.surveyReading (s : State) : Bool :=
  match s.mc.survey with
  | .running _ false => true
  | _ => false

/-! ## Row faults, R112 -/

/-- A row fault is set; one set again adds its cause and changes nothing else. -/
def State.addRowFault (s : State) (t : Nat) (c : RowCause) : State :=
  let old := s.rowFault t
  let s' := s.setRowFault t (addOnce old c)
  if old.isEmpty then (s'.postOnce .permits).post (.rowFault t) else s'

/-! ## Outcomes, R107 -/

/-- A requester is handed an outcome: `fault` for FAULT. -/
def State.tell (s : State) (m : Nat) (fault : Bool) (r : Requester) : State :=
  match r with
  | .executor t => s.postOnce (.executor t)
  | .diagRun => if fault then s.post (.motionFault m r) else s.postOnce .diag
  | .diagPreUse => if fault then s.post (.motionFault m r) else s.postOnce .diag
  | .host => s
  | .survey => s.postOnce .survey

def State.tellAll (s : State) (m : Nat) (fault : Bool) (rs : List Requester) : State := rs.foldl (fun s r => s.tell m fault r) s

/-- Who asked for the motion or request in hand. -/
def Mover.askers (x : Mover) : List Requester := x.requester.toList ++ x.joined

/-- The follow-on's requester. -/
def Mover.waiters (x : Mover) : List Requester := (x.followOn.map (·.requester)).toList

/-- At REST with no target and no requester. -/
def Mover.idle (x : Mover) : Mover :=
  { x with phase := .rest, target := none, requester := none, priority := 0, age := 0, joined := [], run := none, timer := none,
           window := none }

/-! ## Requests, R108 -/

/-- A request reaches MC; for an absent mover it ends DROPPED (R98). A follow-on that is presented keeps its age stamp (R109). DESIGN
CHOICE: the follow-on of a mover queued again after a halt is kept when its queued request is replaced, and when it ends because the
mover is confirmed at the position asked for; requesters that had joined the halted motion end REPLACED with its own request
(notes/assumptions/31.md). -/
def State.admitMotion (s : State) (m : Nat) (target : Position) (r : Requester) (priority : Nat) (kept : Option Nat) : State :=
  let x := s.mover m
  let stamp := kept.getD s.mc.ageCounter
  let counted : State := if kept.isSome then s else { s with mc := { s.mc with ageCounter := s.mc.ageCounter + 1 } }
  if !s.present m then s.tell m false r
  else if x.fault.isSome then s.tell m true r
  else match x.phase with
  | .rest =>
    if x.confirmedAt = some target then s.tell m false r
    else
      (counted.setMover m { x with phase := .queued, target := some target, requester := some r, priority := priority,
                                   age := stamp, joined := [] }).postOnce .arbiter
  | .queued =>
    if x.confirmedAt = some target then ((s.setMover m { x.idle with followOn := x.followOn }).tellAll m false x.askers).tell m false r
    else
      ((s.setMover m { x with target := some target, requester := some r, priority := max x.priority priority, joined := [] }).tellAll
        m false x.askers).postOnce .arbiter
  | _ =>
    if x.target = some target then (s.setMover m { x with followOn := none, joined := x.joined ++ [r] }).tellAll m false x.waiters
    else
      (counted.setMover m { x with followOn := some { target := target, requester := r, priority := priority, age := stamp } }).tellAll
        m false x.waiters

/-- A new request. -/
def State.requestMotion (s : State) (m : Nat) (target : Position) (r : Requester) (priority : Nat) : State :=
  s.admitMotion m target r priority none

/-- A requester withdraws what it still has QUEUED, and its follow-on: they end DROPPED (R107). DESIGN CHOICE: a motion that a halt has
queued again counts as QUEUED, its joined requesters go with it, and another requester's follow-on is kept
(notes/assumptions/31.md). -/
def State.withdrawMotion (s : State) (m : Nat) (r : Requester) : State :=
  let x := s.mover m
  let x := match x.followOn with
    | some f => if f.requester = r then { x with followOn := none } else x
    | none => x
  let x := if x.phase = .queued ∧ x.requester = some r then { x.idle with followOn := x.followOn } else x
  s.setMover m x

/-- The motion has ended: the follow-on is presented (R109). -/
def State.presentFollowOn (s : State) (m : Nat) (f : Option MotionRequest) : State :=
  match f with
  | some f => s.admitMotion m f.target f.requester f.priority (some f.age)
  | none => s

/-! ## Faults, R102 to R104 -/

/-- A mover gains a fault. The target is kept at a TIMEOUT, for MOVER_QUERY (R102). -/
def State.faultMover (s : State) (m : Nat) (f : MoverFault) : State :=
  let x := s.mover m
  let y := { x.idle with confirmed := none, followOn := none, fault := some f, watch := none, reading := none,
                         target := if f = .timeout then x.target else none }
  let s := (s.setMover m y)
  let s := { s with mc := { s.mc with haltList := s.mc.haltList.filter (· != m) } }
  let s := ((s.tellAll m true x.askers).tellAll m true x.waiters).alert .mover
  let s := match kindOf m with
    | .crosspoint t _ => s.addRowFault t .mover
    | .park t => s.addRowFault t .mover
    | .test a => s.addFault a .drive
    | .slew a => s.addFault a .drive
    | .reverser a => s.addFault a .drive
  (s.postOnce .matrix).postOnce .survey

/-! ## Confirmation, R101 -/

def State.confirmMover (s : State) (m : Nat) : State :=
  let x := s.mover m
  let s := (s.setMover m { x.idle with confirmed := x.target, followOn := none }).tellAll m false x.askers
  (s.presentFollowOn m x.followOn).postOnce .matrix

/-- SETTLING has ended with the contact made: VALIDATING begins, and a time of 0 ends at once. -/
def State.beginValidate (s : State) (m : Nat) : State :=
  if s.params.validate = 0 then s.confirmMover m
  else s.setMover m { s.mover m with phase := .validating, window := some (s.clock + s.params.validate * 4) }

/-- The target contact makes in MOVING. -/
def State.beginSettle (s : State) (m : Nat) : State :=
  if s.params.settle = 0 then s.beginValidate m
  else s.setMover m { s.mover m with phase := .settling, window := some (s.clock + s.params.settle * 4) }

/-! ## The arbiter, R110, R111 -/

/-- A safety input of kind STOP or CAGE is ACTIVE or RELEASING. -/
def State.safetyHalt (s : State) : Bool :=
  s.pu.inputs.any fun i => (i.kind == .stop || i.kind == .cage) && i.state != .inactive

/-- The rows a mover depends on (R106): its own, and those not confirmed OPEN in its column. -/
def State.dependsOn (s : State) (m : Nat) : List Nat :=
  match kindOf m with
  | .crosspoint t a => t :: s.rowsNotOpen a
  | .park t => [t]
  | .test a => s.rowsNotOpen a
  | .slew a => s.rowsNotOpen a
  | .reverser a => s.rowsNotOpen a

def State.rowsCold (s : State) (ts : List Nat) : Bool := ts.all fun t => (s.permit t).cold

/-- The conditions of R111 on a close. -/
def State.closeAllowed (s : State) (m : Nat) : Bool :=
  match kindOf m with
  | .crosspoint t a =>
    (s.columnMovers a).all (fun k => k == m || s.isOpen k) && s.isOpen (testSwitch a) &&
    (s.rowMovers t).all (fun k => k == m || s.isOpen k) && (s.rowFault t).isEmpty
  | .park t => (s.rowMovers t).all (fun k => k == m || s.isOpen k) && (s.rowFault t).isEmpty
  | .test a =>
    (s.columnMovers a).all s.isOpen && (upTo s.params.antCount).all fun b => b == a || s.isOpen (testSwitch b)
  | _ => true

/-- A queued request is eligible (R111); a mover being read is given no run order (R118). -/
def State.eligible (s : State) (m : Nat) : Bool :=
  let x := s.mover m
  x.phase == .queued && !s.safetyHalt && s.rowsCold (s.dependsOn m) && x.watch.isNone && x.reading.isNone &&
  (x.target != some .closed || s.closeAllowed m)

def State.slotsInUse (s : State) : Nat := (s.mc.movers.filter Mover.inMotion).length

/-- The numbers of the movers that satisfy a test, ascending. -/
def State.moversWhere (s : State) (p : Mover → Bool) : List Nat :=
  ((s.mc.movers.zipIdx).filter fun q => p q.1).map fun q => q.2 + 1

/-- Before, in the order of the queue: higher priority, then older. -/
def Mover.before (x y : Mover) : Bool := decide (y.priority < x.priority ∨ (y.priority = x.priority ∧ x.age < y.age))

/-- The eligible request to grant next. -/
def State.nextGrant (s : State) : Option Nat :=
  ((s.moversWhere fun x => x.phase == .queued).filter s.eligible).foldl (fun best m =>
    match best with
    | some b => if (s.mover m).before (s.mover b) then some m else best
    | none => some m) none

/-- The travel timer, R100, in ms. -/
def State.travelMs (s : State) (m : Nat) (x : Mover) : Nat :=
  match kindOf m with
  | .crosspoint _ _ => 200 * s.params.crosspointDs
  | .park _ => 200 * s.params.parkDs
  | .test _ => 200 * s.params.testDs
  | .reverser a => match s.ant a with | some r => 200 * r.revDs | none => 0
  | .slew a =>
    match s.ant a, x.target with
    | some r, some (.slew v) =>
      let steps := match x.confirmed with
        | some (.slew c) => stepsBetween v c
        | _ => v.natAbs + r.slewRange
      200 * steps * r.slewStepDs
    | _, _ => 0

/-- The grant, R100. A target contact already made counts as making now (notes/assumptions/20.md). -/
def State.grant (s : State) (m : Nat) : State :=
  let x := s.mover m
  let s := s.setMover m { x with phase := .moving, run := x.target, timer := some (s.clock + s.travelMs m x), confirmed := none }
  let s := if x.target.isSome && x.contacts == x.target.toList then s.beginSettle m else s
  (s.postOnce .matrix).postOnce .arbiter

/-- One grant is considered (R110). -/
def State.arbitrate (s : State) : State :=
  if s.slotsInUse < s.params.motionSlots then
    match s.nextGrant with
    | some m => s.grant m
    | none => s
  else s

/-! ## Halts, R106, R132 -/

/-- A mover in motion gives up its slot and becomes HALTED. -/
def Mover.halt (x : Mover) : Mover := { x with phase := .halted, run := none, timer := none, window := none }

/-- A halted mover is queued again at priority 7 with a new age stamp. -/
def State.requeue (s : State) (m : Nat) : State :=
  let s' := s.setMover m { s.mover m with phase := .queued, priority := 7, age := s.mc.ageCounter }
  { s' with mc := { s'.mc with ageCounter := s.mc.ageCounter + 1 } }

/-- A STOP or CAGE activation halts every mover in motion, in ascending number. -/
def State.haltAll (s : State) : State :=
  let ms := s.moversWhere Mover.inMotion
  let s := ms.foldl (fun s m => s.setMover m (s.mover m).halt) s
  { s with mc := { s.mc with haltList := s.mc.haltList ++ ms } }

/-- Movers in motion that depend on a row that is not cold are halted and queued again at once. They are then at REST without fault
(R99), so that lines are tested again (R126). DESIGN CHOICE: several halted at one event are so in ascending number
(notes/assumptions/31.md). -/
def State.haltNotCold (s : State) : State :=
  let ms := (s.moversWhere Mover.inMotion).filter fun m => !s.rowsCold (s.dependsOn m)
  if ms.isEmpty then s
  else ((ms.foldl (fun s m => (s.setMover m (s.mover m).halt).requeue m) s).postOnce .permits).postOnce .arbiter

/-- The halt from the safety inputs is over, R132. -/
def State.releaseHalt (s : State) : State :=
  let t := s.mc.haltList.foldl (fun s m => s.requeue m) s
  { t with mc := { t.mc with haltList := [] } }

/-! ## The antenna status table, R113 to R115 -/

/-- Occupancy of column `a` is derived from its crosspoints, with the effects of a change. -/
def State.deriveColumn (s : State) (a : Nat) : State :=
  let old := s.claim a
  let rows := s.rowsOccupying a
  if rows = old.openRows then s
  else
    let occupant := if rows.length = 1 then rows.head? else none
    let withdrawn := old.testClaim && occupant.isSome
    let s := s.setClaim a
      { occupant := occupant, openRows := rows,
        reservation := if occupant.isSome && old.reservation == occupant then none else old.reservation,
        testClaim := old.testClaim && !withdrawn }
    let s := if withdrawn then s.post (.claimWithdrawn a) else s
    if 2 ≤ rows.length then rows.foldl (fun s t => s.addRowFault t .column) (s.addFault a .route) else s

/-- Occupancy is not derived in a survey's read (R113). -/
def State.deriveOccupancy (s : State) : State :=
  if s.surveyReading then s else (upTo 24).foldl (fun s a => s.deriveColumn a) s

/-- What follows a change of confirmed positions, phases or faults: occupancy, permits, a grant, the survey, and the blocks that
act on confirmed positions. -/
def State.matrixChanged (s : State) : State :=
  let s := ((s.deriveOccupancy.postOnce .permits).postOnce .arbiter).postOnce .survey
  ((upTo 12).foldl (fun s t => s.postOnce (.executor t)) s).postOnce .diag

/-- A reservation request and whether it is granted, R114. -/
def State.reserve (s : State) (t a : Nat) : State × Bool :=
  let c := s.claim a
  if s.surveyRunning then (s, false)
  else match c.reservation with
  | some r => (s, r == t)
  | none =>
    if c.occupant = some t then (s, true)
    else
      let s := s.setClaim a { c with reservation := some t, testClaim := false }
      if c.testClaim then (s.post (.claimWithdrawn a), true)
      else if c.occupant.isSome then (s.post (.reserved a t), true)
      else (s, true)

def State.releaseReservation (s : State) (t a : Nat) : State :=
  let c := s.claim a
  if c.reservation = some t then s.setClaim a { c with reservation := none } else s

/-- A test claim request and whether it is granted, R115. -/
def State.claimTest (s : State) (a : Nat) : State × Bool :=
  let c := s.claim a
  if c.occupant.isNone && c.reservation.isNone && !c.testClaim && !s.surveyRunning then
    (s.setClaim a { c with testClaim := true }, true)
  else (s, false)

def State.releaseClaim (s : State) (a : Nat) : State := s.setClaim a { s.claim a with testClaim := false }

/-! ## Reads and surveys, R118, R119, R121 -/

/-- A read of one mover begins, `fresh` for one that has become present; two contacts made together are a CONFLICT at once. -/
def State.startRead (s : State) (m : Nat) (fresh : Bool) : State :=
  let x := s.mover m
  if 2 ≤ x.contacts.length then s.faultMover m .conflict
  else s.setMover m { x with reading := some { endsAt := s.clock + s.contactMs, steady := x.contacts.head?, fresh := fresh } }

/-- The outcome of a read (R118). A mover that a row survey finds in motion or HALTED keeps its motion, and DESIGN CHOICE: a watch
still running on a mover at REST or QUEUED ends with the read (notes/assumptions/27.md). -/
def State.endRead (s : State) (m : Nat) (r : MoverRead) : State :=
  let x := s.mover m
  let found := if x.phase = .rest ∨ x.phase = .queued then { x with reading := none, confirmed := r.steady, watch := none }
    else { x with reading := none }
  ((s.setMover m found).postOnce .matrix).postOnce .survey

/-- The movers a survey reads: every present mover, or the switches of one row. -/
def State.surveyScope (s : State) (row : Option Nat) : List Nat :=
  match row with
  | none => (upTo 372).filter s.present
  | some t => s.rowMovers t

def AntennaClaims.vacate (c : AntennaClaims) : AntennaClaims := { c with occupant := none, openRows := [] }

/-- A survey begins: no column has an occupant until its read ends (R113, R133), and every mover in its scope without a fault is
read. -/
def State.startSurvey (s : State) (row : Option Nat) : State :=
  let s := { s with mc := { s.mc with survey := .running row false, surveyed := row.isSome && s.mc.surveyed,
                                      claims := s.mc.claims.map AntennaClaims.vacate } }
  (((s.surveyScope row).filter fun m => (s.mover m).fault.isNone).foldl (fun s m => s.startRead m false) s).postOnce .survey

/-- Two routes of a row are confirmed CLOSED (R119, step 3). -/
def State.doubleRoute (s : State) (t : Nat) : Bool := decide (2 ≤ ((s.rowMovers t).filter s.isClosed).length)

/-- Steps 3 and 4 of R119 for one row. -/
def State.cleanRow (s : State) (t : Nat) : State :=
  let s := if s.doubleRoute t then s.addRowFault t .survey else s
  if (s.rowFault t).isEmpty && (s.rowMovers t).all s.isOpen && !(s.rowMovers t).isEmpty then
    s.requestMotion (parkSwitch t) .closed .survey 7
  else s

/-- Step 1 of R119. -/
def State.openTests (s : State) : State :=
  ((upTo s.params.antCount).filter fun a => !s.isOpen (testSwitch a)).foldl
    (fun s a => s.requestMotion (testSwitch a) .opened .survey 7) s

/-- Clean-up, R119; steps 3 and 4 go through every row, all of step 3 before step 4. DESIGN CHOICE: within a step the antennas and
the rows are taken in ascending number (notes/assumptions/31.md). -/
def State.cleanUp (s : State) (row : Option Nat) : State :=
  match row with
  | none =>
    let s := s.openTests.deriveOccupancy
    let rows := upTo s.params.txCount
    let s := rows.foldl (fun s t => if s.doubleRoute t then s.addRowFault t .survey else s) s
    rows.foldl (fun s t => s.cleanRow t) s
  | some t => (s.deriveOccupancy).cleanRow t

/-- Some request of the survey has not ended. -/
def State.surveyRequests (s : State) : Bool :=
  s.mc.movers.any fun x =>
    x.askers.contains .survey || x.waiters.contains .survey

/-- The survey completes (R117). -/
def State.surveyDone (s : State) (row : Option Nat) : State :=
  let s := { s with mc := { s.mc with survey := .complete, surveyed := s.mc.surveyed || row.isNone } }
  ((upTo 12).foldl (fun s t => s.postOnce (.executor t)) s).postOnce .diag

/-- The survey goes on once its reads have ended, and completes once its requests have. -/
def State.surveyProgress (s : State) : State :=
  match s.mc.survey with
  | .complete => s
  | .running row false =>
    if (s.surveyScope row).any fun m => (s.mover m).reading.isSome then s
    else
      let s := State.cleanUp { s with mc := { s.mc with survey := .running row true } } row
      (s.postOnce .matrix).postOnce .survey
  | .running row true => if s.surveyRequests then s else s.surveyDone row

/-! ## Movers that come and go, R98 -/

/-- A mover that has become absent: its requests end DROPPED and its record is cleared. -/
def State.dropMover (s : State) (m : Nat) : State :=
  let x := s.mover m
  let s := ((s.setMover m (Mover.reset x.contacts)).tellAll m false x.askers).tellAll m false x.waiters
  { s with mc := { s.mc with haltList := s.mc.haltList.filter (· != m) } }

/-- After a change of the hall tables: movers newly present are UNKNOWN and are read at once, movers newly absent are dropped. -/
def State.presenceChanged (s : State) (before : State) : State :=
  let s := (upTo 372).foldl (fun s m =>
    if s.present m && !before.present m then (s.setMover m (Mover.reset (s.mover m).contacts)).startRead m true
    else if !s.present m && before.present m then s.dropMover m
    else s) s
  s.postOnce .matrix

/-! ## After reset, R123 -/

/-- Every run order withdrawn and every mover UNKNOWN over the contacts its pins show; the whole-matrix survey begins. -/
def State.resetMatrix (s : State) : State :=
  State.startSurvey
    { s with mc := { Matrix.reset with movers := s.mc.movers.map (fun x => Mover.reset x.contacts), survey := .running none false,
                                       surveyed := false } } none

end Sys2Proof.Machine
end

