-- ==== Sys2Proof/Machine/Permit.lean ====
section
/-! DEFINITION. The Permit Unit, chapter 7: the condition groups of R124, falls and rises (R125, R126), permit requests (R127),
cold rows (R128), safety inputs (R129 to R132) and arc holds (R133). -/

namespace Sys2Proof.Machine

open Sys2Proof

/-! ## The condition groups, R124 -/

/-- The confirmed-CLOSED movers of a row. -/
def State.closedMovers (s : State) (t : Nat) : List Nat := (s.rowMovers t).filter s.isClosed

/-- Route: exactly one confirmed CLOSED, every other confirmed OPEN, all at REST without fault, no row fault. -/
def State.routeHolds (s : State) (t : Nat) : Bool :=
  (s.closedMovers t).length == 1 && (s.rowMovers t).all (fun m => (s.isClosed m || s.isOpen m) && s.atRest m) &&
  (s.rowFault t).isEmpty

/-- The antennas whose crosspoint of the row is confirmed CLOSED. -/
def State.closedAntennas (s : State) (t : Nat) : List Nat :=
  if 1 ≤ t ∧ t ≤ s.params.txCount then (upTo s.params.antCount).filter fun a => s.isClosed (crosspoint t a) else []

/-- The mover and column conditions of the Antenna group for one antenna. -/
def State.columnHolds (s : State) (t a : Nat) : Bool :=
  (s.columnMovers a).all (fun m => m == crosspoint t a || s.isOpen m) && s.isOpen (testSwitch a) && s.atRest (slewDrive a) &&
  s.atRest (reverserOf a)

/-- No arc hold on the antennas of the row's route. -/
def State.arcHolds (s : State) (t : Nat) : Bool := (s.closedAntennas t).all fun a => (s.arcHold a).isNone

/-- The fault sets of the antennas of the row's route are empty. -/
def State.faultsHold (s : State) (t : Nat) : Bool := (s.closedAntennas t).all fun a => s.faultSet a == 0

def State.columnsHold (s : State) (t : Nat) : Bool := (s.closedAntennas t).all fun a => s.columnHolds t a

/-- The Antenna group. DESIGN CHOICE: with no confirmed-CLOSED crosspoint it holds, and with several it must hold for each
(notes/assumptions/32.md). -/
def State.antennaHolds (s : State) (t : Nat) : Bool := s.arcHolds t && s.faultsHold t && s.columnsHold t

/-- The rows an input covers by its kind, R129. -/
def SafetyInput.covers (i : SafetyInput) (t : Nat) : Bool :=
  match i.kind with
  | .stop => true
  | .cage => i.rows.contains t
  | .rows => i.rows.contains t
  | .note => false

def State.safetyHolds (s : State) (t : Nat) : Bool := s.pu.inputs.all fun i => i.state == .inactive || !i.covers t

def State.linkHolds (s : State) (t : Nat) : Bool := (s.seq t).link != .lost

def State.lockoutHolds (s : State) (t : Nat) : Bool := !(s.prot t).lockout

/-- Every condition of R124 but the request. -/
def State.conditionsHold (s : State) (t : Nat) : Bool :=
  s.routeHolds t && s.antennaHolds t && s.safetyHolds t && s.linkHolds t && s.lockoutHolds t

/-- The cause of a fall: the first failing group in the order of R125. -/
def State.fallCause (s : State) (t : Nat) : FallCause :=
  if !s.lockoutHolds t then .lockout
  else if !s.linkHolds t then .link
  else if !s.safetyHolds t then .safety
  else if !s.arcHolds t then .arc
  else if !s.faultsHold t then .antenna
  else if !(s.routeHolds t && s.columnsHold t) then .route
  else .request

/-- The antenna of the row's route, when exactly one of its switches is confirmed CLOSED and that is a crosspoint. DESIGN CHOICE: a
row with two switches confirmed CLOSED has no present route (R73, notes/assumptions/35.md). -/
def State.routeAntenna (s : State) (t : Nat) : Option Nat :=
  if (s.closedMovers t).length = 1 then (s.closedAntennas t).head? else none

/-- The row is routed to its park, confirmed. -/
def State.parked (s : State) (t : Nat) : Bool := s.closedMovers t == [parkSwitch t]

/-! ## Requests, falls, rises, cold -/

/-- The sequencer states in which the request is STANDING, R127. -/
def Sequencer.requesting (q : Sequencer) : Bool :=
  (q.state == .tuning && q.tuneMode == .auto) || q.state == .rampUp || q.state == .onAir || q.state == .rampDown

/-- A report shows RF off, R128. -/
def TxState.rfOff : TxState → Bool
  | .off => true
  | .tuned => true
  | .muted => true
  | .fault => true
  | .tuning => false
  | .ramping => false
  | .on => false
  | .other _ => false

/-- The link is not UP, or the latest report shows RF off (R128). -/
def State.reportsOff (s : State) (t : Nat) : Bool :=
  (s.seq t).link != .up || (match (s.seq t).report with | some h => TxState.rfOff h.report.txState | none => false)

/-- The moment from which the line has been OFF for cold_ds. -/
def State.coldMoment (s : State) (t : Nat) : Nat := (s.permit t).offSince + s.params.coldDs * 100

/-- R128 as it stands now. -/
def State.coldNow (s : State) (t : Nat) : Bool := !(s.permit t).line && decide (s.coldMoment t ≤ s.clock) && s.reportsOff t

/-- The line falls, R125; a cause other than REQUEST counts and is told to the sequencer and the Protection Unit. -/
def State.lineFalls (s : State) (t : Nat) (cause : FallCause) : State :=
  let p := s.permit t
  let s := s.setPermit t { p with line := false, offSince := s.clock, cold := false, lastFall := some (cause, s.tb.elapsed)
                                  drops := if cause = .request then p.drops else satSucc 65535 p.drops }
  if cause = .request then s else s.post (.drop t cause)

/-- The line rises, R126, and the row is not cold. -/
def State.lineRises (s : State) (t : Nat) : State :=
  (s.setPermit t { s.permit t with line := true, cold := false }).post (.rise t)

/-- The line of a row is computed again from the request and the conditions. -/
def State.updateLine (s : State) (t : Nat) : State :=
  let s := s.setPermit t { s.permit t with request := (s.seq t).requesting }
  let p := s.permit t
  if p.line && !(p.request && s.conditionsHold t) then s.lineFalls t (s.fallCause t)
  else if !p.line && p.request && s.conditionsHold t then s.lineRises t
  else s

/-- The cold condition of a row is computed again; becoming cold is handed to the arbiter. -/
def State.updateCold (s : State) (t : Nat) : State :=
  let c := s.coldNow t
  let p := s.permit t
  if c = p.cold then s
  else
    let s := (s.setPermit t { p with cold := c }).postOnce (.executor t)
    if c then s.postOnce .arbiter else s

/-- A wait in RECOVERY_WAIT whose time has passed is tested again at each change that may end it (R155). -/
def State.recoveryTest (s : State) (t : Nat) : State :=
  if (s.seq t).state = .recoveryWait then s.postOnce (.recovery t) else s

/-- Every line, then every cold condition, then the halts and the tests that follow from them. -/
def State.permitsTested (s : State) : State :=
  let s := (upTo 12).foldl (fun s t => s.updateLine t) s
  let s := (upTo 12).foldl (fun s t => s.updateCold t) s
  (upTo 12).foldl (fun s t => s.recoveryTest t) s.haltNotCold

/-- The conditions of R124 are tested again. While occupancy is still to be derived they wait for it, since its ROUTE flags and row
faults belong to the same event (R113, R125); the derivation asks for the test anew. -/
def State.permitsChanged (s : State) : State := if s.notices.contains .matrix then s else s.permitsTested

/-! ## Safety inputs, R130 to R132 -/

def SafetyInput.halting (i : SafetyInput) : Bool := i.kind == .stop || i.kind == .cage

/-- The input senses its active level. -/
def SafetyInput.atActiveLevel (i : SafetyInput) : Bool := i.sensed == i.level

/-- An activation, R130. The abort of a diagnostic run is posted through its notice. -/
def State.activate (s : State) (n : Nat) : State :=
  let i := s.input n
  let s := s.setInput n { i with state := .active, activations := satSucc 65535 i.activations }
  let s := (s.postOnce .permits).alert .safety
  if i.halting then s.haltAll.postOnce .diag else s

/-- An ACTIVE input at its inactive level enters RELEASING (R131). -/
def State.beginRelease (s : State) (n : Nat) : State :=
  s.setInput n { s.input n with state := .releasing, window := some (s.clock + s.contactMs) }

/-- The release window has ended: INACTIVE, permits tested again, and the halt over with the last halting input (R131, R132). -/
def State.inputReleased (s : State) (n : Nat) : State :=
  let i := s.input n
  let s := (s.setInput n { i with state := .inactive, window := none }).postOnce .permits
  if i.halting && !s.safetyHalt then s.releaseHalt.postOnce .arbiter else s

/-- A definition is replaced and judged at the sensed level (R134). -/
def State.defineInput (s : State) (n : Nat) (kind : SafetyKind) (level : Level) (rows : List Nat) : State :=
  let s := s.setInput n { s.input n with kind := kind, level := level, rows := rows }
  if (s.input n).atActiveLevel then s.activate n else s

/-- Every input ACTIVE, those at their inactive level RELEASING (R136). -/
def State.resetInputs (s : State) : State :=
  (upTo 8).foldl (fun s n =>
    let i := s.input n
    let s := s.setInput n { i with state := .active, window := none }
    if i.atActiveLevel then s else s.beginRelease n) s

/-! ## Arcs, R133 -/

/-- An arc on a present antenna: the hold, the fall of the occupant's line, the hand-over to the Protection Unit. -/
def State.arcOn (s : State) (a : Nat) : State :=
  let s := s.setArcHold a (some (s.clock + s.params.arcHoldDs * 100))
  (s.postOnce .permits).post (.arc a (s.claim a).occupant)

end Sys2Proof.Machine
end

