-- ==== Sys2Proof/Machine/Sequencer.lean ====
section
/-! DEFINITION. The transmitter sequencers, chapter 8: entering a state (R148), taking and sending orders (R142 to R147, R150 to
R152), mutes, notices and quenches (R146, R154 to R158), and the limit of a use (R162, R163). -/

namespace Sys2Proof.Machine

open Sys2Proof

/-! ## Orders -/

def Order.kind : Order → OrderKind
  | .tunePreset _ _ _ _ _ => .tunePreset
  | .tuneAuto _ _ => .tuneAuto
  | .rfOn _ _ _ => .rfOn
  | .rfOff _ => .rfOff
  | .mute => .mute
  | .power _ => .power
  | .feed _ => .feed
  | .clearTrip => .clearTrip

/-- The frame kinds of 12.6. -/
def OrderKind.code : OrderKind → Nat
  | .tunePreset => 0x11 | .tuneAuto => 0x12 | .rfOn => 0x13 | .rfOff => 0x14 | .mute => 0x15 | .power => 0x16 | .feed => 0x17
  | .clearTrip => 0x18

/-- The body after the order number, 12.6. -/
def Order.fields : Order → List Byte
  | .tunePreset f a b c d => u16 f ++ u16 a ++ u16 b ++ u16 c ++ u16 d
  | .tuneAuto f kw => u16 f ++ u8 kw
  | .rfOn p r f => u16 p ++ u16 r ++ u8 f
  | .rfOff r => u16 r
  | .mute => []
  | .power p => u16 p
  | .feed f => u8 f
  | .clearTrip => []

/-- An order frame, 12.6: two sync octets, length, kind, number, fields, CRC-16 over length, kind and body. -/
def orderFrame (o : Order) (number : Nat) : List Byte :=
  let covered := u8 (o.fields.length + 2) ++ u8 o.kind.code ++ u8 number ++ o.fields
  [0xB4, 0xB4] ++ covered ++ u16 (crc16 covered).toNat

/-- Orders that wait for the line, R144. -/
def Order.gated : Order → Bool
  | .rfOn _ _ _ => true
  | .tuneAuto _ _ => true
  | _ => false

/-! ## Protection's view of an order, R142, R162, R163 -/

/-- The commanded power becomes `p`; a power other than 0 and other than an autotune's is the working power too. -/
def State.command (s : State) (t p : Nat) (tune : Bool) : State :=
  let x := s.prot t
  s.setProt t { x with commanded := p, working := if p = 0 ∨ tune then x.working else p }

/-- What the taking of an order sets. A TUNE_PRESET leaves the commanded power, which is 0, as it is. -/
def State.commandOrder (s : State) (t : Nat) (o : Order) : State :=
  match o with
  | .tuneAuto _ kw => s.command t kw true
  | .rfOn p _ _ => s.command t p false
  | .rfOff _ => s.command t 0 false
  | .mute => s.command t 0 false
  | .power p => s.command t p false
  | .tunePreset _ _ _ _ _ => s
  | .feed _ => s
  | .clearTrip => s

/-- The limit of a use, R162: the power of the use, the rating, and on an antenna its max_kw and its licence limit. -/
def State.limitOf (s : State) (t power freq : Nat) : Nat :=
  let rated := match s.tx t with | some r => min power r.ratingKw | none => power
  match s.routeAntenna t with
  | none => rated
  | some a =>
    let x := min rated (licenceLimit s.ht.licence t a freq)
    match s.ant a with | some r => min x r.maxKw | none => x

/-- A limit is computed: the floor, and no fold in force. -/
def State.setLimit (s : State) (t limit : Nat) : State :=
  s.setProt t { s.prot t with limit := some limit, floor := ceilDiv limit 4, folded := false, lastFold := none, restoreRun := none }

/-! ## Entering a state, R148 -/

/-- States that keep the tuned frequency. -/
def SeqState.keepsFreq : SeqState → Bool
  | .tuned => true
  | .rampUp => true
  | .onAir => true
  | .rampDown => true
  | .muted => true
  | .recoveryWait => true
  | .unknown => false
  | .off => false
  | .tuning => false
  | .lockout => false
  | .linkLost => false
  | .fault => false

/-- The sequencer enters a state with its timer. What belongs to the state it leaves is dropped: the tune mode, the mute, the
restart power, a kept notice, a feedback that saw no ratio in ON_AIR, and, outside RAMP_UP and ON_AIR, the restore run (R167). A
request that becomes NONE is handed to the Permit Unit as it does, and an ASSERTED line falls (R125, R127); one that has stood only
within this event was handed over before, and the line rose if it could (R126). DESIGN CHOICE: MUTED alone keeps a mute origin
(notes/assumptions/33.md). -/
def State.enterSeq (s : State) (t : Nat) (st : SeqState) (timer : Option Nat) : State :=
  let q := s.seq t
  let s := if !(s.permit t).line && q.requesting then s.updateLine t else s
  let s := s.setSeq t
    { q with state := st, tuneMode := .none, tunedFreq := if st.keepsFreq then q.tunedFreq else none, timer := timer, mute := none,
             restart := none, kept := none, quench := .none,
             feedback := if q.state = .onAir then none else q.feedback }
  let s := if st = .rampUp ∨ st = .onAir then s else s.setProt t { s.prot t with restoreRun := none }
  let s := if (s.permit t).line && !(s.seq t).requesting then s.updateLine t else s
  ((s.postOnce .permits).post (.sequencer t)).postOnce (.executor t)

/-! ## Ends of orders, R145 -/

/-- An order ends: its outcome is recorded and handed to its owner. -/
def State.endOrder (s : State) (t : Nat) (kind : OrderKind) (number : Option Nat) (owner : OrderOwner) (outcome : OrderEnd) : State :=
  (s.setSeq t { s.seq t with lastOrder := some { kind := kind, number := number, owner := owner, outcome := outcome } }).post
    (.orderEnded t kind owner outcome)

def State.endQueued (s : State) (t : Nat) (x : QueuedOrder) (outcome : OrderEnd) : State :=
  s.endOrder t x.order.kind none x.owner outcome

/-- The outstanding order ends. -/
def State.endOutstanding (s : State) (t : Nat) (outcome : OrderEnd) : State :=
  match (s.seq t).outstanding with
  | none => s
  | some o => (s.setSeq t { s.seq t with outstanding := none }).endOrder t o.order.kind (some o.number) o.owner outcome

/-- The send queue and the deferred orders end DISCARDED. -/
def State.discardOrders (s : State) (t : Nat) : State :=
  let q := s.seq t
  (q.queue ++ q.deferred).foldl (fun s x => s.endQueued t x .discarded) (s.setSeq t { q with queue := [], deferred := [] })

/-! ## Sending, R143, R144 -/

/-- A frame goes out with the next number and becomes the outstanding order. -/
def State.sendFrame (s : State) (t : Nat) (x : QueuedOrder) : State :=
  let q := s.seq t
  let n := (q.counter + 1) % 256
  s.setSeq t { q with counter := n, lastFrame := orderFrame x.order n,
                      outstanding := some { order := x.order, number := n, owner := x.owner, sentAt := s.clock } }

/-- The head of the queue is sent when no order is outstanding, unless it waits for the line. -/
def State.trySend (s : State) (t : Nat) : State :=
  let q := s.seq t
  match q.outstanding, q.queue with
  | none, x :: rest =>
    if x.order.gated && !(s.permit t).line then s else (s.setSeq t { q with queue := rest }).sendFrame t x
  | _, _ => s

/-- Puts an order into a queue, in the place of one of its kind. -/
def replaceKind (x : QueuedOrder) (xs : List QueuedOrder) : List QueuedOrder :=
  if xs.any fun y => y.order.kind == x.order.kind then xs.map fun y => if y.order.kind = x.order.kind then x else y else xs ++ [x]

/-- The orders of the same kind that a new one replaces end REPLACED. -/
def State.endReplaced (s : State) (t : Nat) (x : QueuedOrder) (xs : List QueuedOrder) : State :=
  (xs.filter fun y => y.order.kind == x.order.kind).foldl (fun s y => s.endQueued t y .replaced) s

/-- An order taken joins the send queue and is sent when its turn comes. -/
def State.enqueue (s : State) (t : Nat) (o : Order) (owner : OrderOwner) : State :=
  let x : QueuedOrder := { order := o, owner := owner }
  let old := (s.seq t).queue
  let s := s.setSeq t { s.seq t with queue := replaceKind x old }
  ((s.endReplaced t x old).commandOrder t o).trySend t

/-! ## MUTE and quench, R146 -/

/-- A MUTE goes ahead of every other order. -/
def State.takeMute (s : State) (t : Nat) (owner : OrderOwner) : State :=
  let s := (s.endOutstanding t .superseded).discardOrders t
  (s.commandOrder t .mute).sendFrame t { order := .mute, owner := owner }

/-- ramp_down_ds of the transmitter. DESIGN CHOICE: 0 for a slot that is not defined, which a quench may still have to put off
(notes/assumptions/33.md). -/
def State.rampDown (s : State) (t : Nat) : Nat := match s.tx t with | some r => r.rampDownDs | none => 0

def State.rampUp (s : State) (t : Nat) : Nat := match s.tx t with | some r => r.rampUpDs | none => 0

/-- A quench: MUTE and then RF_OFF; the state is unchanged. -/
def State.takeQuench (s : State) (t : Nat) : State := (s.takeMute t .quench).enqueue t (.rfOff (s.rampDown t)) .quench

/-- A quench from UNKNOWN or LINK_LOST, R149. -/
def State.firstQuench (s : State) (t : Nat) : State :=
  let s := s.takeQuench t
  s.setSeq t { s.seq t with quench := .inProgress }

/-- The state may hold RF when it is left (R156, R157). -/
def Sequencer.mayHoldRf (q : Sequencer) : Bool := q.requesting || q.state == .muted

/-- The sequencer mutes, R154. -/
def State.muteFor (s : State) (t : Nat) (origin : MuteOrigin) (owner : OrderOwner) (notice : Option Nat) : State :=
  let s := (s.takeMute t owner).enterSeq t .muted none
  s.setSeq t { s.seq t with mute := some { origin := origin, accepted := false, notice := notice } }

/-- The mute origin of a trip or drop: RAMP_DOWN when it is taken in RAMP_DOWN. -/
def State.originOf (s : State) (t : Nat) (origin : MuteOrigin) : MuteOrigin :=
  if (s.seq t).state = .rampDown then .rampDown else origin

/-- RF is standing: RAMP_UP, ON_AIR or RAMP_DOWN. -/
def Sequencer.rfStanding (q : Sequencer) : Bool := q.state == .rampUp || q.state == .onAir || q.state == .rampDown

/-- A trip reaches the sequencer. -/
def State.seqTrip (s : State) (t : Nat) (owner : OrderOwner) : State :=
  if (s.seq t).rfStanding then s.muteFor t (s.originOf t .trip) owner none else s

/-! ## FAULT, LINK_LOST, LOCKOUT, R156 to R158 -/

/-- The sequencer enters FAULT, R157. -/
def State.seqFault (s : State) (t : Nat) (cause : SeqFault) : State :=
  let left := s.seq t
  let s := s.discardOrders t
  let s := if left.mayHoldRf then s.takeQuench t else s
  let s := s.enterSeq t .fault none
  (s.setSeq t { s.seq t with faultCause := some cause }).alert .txLink

/-- The sequencer enters LINK_LOST, R158. DESIGN CHOICE: the commanded power is left as it stands, tune_kw when an autotune ends here
(R142, notes/assumptions/33.md). -/
def State.seqLinkLost (s : State) (t : Nat) : State :=
  let s := ((s.endOutstanding t .discarded).discardOrders t).enterSeq t .linkLost none
  s.setSeq t { s.seq t with feedback := none }

/-- The link has become LOST, or a drop notice with cause LINK has come (R158). In FAULT and LOCKOUT the queue of a quench is kept, and
its head is sent now that no order is outstanding (R144). -/
def State.linkLossAt (s : State) (t : Nat) : State :=
  match (s.seq t).state with
  | .unknown => s
  | .fault => (s.endOutstanding t .discarded).trySend t
  | .lockout => (s.endOutstanding t .discarded).trySend t
  | _ => s.seqLinkLost t

/-- A lockout notice, R156. -/
def State.lockoutNotice (s : State) (t : Nat) : State :=
  let left := s.seq t
  if left.state = .unknown then s
  else
    let s := match left.outstanding with
      | some o => if o.order = Order.mute then s else s.endOutstanding t .superseded
      | none => s
    let s := s.discardOrders t
    let s := if left.mayHoldRf then s.takeQuench t else s
    s.enterSeq t .lockout none

/-! ## Ramps and tunes, R150 to R152 -/

/-- RF_OFF is taken: RAMP_DOWN. -/
def State.takeRfOff (s : State) (t : Nat) (owner : OrderOwner) : State :=
  (s.enterSeq t .rampDown (some (s.clock + (2 * s.rampDown t + 10) * 100))).enqueue t (.rfOff (s.rampDown t)) owner

/-- RF_ON is taken: RAMP_UP; q becomes unknown and WARN is cleared (R164). -/
def State.takeRfOn (s : State) (t power feed : Nat) (owner : OrderOwner) : State :=
  let s := s.enterSeq t .rampUp (some (s.clock + (2 * s.rampUp t + 10) * 100))
  let s := s.setSeq t { s.seq t with lastFeed := feed }
  let s := s.setProt t { s.prot t with ratio := none, warn := false }
  s.enqueue t (.rfOn power (s.rampUp t) feed) owner

/-- A tune is taken: TUNING. -/
def State.enterTuning (s : State) (t : Nat) (mode : TuneMode) (freq : Nat) (ant : Option Nat) (ds : Nat) : State :=
  let s := s.enterSeq t .tuning (some (s.clock + 2 * ds * 100))
  s.setSeq t { s.seq t with tuneMode := mode, tuneFreq := freq, tuneAnt := ant,
                            feedback := if mode = .preset then ant.map fun a => (a, channelOf freq) else none }

def State.takeTuneAuto (s : State) (t freq : Nat) (owner : OrderOwner) : State :=
  match s.tx t with
  | none => s.endOrder t .tuneAuto none owner .notTaken
  | some r =>
    (s.enterTuning t .auto freq (s.routeAntenna t) r.autotuneDs).enqueue t (.tuneAuto freq r.tuneKw) owner

/-- The antenna of a PRESET tune: the changeover's target for the executor, the present route for the host (R150). DESIGN CHOICE: the
target is that at the taking, also for an order that was deferred in RAMP_DOWN (R147, notes/assumptions/33.md). -/
def State.tuneAntenna (s : State) (t : Nat) (owner : OrderOwner) : Option Nat :=
  match owner with
  | .executor => (s.change t).map fun c => c.target.antenna
  | _ => s.routeAntenna t

/-- A TUNE_PRESET and whether it was taken: the lookup comes first (R150). -/
def State.takeTunePreset (s : State) (t freq : Nat) (owner : OrderOwner) : State × Bool :=
  match s.tuneAntenna t owner, s.tx t with
  | some a, some r =>
    let l := s.lookup t a (channelOf freq)
    match l.2 with
    | some p =>
      ((l.1.enterTuning t .preset freq (some a) r.presetDs).enqueue t (.tunePreset freq p.s1 p.s2 p.s3 p.s4) owner, true)
    | none => (l.1, false)
  | _, _ => (s, false)

/-! ## Orders of internal owners, R147, R148, R152, R154 -/

def State.powerHandedOver (s : State) (t limit : Nat) : State :=
  let x := s.prot t
  let floor := ceilDiv limit 4
  let restart := max floor (min x.restart limit)
  let s := (s.setLimit t limit).setProt t
    { (s.setLimit t limit).prot t with restart := restart, folded := decide (restart < limit) }
  let q := s.seq t
  s.setSeq t { q with restart := q.restart.map fun _ => restart
                      mute := q.mute.map fun m => { m with notice := m.notice.map fun _ => restart } }

/-- FEED is taken in these states (R148, R159). -/
def SeqState.takesFeed : SeqState → Bool
  | .off => true
  | .tuning => true
  | .tuned => true
  | .rampUp => true
  | .onAir => true
  | .muted => true
  | .recoveryWait => true
  | .unknown => false
  | .rampDown => false
  | .lockout => false
  | .linkLost => false
  | .fault => false

/-- FEED is sent without a change of state. -/
def State.takeFeed (s : State) (t feed : Nat) (owner : OrderOwner) : State :=
  (s.setSeq t { s.seq t with lastFeed := feed }).enqueue t (.feed feed) owner

/-- An internal order is handled by the state table outside RAMP_DOWN. -/
def State.takeInternal (s : State) (t : Nat) (o : Order) (owner : OrderOwner) : State :=
  let st := (s.seq t).state
  match o with
  | .tunePreset f _ _ _ _ =>
    if st = .off ∨ st = .tuned then
      let r := s.takeTunePreset t f owner
      if r.2 then r.1 else r.1.endOrder t .tunePreset none owner .noPreset
    else s.endOrder t .tunePreset none owner .notTaken
  | .tuneAuto f _ =>
    if st = .off ∨ st = .tuned then s.takeTuneAuto t f owner else s.endOrder t .tuneAuto none owner .notTaken
  | .rfOn p _ f => if st = .tuned then s.takeRfOn t p f owner else s.endOrder t .rfOn none owner .notTaken
  | .rfOff _ =>
    if st = .off ∨ st = .tuned then s.endOrder t .rfOff none owner .accepted
    else if st = .rampUp ∨ st = .onAir ∨ st = .muted ∨ st = .recoveryWait then s.takeRfOff t owner
    else s.endOrder t .rfOff none owner .notTaken
  | .power p =>
    if st = .onAir ∨ st = .rampUp then s.enqueue t (.power p) owner
    else if st = .muted ∨ st = .recoveryWait then (s.powerHandedOver t p).endOrder t .power none owner .accepted
    else s.endOrder t .power none owner .notTaken
  | .feed f => if st.takesFeed then s.takeFeed t f owner else s.endOrder t .feed none owner .notTaken
  | .mute => s.endOrder t .mute none owner .notTaken
  | .clearTrip => s.endOrder t .clearTrip none owner .notTaken

/-- An internal owner offers an order; in RAMP_DOWN it is deferred (R147). -/
def State.offerOrder (s : State) (t : Nat) (o : Order) (owner : OrderOwner) : State :=
  if (s.seq t).state = .rampDown then
    let x : QueuedOrder := { order := o, owner := owner }
    let old := (s.seq t).deferred
    (s.setSeq t { s.seq t with deferred := replaceKind x old }).endReplaced t x old
  else s.takeInternal t o owner

/-- RAMP_DOWN has ended in OFF or TUNED: the deferred orders are taken in order. -/
def State.takeDeferred (s : State) (t : Nat) : State :=
  let xs := (s.seq t).deferred
  xs.foldl (fun s x => s.offerOrder t x.order x.owner) (s.setSeq t { s.seq t with deferred := [] })

/-! ## CLEAR_TRIP, R157 -/

/-- FAULT is left for OFF with a CLEAR_TRIP. -/
def State.clearTrip (s : State) (t : Nat) (owner : OrderOwner) : State :=
  (s.enterSeq t .off none).enqueue t .clearTrip owner

/-! ## Recovery, R154, R155, R170 -/

/-- RECOVERY_WAIT begins with a restart power; its length is fixed at its entry. -/
def State.beginRecoveryWait (s : State) (t power : Nat) : State :=
  let s := s.enterSeq t .recoveryWait (some (s.clock + s.pt.settings.recoveryDs * 100))
  s.setSeq t { s.seq t with restart := some power }

/-- MUTED is left when the MUTE is accepted, as its origin gives. -/
def State.mutedProgress (s : State) (t : Nat) : State :=
  match (s.seq t).mute with
  | none => s
  | some m =>
    if !m.accepted then s
    else match m.origin, m.notice with
    | .rampDown, _ => s.takeRfOff t .sequencer
    | .host, _ => s
    | _, some power => s.beginRecoveryWait t power
    | _, none => s

/-- A drop notice is on its way to the sequencer: it has been posted, or the line is about to fall (R125). -/
def State.dropComing (s : State) (t : Nat) : Bool :=
  (s.notices.any fun n => match n with | .drop r _ => r == t | _ => false) || ((s.permit t).line && !s.conditionsHold t)

/-- A recovery notice reaches the sequencer. One that comes before the drop notice it answers is kept; one with no mute to answer is
discarded (R170). -/
def State.recoveryNotice (s : State) (t power : Nat) : State :=
  let q := s.seq t
  match q.state with
  | .muted => (s.setSeq t { q with mute := q.mute.map fun m => { m with notice := some power } }).mutedProgress t
  | .recoveryWait => s.setSeq t { q with restart := some power }
  | _ => if q.rfStanding && s.dropComing t then s.setSeq t { q with kept := some power } else s

/-- A drop notice reaches the sequencer, R154. DESIGN CHOICE: the MUTE of a drop, or of a trip that the sequencer finds, is the
sequencer's own order (notes/assumptions/33.md). -/
def State.seqDrop (s : State) (t : Nat) (cause : FallCause) : State :=
  let q := s.seq t
  match cause with
  | .link => if q.state = .linkLost then s else s.linkLossAt t
  | .lockout => if q.state = .lockout then s else s.lockoutNotice t
  | _ =>
    if q.rfStanding then
      let origin := s.originOf t .drop
      (s.muteFor t origin .sequencer (if origin = .drop then q.kept else none)).mutedProgress t
    else if q.state = .tuning ∧ q.tuneMode = .auto then s.seqFault t .tuneAborted
    else s

/-- The transmitter is in AUTO duty with something to restart for, and the feed of it (R155). -/
def State.restartFeed (s : State) (t : Nat) : Option Nat :=
  let d := s.duty t
  if d.mode = .manual then none
  else match s.change t with
  | some c => if c.phase = .rampingUp then some c.feed else d.current.map (·.feed)
  | none => d.current.map (·.feed)

/-- RECOVERY_WAIT is tested once its time has passed (R155). -/
def State.recoveryWaitTest (s : State) (t : Nat) : State :=
  let q := s.seq t
  if q.state = .recoveryWait ∧ (q.timer.getD 0) ≤ s.clock then
    match s.restartFeed t with
    | none => s.takeRfOff t .sequencer
    | some feed =>
      if s.conditionsHold t then
        let s := s.setProt t { s.prot t with lastFold := some s.clock }
        s.takeRfOn t (q.restart.getD 0) feed .sequencer
      else s
  else s

end Sys2Proof.Machine
end

