-- ==== Sys2Proof/Machine/Protection.lean ====
section
/-! DEFINITION. The Protection Unit, chapter 9: trips, recovery and lockout (R168 to R171), the reflection ratio and its decisions
(R164 to R167), arcs (R173); and what a sequencer does with a report (R141, R145, R149 to R153). -/

namespace Sys2Proof.Machine

open Sys2Proof

/-! ## Trips, R168 to R171 -/

def TripCause.counted : TripCause → Bool
  | .vswr => true
  | .foldFloor => true
  | .rampFail => true
  | .tx => true
  | .arc => true
  | .route => true
  | .antenna => false
  | .safety => false
  | .link => false

/-- A fold step from `p`: floor(p × 813 / 1024) (R166). -/
def foldOf (p : Nat) : Nat := p * 813 / 1024

/-- A restore step from `p`: ceil(p × 1024 / 813), before the limit (R167). -/
def restoreOf (p : Nat) : Nat := ceilDiv (p * 1024) 813

/-- The history with one more instant, of three at most (R169). -/
def appendHistory (limit : Nat) (h : List Nat) (i : Nat) : List Nat := (if h.length < limit then h else h.drop 1) ++ [i]

/-- Three instants within the window. -/
def lockoutDue (h : List Nat) (window : Nat) : Bool :=
  decide (h.length = 3) && decide (h.getD 2 0 - h.getD 0 0 ≤ window)

/-- The restart power of a recovery notice, R170. DESIGN CHOICE: its formula is taken as it stands, also where an entry power handed
over in MUTED or RECOVERY_WAIT has put the limit below the working power (notes/assumptions/33.md). -/
def Protection.restartPower (x : Protection) (counted : Bool) : Nat :=
  match x.limit with
  | none => 0
  | some _ => if counted then max x.floor (foldOf x.working) else x.working

/-- The protection record after a trip at elapsed count `now` with window `w`, and the trip's outcome. -/
def Protection.trip (x : Protection) (cause : TripCause) (code now w : Nat) : Protection × TripOutcome :=
  let record := fun (o : TripOutcome) =>
    some ({ cause := cause, code := code, elapsed := now, counted := cause.counted, outcome := o } : LastTrip)
  if cause.counted then
    let x := { x with counted := satSucc 65535 x.counted }
    if x.lockout then ({ x with lastTrip := record .none }, .none)
    else
      let h := appendHistory 3 x.history now
      let x := { x with history := h }
      if lockoutDue h w then
        ({ x with lockout := true, folded := false, restoreRun := none, lastFold := none, lastTrip := record .lockout }, .lockout)
      else ({ x with restart := x.restartPower true, folded := true, lastTrip := record .recovery }, .recovery)
  else
    let x := { x with uncounted := satSucc 65535 x.uncounted }
    if cause = .link then ({ x with lastTrip := record .none }, .none)
    else ({ x with restart := x.restartPower false, lastTrip := record .recovery }, .recovery)

/-- A trip of a transmitter is recorded, with its alerts. -/
def State.recordTrip (s : State) (t : Nat) (cause : TripCause) (code : Nat) : State × TripOutcome :=
  let r := (s.prot t).trip cause code s.tb.elapsed s.pt.settings.tripWindowS
  let s := s.setProt t r.1
  let s := if cause.counted then s.alert .trip else s
  (if r.2 = .lockout then (s.alert .lockout).postOnce .permits else s, r.2)

/-- The notice that answers a trip reaches the sequencer. -/
def State.deliver (s : State) (t : Nat) (o : TripOutcome) : State :=
  match o with
  | .recovery => s.recoveryNotice t (s.prot t).restart
  | .lockout => s.lockoutNotice t
  | .none => s

/-- A trip that PT makes or that the sequencer finds: the sequencer mutes, and the notice follows. -/
def State.tripWith (s : State) (t : Nat) (cause : TripCause) (code : Nat) (owner : OrderOwner) : State :=
  let r := s.recordTrip t cause code
  (r.1.seqTrip t owner).deliver t r.2

/-- A drop notice reaches PT and the sequencer (R125, R154, R168). In TUNING with AUTO it is an uncounted trip without a notice. -/
def State.dropNotice (s : State) (t : Nat) (cause : FallCause) : State :=
  let tuning := (s.seq t).state == .tuning && (s.seq t).tuneMode == .auto
  let trip : Option TripCause := match cause with
    | .route => some .route
    | .antenna => some .antenna
    | .safety => some .safety
    | .link => some .link
    | .arc => none
    | .lockout => none
    | .request => none
  match trip with
  | none => s.seqDrop t cause
  | some c =>
    if tuning then
      let x := s.prot t
      (s.setProt t { x with
        uncounted := satSucc 65535 x.uncounted
        lastTrip := some { cause := c, code := 0, elapsed := s.tb.elapsed, counted := false, outcome := .none } }).seqDrop t cause
    else
      let r := s.recordTrip t c 0
      (r.1.seqDrop t cause).deliver t r.2

/-! ## Fold-back and restore, R166, R167 -/

def State.foldStep (s : State) (t : Nat) : State :=
  let x := s.prot t
  if foldOf x.commanded < x.floor then s.tripWith t .foldFloor 0 .protection
  else
    (s.setProt t { x with folded := true, lastFold := some s.clock }).offerOrder t (.power (foldOf x.commanded)) .protection

def State.restoreStep (s : State) (t : Nat) : State :=
  let x := s.prot t
  let new := match x.limit with | some l => min l (restoreOf x.commanded) | none => restoreOf x.commanded
  let full := x.limit == some new
  (s.setProt t { x with restoreRun := if full then none else some s.clock, folded := x.folded && !full }).offerOrder t (.power new)
    .protection

/-- An evaluation below warn_pm while FOLDED is set (R167). -/
def State.restoreRunStep (s : State) (t : Nat) : State :=
  let x := s.prot t
  match x.restoreRun with
  | none => s.setProt t { x with restoreRun := some s.clock }
  | some m => if m + s.pt.settings.restoreIntervalS * 1000 ≤ s.clock then s.restoreStep t else s

/-! ## The reflection ratio, R164, R165 -/

/-- q = min(999, floor(100 × Pr / Pf)). -/
def ratioOf (pf pr : Nat) : Nat := min 999 (100 * pr / pf)

/-- A report the sequencer takes as a transmitter trip (R153). -/
def Report.isTrip (r : Report) : Bool :=
  r.txState == .off || r.txState == .tuned || r.txState == .muted || r.txState == .fault || r.tripCode != 0

/-- The decisions of R165 at an evaluated ratio. -/
def State.ratioDecision (s : State) (t q : Nat) : State :=
  let p := s.pt.settings
  let x := s.prot t
  if p.warnPm ≤ q then
    let s := s.setProt t { x with restoreRun := none }
    if p.tripPm ≤ q then s.tripWith t .vswr 0 .protection
    else if p.foldPm ≤ q then
      match x.lastFold with
      | none => s.foldStep t
      | some m => if m + p.foldIntervalDs * 100 ≤ s.clock then s.foldStep t else s
    else s
  else if x.folded then s.restoreRunStep t
  else s

/-- The first ratio in ON_AIR goes to the Preset Cache with the preset's key (R151). -/
def State.sendFeedback (s : State) (t q : Nat) : State :=
  match (s.seq t).state, (s.seq t).feedback with
  | .onAir, some key => (s.setSeq t { s.seq t with feedback := none }).presetFeedback t key.1 key.2 q
  | _, _ => s

/-- A report is evaluated when the conditions of R164 hold. -/
def State.evaluates (s : State) (t : Nat) (r : Report) : Bool :=
  ((s.seq t).state == .rampUp || (s.seq t).state == .onAir) && !Report.isTrip r && decide (1 ≤ r.pf) &&
  decide ((s.prot t).commanded * 10 ≤ r.pf * 20)

def State.evaluate (s : State) (t : Nat) (r : Report) : State :=
  if s.evaluates t r then
    let q := ratioOf r.pf r.pr
    let s := s.setProt t { s.prot t with ratio := some q, evaluatedAt := some s.clock, warn := decide (s.pt.settings.warnPm ≤ q) }
    (s.sendFeedback t q).ratioDecision t q
  else s

/-! ## Arcs, R173 -/

/-- The arc histories and the trip of the occupant, in the order of R173. -/
def State.arcCounted (s : State) (a : Nat) (occupant : Option Nat) : State :=
  let x := s.arcRecord a
  let s := s.setArcRecord a { x with count := satSucc 65535 x.count }
  let s := match occupant with
    | some t =>
      let r := s.recordTrip t .arc 0
      r.1.deliver t r.2
    | none => s
  let h := appendHistory 2 x.history s.tb.elapsed
  let close := decide (h.length = 2) && decide (h.getD 1 0 - h.getD 0 0 ≤ s.pt.settings.arcWindowS)
  let s := s.setArcRecord a { s.arcRecord a with history := if close then [] else h }
  if close then s.addFault a .arc else s

/-! ## Reports, R141, R145, R149 to R153 -/

/-- The held report's staleness: the time since its arrival exceeds tx_stale_ds (R141). -/
def State.stale (s : State) (t : Nat) : Bool :=
  match (s.seq t).report with
  | some h => decide (h.arrived + s.params.txStaleDs * 100 < s.clock)
  | none => false

/-- An order of a quench has ended REFUSED or TIMEOUT in UNKNOWN or LINK_LOST (R149). -/
def State.quenchFailed (s : State) (t : Nat) : State :=
  let q := s.seq t
  if q.quench = .inProgress then s.setSeq t { q with quench := .failed } else s

/-- The outstanding order has been refused or has timed out (R145, R146). -/
def State.orderFailed (s : State) (t : Nat) (owner : OrderOwner) (outcome : OrderEnd) (cause : SeqFault) : State :=
  let s := s.endOutstanding t outcome
  if owner = OrderOwner.quench then (s.quenchFailed t).trySend t else s.seqFault t cause

/-- The outstanding order has been accepted; a MUTE's acceptance may end MUTED. -/
def State.orderAccepted (s : State) (t : Nat) (o : Outstanding) : State :=
  let s := s.endOutstanding t .accepted
  let s := match o.order, (s.seq t).mute with
    | .mute, some m =>
      if o.owner = OrderOwner.quench then s
      else (s.setSeq t { s.seq t with mute := some { m with accepted := true } }).mutedProgress t
    | _, _ => s
  s.trySend t

/-- A report is compared with the outstanding order (R145). -/
def State.answerOrder (s : State) (t : Nat) (r : Report) : State :=
  match (s.seq t).outstanding with
  | none => s
  | some o =>
    if r.lastNumber ≠ o.number then s
    else match r.lastAnswer with
    | .accepted => s.orderAccepted t o
    | .refused => s.orderFailed t o.owner (.refused r.reason) .txRefused
    | .none => s
    | .other _ => s

/-- A report in UNKNOWN or LINK_LOST (R149, R158): OFF, or a quench where one is to be taken. DESIGN CHOICE: a report whose
transmitter state octet is above 6 shows none of OFF, TUNED and FAULT, and is answered by a quench like one that shows RF on
(notes/assumptions/33.md). -/
def State.leaveUnknown (s : State) (t : Nat) (r : Report) (quench : Bool) : State :=
  if r.txState = .off ∨ r.txState = .tuned ∨ r.txState = .fault then s.enterSeq t .off none
  else if quench then s.firstQuench t
  else s

/-- RF on when off: a report that contradicts OFF, TUNED or TUNING with PRESET (R153). DESIGN CHOICE: in OFF no frequency is held, and
a report that shows TUNING contradicts it whatever its frequency (notes/assumptions/33.md). -/
def contradicts (r : Report) (freq : Option Nat) : Bool :=
  r.txState == .ramping || r.txState == .on || (r.txState == .tuning && freq != some r.freq)

/-- An AUTO tune has ended with a tune result: it is offered to the cache while the route is an antenna (R150). -/
def State.offerFill (s : State) (t : Nat) (r : Report) : State :=
  match s.routeAntenna t, r.tune with
  | some a, some x => s.fill t a (channelOf r.freq) x
  | _, _ => s

/-- TUNING ends in TUNED. -/
def State.tuneEnds (s : State) (t : Nat) (r : Report) : State :=
  let auto := (s.seq t).tuneMode == .auto
  let s := s.enterSeq t .tuned none
  let s := s.setSeq t { s.seq t with tunedFreq := some r.freq }
  if auto then (s.command t 0 false).offerFill t r else s

/-- The tests of a valid report against the sequencer state. `first` is set for the first one since the reset, and `quench` is the
quench as it stood when the report arrived: one that fails at this report is followed at the next (R149). `power` is the commanded
power as it stood then, which R151 tests. -/
def State.reportTransition (s : State) (t : Nat) (r : Report) (first : Bool) (quench : QuenchState) (power : Nat) : State :=
  let q := s.seq t
  match q.state with
  | .unknown => s.leaveUnknown t r (first || quench == .failed)
  | .linkLost => s.leaveUnknown t r (quench != .inProgress)
  | .off => if contradicts r none then s.takeQuench t else s
  | .tuned =>
    if r.txState = .off then s.enterSeq t .off none
    else if contradicts r q.tunedFreq then s.takeQuench t
    else s
  | .tuning =>
    if r.txState = .tuned ∧ r.freq = q.tuneFreq then s.tuneEnds t r
    else if q.tuneMode = .preset ∧ contradicts r (some q.tuneFreq) then s.takeQuench t
    else s
  | .rampUp =>
    if Report.isTrip r then s.tripWith t .tx r.tripCode .sequencer
    else if r.txState = TxState.on ∧ 9 * power ≤ r.pf then s.enterSeq t .onAir none
    else s
  | .onAir => if Report.isTrip r then s.tripWith t .tx r.tripCode .sequencer else s
  | .rampDown =>
    if r.txState = .off then (s.enterSeq t .off none).takeDeferred t
    else if r.txState = .tuned then (s.enterSeq t .tuned none).takeDeferred t
    else s
  | .muted => s
  | .recoveryWait => s
  | .lockout => s
  | .fault => s

/-- The report becomes the held report and the link is UP (R139, R141). A held report that had become stale ends the restore run
(R164). -/
def State.holdReport (s : State) (t : Nat) (r : Report) : State :=
  let s := if s.stale t then s.setProt t { s.prot t with restoreRun := none } else s
  let q := s.seq t
  let first := q.state == .unknown && q.report.isNone
  s.setSeq t { q with report := some { report := r, arrived := s.clock }, link := .up, receiver := .hunt,
                      counter := if first then r.lastNumber else q.counter,
                      counters := { q.counters with good := satSucc 65535 q.counters.good } }

/-- A valid report of a present transmitter, in the order: held, evaluated by the state at its arrival (R164), compared with the
outstanding order, tested. R141 leaves the order of these uses open (notes/assumptions/33.md). -/
def State.takeReport (s : State) (t : Nat) (r : Report) : State :=
  let q := s.seq t
  let power := (s.prot t).commanded
  let s := ((s.holdReport t r).evaluate t r).answerOrder t r
  (s.reportTransition t r q.report.isNone q.quench power).postOnce .permits

end Sys2Proof.Machine
end

