-- ==== Sys2Proof/Machine/Diag.lean ====
section
/-! DEFINITION. The Line Diagnostics Unit, chapter 11: the bus and its orders (R197, R198), runs and their steps (R199 to R202),
pre-use checks (R203) and UNCHECKED (R196). `diagStep` makes the next hand-out or phase change that is due, if there is one. -/

namespace Sys2Proof.Machine

open Sys2Proof

def State.setDiag (s : State) (d : Diagnostics) : State := { s with ld := d }

/-! ## The bus, R197 -/

/-- An order is sent with the next tag. -/
def State.sendMeasurement (s : State) (o : BusOrder) : State :=
  let tag := (s.ld.tag + 1) % 256
  s.setDiag { s.ld with tag := tag, measurement := some { order := o, tag := tag, sentAt := s.clock, discard := false } }

/-- A result of the kind ordered. -/
def BusOrder.answeredBy (o : BusOrder) (r : BusResult) : Bool :=
  match o, r with
  | .matching _ _, .ratio q => decide (q ≤ 999)
  | .matching _ _, _ => false
  | _, .ratio _ => false
  | _, _ => true

/-- The bus fault is set, and every queued pre-use check is answered WAIVED (R203). -/
def State.setBusFault (s : State) (c : BusFaultCause) : State :=
  let queue := s.ld.preUseQueue
  queue.foldl (fun s q => s.post (.preUse q.1 q.2 none))
    (s.setDiag { s.ld with busFault := some (c, s.tb.elapsed), preUseQueue := [] })

/-- The test switch has a fault, or is gone. -/
def State.switchLost (s : State) (a : Nat) : Bool := !s.present (testSwitch a) || (s.mover (testSwitch a)).fault.isSome

/-- The test switch is confirmed OPEN, faulted or gone. -/
def State.switchOff (s : State) (a : Nat) : Bool := s.isOpen (testSwitch a) || s.switchLost a

/-! ## The run plan -/

def DiagStep.bit : DiagStep → Nat
  | .insul => 0 | .loop => 1 | .cross => 2 | .matching => 3

def PlanEntry.result (e : PlanEntry) : DiagStep → Option StepResult
  | .insul => e.insul
  | .loop => e.loop
  | .cross => e.cross
  | .matching => e.matching

def PlanEntry.setResult (e : PlanEntry) (d : DiagStep) (r : StepResult) : PlanEntry :=
  match d with
  | .insul => { e with insul := some r }
  | .loop => { e with loop := some r }
  | .cross => { e with cross := some r }
  | .matching => { e with matching := some r }

/-- A step that has no result yet is omitted. -/
def PlanEntry.omitStep (e : PlanEntry) (d : DiagStep) : PlanEntry := if (e.result d).isNone then e.setResult d .omitted else e

def PlanEntry.blank (a : Nat) : PlanEntry :=
  { antenna := a, outcome := .notReached, byDrive := false, flags := 0, insul := none, loop := none, cross := none,
    matching := none, neighbours := [], ratio := none }

/-- At the first connection of an antenna: steps not selected are so marked, and MATCH is omitted unless INSUL and LOOP are both
selected (R201). -/
def PlanEntry.begin (e : PlanEntry) (steps : BitVec 4) : PlanEntry :=
  let e := [DiagStep.insul, .loop, .cross, .matching].foldl (fun e d =>
    if steps.getLsbD d.bit then e else e.setResult d .notSelected) e
  if steps.getLsbD 0 && steps.getLsbD 1 then e else e.omitStep .matching

/-- The next step: the first without a result. -/
def PlanEntry.nextStep (e : PlanEntry) : Option DiagStep :=
  [DiagStep.insul, .loop, .cross, .matching].find? fun d => (e.result d).isNone

/-- No step of the antenna has been taken. -/
def PlanEntry.untouched (e : PlanEntry) : Bool :=
  [DiagStep.insul, .loop, .cross, .matching].all fun d =>
    match e.result d with
    | none => true
    | some .notSelected => true
    | some .omitted => true
    | some _ => false

def State.planAt (s : State) (i : Nat) : PlanEntry := s.ld.plan.getD i (PlanEntry.blank 0)

def State.setPlan (s : State) (i : Nat) (e : PlanEntry) : State := s.setDiag { s.ld with plan := s.ld.plan.set i e }

def State.setPosition (s : State) (p : RunPosition) : State := s.setDiag { s.ld with position := some p }

/-! ## Ends of antennas and runs -/

/-- The run goes on before the claim of its next antenna. -/
def State.nextAntenna (s : State) (p : RunPosition) : State :=
  (s.setDiag { s.ld with closedSwitch := none }).setPosition
    { index := p.index + 1, phase := .nextAntenna, step := .insul, neighbour := 0 }

/-- The run orders its test switch OPEN at priority 2. -/
def State.openRunSwitch (s : State) (a : Nat) : State := s.requestMotion (testSwitch a) .opened .diagRun 2

/-- The current antenna is ABORTED; a step in progress is DISCARDED and its result too. -/
def State.abortAntenna (s : State) (p : RunPosition) (byDrive : Bool) : State :=
  let e := { s.planAt p.index with outcome := .aborted, byDrive := byDrive }
  let e := if p.phase = .measuring then e.setResult p.step .discarded else e
  (s.setPlan p.index e).setDiag
    { (s.setPlan p.index e).ld with measurement :=
        if p.phase = .measuring then s.ld.measurement.map fun m => { m with discard := true } else s.ld.measurement }

/-- The phases in which the end of the run aborts its current antenna. A run that has yielded waits for the bus, and none is ABORTED
(R198, R202; notes/assumptions/34.md). -/
def RunPhase.connected : RunPhase → Bool
  | .connecting => true
  | .measuring => true
  | .yielding => false
  | .yielded => false
  | .disconnecting => true
  | .waitBus => false
  | .selfCheck => false
  | .nextAntenna => false

/-- The run ends (R199, R202): the current antenna is ABORTED, its test switch is ordered OPEN, and the state is ENDING. -/
def State.endRun (s : State) (o : RunOutcome) : State :=
  match s.ld.position with
  | none => s
  | some p =>
    let s := if p.phase.connected then s.abortAntenna p (s.planAt p.index).byDrive else s
    let s := if p.phase = .selfCheck then
      s.setDiag { s.ld with measurement := s.ld.measurement.map fun m => { m with discard := true } } else s
    let s := match s.ld.closedSwitch with
      | some a => s.openRunSwitch a
      | none => s
    (s.setDiag { s.ld with run := .ending, outcome := some o, position := none }).postOnce .diag

/-- ENDING is over: IDLE and DIAG_DONE. -/
def State.runIdle (s : State) : State :=
  let s := match s.ld.closedSwitch with
    | some a => s.releaseClaim a
    | none => s
  (s.setDiag { s.ld with run := .idle, closedSwitch := none }).alert .diagDone

/-- The outcome of an antenna whose steps are over: FAILED when one failed. -/
def PlanEntry.finish (e : PlanEntry) : PlanEntry :=
  if e.outcome = .aborted then e
  else if [DiagStep.insul, .loop, .cross, .matching].any fun d => e.result d == some .fail then { e with outcome := .failed }
  else { e with outcome := .pass }

/-! ## Steps, R201 -/

/-- An INSUL pass sets last_checked_day while the time is valid (R196). -/
def State.insulPassed (s : State) (a : Nat) : State :=
  match s.today with
  | some d => s.setLastChecked a (some d)
  | none => s

/-- UNCHECKED leaves the fault set; the antenna may be available from this event (R195, R196). -/
def State.removeUnchecked (s : State) (a : Nat) : State :=
  ((s.setFaultSet a (s.faultSet a &&& ~~~ FaultFlag.unchecked.mask)).postOnce .permits)

/-- The run sets a flag on its current antenna. -/
def State.runFlag (s : State) (i : Nat) (f : FaultFlag) : State :=
  let e := s.planAt i
  (s.setPlan i { e with flags := e.flags ||| f.mask }).addFault e.antenna f

/-- UNCHECKED is removed when INSUL and LOOP have both passed. -/
def State.checkUnchecked (s : State) (i : Nat) : State :=
  let e := s.planAt i
  if e.insul = some .pass ∧ e.loop = some .pass then s.removeUnchecked e.antenna else s

/-- The frequency of a MATCH: the band centre. -/
def bandCentre (r : AntRecord) : Nat := (r.bandLow + r.bandHigh) / 10 * 5

/-- A CROSS step goes on to its next neighbour; it ends when every neighbour has a result. The first argument bounds the
neighbours passed over. The second component is set when a measurement has been sent. -/
def State.crossNext : Nat → State → Nat → State × Bool
  | 0, s, _ => (s, false)
  | n + 1, s, i =>
    let e := s.planAt i
    let list := match s.ant e.antenna with | some r => r.neighbours | none => []
    match list[e.neighbours.length]? with
    | none =>
      let r : StepResult := if e.neighbours.any (fun x => x.2 == .fail) then .fail else .pass
      (s.setPlan i (e.setResult .cross r), false)
    | some b =>
      if (s.ant b).isNone then State.crossNext n (s.setPlan i { e with neighbours := e.neighbours ++ [(b, .passedOver)] }) i
      else if (s.claim b).occupant.isSome then
        State.crossNext n (s.setPlan i { e with neighbours := e.neighbours ++ [(b, .notTested)] }) i
      else (s.sendMeasurement (.cross e.antenna b), true)

/-- A step begins: its order is sent. A CROSS step with nothing to measure has its result at once. The second component is set
when a measurement has been sent. -/
def State.beginStep (s : State) (i : Nat) (d : DiagStep) : State × Bool :=
  let a := (s.planAt i).antenna
  match d with
  | .insul => (s.sendMeasurement (.insul a), true)
  | .loop => (s.sendMeasurement (.loop a), true)
  | .cross => State.crossNext 4 s i
  | .matching =>
    (s.sendMeasurement (.matching a (match s.ant a with | some r => bandCentre r | none => 0)), true)

/-- After a step's result: a yield, the next step, or the end of the antenna (R198, R200). The first argument bounds steps
without a measurement. `mayYield` is clear when the switch has been confirmed again after a yield. -/
def State.stepsGoOn : Nat → State → RunPosition → Bool → State
  | 0, s, _, _ => s
  | n + 1, s, p, mayYield =>
    let e := s.planAt p.index
    match e.nextStep with
    | none => (s.openRunSwitch e.antenna).setPosition { p with phase := .disconnecting }
    | some d =>
      if mayYield && !s.ld.preUseQueue.isEmpty then
        (s.openRunSwitch e.antenna).setPosition { p with phase := .yielding, step := d }
      else
        let r := s.beginStep p.index d
        if r.2 then r.1.setPosition { p with phase := .measuring, step := d }
        else State.stepsGoOn n r.1 p true

/-- The result of a step is recorded with its flag. -/
def State.stepResult (s : State) (i : Nat) (d : DiagStep) (r : BusResult) : State :=
  let e := s.planAt i
  let a := e.antenna
  match d, r with
  | .insul, .pass => ((s.insulPassed a).setPlan i (e.setResult .insul .pass)).checkUnchecked i
  | .insul, _ => (s.setPlan i ((((e.setResult .insul .fail).omitStep .loop).omitStep .cross).omitStep .matching)).runFlag i .shortGnd
  | .loop, .pass => (s.setPlan i (e.setResult .loop .pass)).checkUnchecked i
  | .loop, _ => (s.setPlan i ((e.setResult .loop .fail).omitStep .matching)).runFlag i .openLoop
  | .matching, .ratio q =>
    let limit := match s.ant a with | some x => x.matchLimitPm | none => 0
    let e := { e with ratio := some q }
    if q ≤ limit then s.setPlan i (e.setResult .matching .pass)
    else (s.setPlan i (e.setResult .matching .fail)).runFlag i .mismatch
  | .matching, _ => s
  | .cross, _ => s

/-- The run has set a flag on an antenna other than its current one: the plan shows it where it lists that antenna (R204). -/
def State.markPlan (s : State) (a : Nat) (f : FaultFlag) : State :=
  s.setDiag { s.ld with plan := s.ld.plan.map fun e => if e.antenna = a then { e with flags := e.flags ||| f.mask } else e }

/-- The result of one CROSS measurement; a neighbour that gained an occupant is not tested. -/
def State.crossResult (s : State) (i b : Nat) (discard : Bool) (r : BusResult) : State :=
  let e := s.planAt i
  let found : CrossResult := if discard then .notTested else if r = .pass then .pass else .fail
  let s := s.setPlan i { e with neighbours := e.neighbours ++ [(b, found)] }
  if found = .fail then ((s.runFlag i .cross).markPlan b .cross).addFault b .cross else s

/-! ## Pre-use checks, R203 -/

/-- The Schedule Executor asks for a check. -/
def State.askPreUse (s : State) (t a : Nat) : State :=
  if s.ld.busFault.isSome then s.post (.preUse t a none)
  else
    let asked := s.ld.preUseQueue
    let again := asked.any (fun q => q.1 == t)
    let next := if again then asked.map (fun q => if q.1 = t then (t, a) else q) else asked ++ [(t, a)]
    (s.setDiag { s.ld with preUseQueue := next }).postOnce .diag

/-- A request that has not been taken into service is withdrawn. -/
def State.withdrawPreUse (s : State) (t : Nat) : State :=
  s.setDiag { s.ld with preUseQueue := s.ld.preUseQueue.filter fun q => q.1 != t }

/-- The request in service leaves it, and the bus is FREE. -/
def State.leaveService (s : State) : State := s.setDiag { s.ld with preUse := none, bus := .free }

/-- The oldest request is taken into service. -/
def State.takeIntoService (s : State) (t a : Nat) : State :=
  let s := s.setDiag { s.ld with preUseQueue := s.ld.preUseQueue.drop 1 }
  if s.faultSet a ≠ 0 then s.post (.preUse t a (some false))
  else
    (s.setDiag { s.ld with bus := .preUse, preUse := some { tx := t, antenna := a, phase := .closing } }).requestMotion
      (testSwitch a) .closed .diagPreUse 5

/-- The check's switch is ordered OPEN at priority 5. -/
def State.openPreUse (s : State) (u : PreUse) : State :=
  (s.setDiag { s.ld with preUse := some { u with phase := .opening } }).requestMotion (testSwitch u.antenna) .opened .diagPreUse 5

/-- The result of a check's INSUL. -/
def State.preUseResult (s : State) (u : PreUse) (r : BusResult) : State :=
  let s := if r = .pass then s.insulPassed u.antenna else s.addFault u.antenna .shortGnd
  (s.post (.preUse u.tx u.antenna (some (r == .pass)))).openPreUse u

/-- The phase of the check in service goes on when its switch allows. DESIGN CHOICE: a switch motion that ends REPLACED or DROPPED is
not asked for again, and the check waits on the switch (notes/assumptions/34.md). -/
def State.preUseStep (s : State) (u : PreUse) : Option State :=
  match u.phase with
  | .closing =>
    if s.switchLost u.antenna then some ((s.post (.preUse u.tx u.antenna (some false))).leaveService)
    else if s.isClosed (testSwitch u.antenna) && s.ld.measurement.isNone then
      some ((s.setDiag { s.ld with preUse := some { u with phase := .measuring } }).sendMeasurement (.insul u.antenna))
    else none
  | .measuring => none
  | .opening => if s.switchOff u.antenna then some s.leaveService else none

/-! ## The run's progress, R198 to R200 -/

/-- The outcome of an antenna that is not admitted, or whose claim is refused (R200). -/
def State.skipped (s : State) (a : Nat) : Option PlanOutcome :=
  if (s.ant a).isNone then some .skippedUndefined
  else if s.faultSet a &&& ~~~ FaultFlag.unchecked.mask ≠ 0 then some .skippedFaulty
  else if !(s.claimTest a).2 then some .skippedBusy
  else none

/-- Admission and claim of the antenna at the run's position. -/
def State.admitAntenna (s : State) (p : RunPosition) : State :=
  let e := s.planAt p.index
  match s.skipped e.antenna with
  | some o => (s.setPlan p.index { e with outcome := o }).nextAntenna p
  | none =>
    let s := (s.claimTest e.antenna).1.setPlan p.index (e.begin s.ld.steps)
    let s := s.setDiag { s.ld with closedSwitch := some e.antenna }
    (s.setPosition { p with phase := .connecting }).requestMotion (testSwitch e.antenna) .closed .diagRun 2

/-- The bus falls to a run: none outstanding, nothing queued, and the bus is the run's or FREE. -/
def State.runHasBus (s : State) : Bool :=
  s.ld.measurement.isNone && s.ld.preUseQueue.isEmpty && (s.ld.bus == .free || s.ld.bus == .runStep)

/-- The antenna's steps are over and its switch is off: the claim is released and the outcome recorded. A switch that faulted makes
the antenna ABORTED by its drive. -/
def State.antennaDone (s : State) (p : RunPosition) (a : Nat) : State :=
  let e := s.planAt p.index
  let e := if s.switchLost a then { e with outcome := .aborted, byDrive := true } else e.finish
  ((s.setPlan p.index e).releaseClaim a).nextAntenna p

/-- A neighbour of the CROSS in progress has gained an occupant: its result will be discarded. -/
def State.crossOccupied (s : State) : Bool :=
  match s.ld.measurement with
  | some m =>
    match m.order with
    | .cross _ b => !m.discard && (s.claim b).occupant.isSome
    | _ => false
  | none => false

/-- The bus is held by the run, or by nobody. -/
def State.busForRun (s : State) : Bool := s.ld.bus == .free || s.ld.bus == .runStep

/-- Before the claim of its next antenna the run ends, yields to a pre-use request once no measurement is outstanding, or goes on;
while a discarded result is still awaited the bus is not FREE, and no switch is ordered CLOSED (R197 to R199). -/
def State.nextPhase (s : State) (p : RunPosition) : Option State :=
  if s.ld.plan.length ≤ p.index then some (s.endRun .done)
  else if !s.ld.preUseQueue.isEmpty then
    if s.ld.bus = .runStep ∧ s.ld.measurement.isNone then some (s.setDiag { s.ld with bus := .free }) else none
  else if s.ld.measurement.isSome && (s.skipped (s.planAt p.index).antenna).isNone then none
  else if s.busForRun then some ((s.setDiag { s.ld with bus := .runStep }).admitAntenna p)
  else none

/-- The next phase change of the run, if one is due. DESIGN CHOICE: a switch motion that ends REPLACED or DROPPED is not asked for
again, and the run waits on the switch (notes/assumptions/34.md). -/
def State.runStep (s : State) (p : RunPosition) : Option State :=
  let a := (s.planAt p.index).antenna
  match p.phase with
  | .waitBus =>
    if s.runHasBus then
      if s.ld.busFault.isSome then some (s.endRun .busFault)
      else some (((s.setDiag { s.ld with bus := .selfCheck }).setPosition { p with phase := .selfCheck }).sendMeasurement .selfCheck)
    else none
  | .selfCheck => none
  | .nextAntenna => s.nextPhase p
  | .connecting =>
    if s.switchLost a then some (s.antennaDone p a)
    else if s.isClosed (testSwitch a) && s.ld.measurement.isNone then
      some (State.stepsGoOn 8 s p (s.planAt p.index).untouched)
    else none
  | .measuring =>
    if s.crossOccupied then
      some (s.setDiag { s.ld with measurement := s.ld.measurement.map fun m => { m with discard := true } })
    else none
  | .yielding =>
    if s.switchLost a then some (s.antennaDone p a)
    else if s.isOpen (testSwitch a) then
      some ((s.setDiag { s.ld with bus := .free }).setPosition { p with phase := .yielded })
    else none
  | .yielded =>
    if s.runHasBus then
      some (((s.setDiag { s.ld with bus := .runStep }).setPosition { p with phase := .connecting }).requestMotion (testSwitch a)
        .closed .diagRun 2)
    else none
  | .disconnecting => if s.switchOff a then some (s.antennaDone p a) else none

/-- No run has taken the bus: there is none, or the present one waits before its self-check. -/
def State.runWaits (s : State) : Bool :=
  match s.ld.position with
  | some p => p.phase == .waitBus
  | none => true

/-- The bus is still held for a run that is over. -/
def State.busLeftOver (s : State) : Bool :=
  (s.ld.bus == .runStep || s.ld.bus == .selfCheck) && s.runWaits && s.ld.measurement.isNone && s.ld.closedSwitch.isNone

/-- ENDING is over: the switch is off. -/
def State.endingOver (s : State) : Bool :=
  s.ld.run == .ending && (match s.ld.closedSwitch with | some a => s.switchOff a | none => true)

/-- The hand-out of the bus to the oldest pre-use request. -/
def State.handOut (s : State) : Option State :=
  match s.ld.preUseQueue with
  | q :: _ => if s.ld.bus = .free ∧ s.ld.measurement.isNone then some (s.takeIntoService q.1 q.2) else none
  | [] => none

/-- The next change of the Line Diagnostics Unit that is due. -/
def State.diagStep (s : State) : Option State :=
  if s.ld.run = .active ∧ s.safetyHalt then some (s.endRun .safety)
  else if s.endingOver then some s.runIdle
  else if s.busLeftOver then some (s.setDiag { s.ld with bus := .free })
  else
    let fromPreUse := match s.ld.preUse with
      | some u => s.preUseStep u
      | none => none
    match fromPreUse with
    | some t => some t
    | none =>
      let fromRun := match s.ld.position with
        | some p => s.runStep p
        | none => none
      match fromRun with
      | some t => some t
      | none => s.handOut

/-- Makes the change that is due and asks to be looked at again. -/
def State.diagProgress (s : State) : State :=
  match s.diagStep with
  | some t => t.postOnce .diag
  | none => s

/-! ## Claims, faults and results -/

/-- The claim of the antenna under test has been withdrawn (R202). -/
def State.claimLost (s : State) (a : Nat) : State :=
  match s.ld.position, s.ld.closedSwitch with
  | some p, some b =>
    if a = b then
      (((s.abortAntenna p false).openRunSwitch a).setPosition { p with phase := .disconnecting }).postOnce .diag
    else s
  | _, _ => s

/-- A measurement has ended TIMEOUT (R197, R202, R203). -/
def State.measurementLost (s : State) : State :=
  let s := (s.setDiag { s.ld with measurement := none }).setBusFault .timeout
  State.postOnce
    (match s.ld.preUse with
    | some u => (s.post (.preUse u.tx u.antenna none)).openPreUse u
    | none => if s.ld.run = .active then s.endRun .busFault else s) .diag

/-- A result of the kind ordered has answered the outstanding measurement. -/
def State.measurementAnswered (s : State) (m : Measurement) (r : BusResult) : State :=
  let s := s.setDiag { s.ld with measurement := none }
  State.postOnce (match s.ld.preUse, s.ld.position with
    | some u, _ => s.preUseResult u r
    | none, none => s
    | none, some p =>
      match p.phase, m.order with
      | .selfCheck, _ =>
        if r = BusResult.pass then (s.setDiag { s.ld with bus := .runStep }).setPosition { p with phase := .nextAntenna }
        else (s.setBusFault .selfCheck).endRun .busFault
      | .measuring, .cross _ b =>
        let s := s.crossResult p.index b m.discard r
        let n := State.crossNext 4 s p.index
        if n.2 then n.1 else State.stepsGoOn 8 n.1 p true
      | .measuring, _ => if m.discard then s else State.stepsGoOn 8 (s.stepResult p.index p.step r) p true
      | _, _ => s) .diag

/-- A result arrives on the bus, R197. -/
def State.takeBusResult (s : State) (tag : Nat) (r : BusResult) : State :=
  match s.ld.measurement with
  | none => s
  | some m =>
    if m.tag ≠ tag then s
    else if m.order.answeredBy r then s.measurementAnswered m r
    else s.measurementLost

/-- A run begins, R199: its plan, then the bus. -/
def State.startRun (s : State) (antennas : List Nat) (steps : Nat) : State :=
  let s := s.setDiag { s.ld with
    run := .active, outcome := none, steps := BitVec.ofNat 4 steps
    plan := ((upTo 24).filter fun a => antennas.contains a && (s.ant a).isSome).map PlanEntry.blank
    position := some { index := 0, phase := .waitBus, step := .insul, neighbour := 0 } }
  (if s.ld.busFault.isSome then s.endRun .busFault else s).postOnce .diag

end Sys2Proof.Machine
end

