-- ==== Sys2Proof/Machine/Executor.lean ====
section
/-! DEFINITION. The Schedule Executor and its Changeover Planner, chapter 5: occurrences (R77), planning (R78 to R83), the phases of
a changeover (R84 to R88), its failures (R89 to R91), entries and held routes (R92 to R94), handover and time steps (R95, R96).
`changeStep`, `entryStep` and `settleStep` make the next change that is due for a transmitter, if there is one. -/

namespace Sys2Proof.Machine

open Sys2Proof

/-! ## Occurrences, R77 -/

/-- One entry on one day: its start and end instants and its reference start. -/
structure Occurrence where
  entry : Entry
  day : Nat
  startAt : Nat
  endAt : Nat
  refStart : Nat
deriving DecidableEq, Repr

/-- The weekday index of a day: 0 for Monday (00_scope). -/
def weekday (day : Nat) : Nat := (day + 5) % 7

/-- The entry has an occurrence on the day. -/
def Book.occursOn (x : Book) (e : Entry) (day : Nat) : Bool :=
  decide (x.firstDay ≤ day ∧ day ≤ x.lastDay) && decide ((x.windowOf e).1 ≤ day ∧ day ≤ (x.windowOf e).2) &&
  e.days.testBit (weekday day)

def Book.occurrence (x : Book) (e : Entry) (day : Nat) : Occurrence :=
  let start := day * 86400 + e.startMin * 60
  let activated := (x.activation.map fun h => h.instant).getD 0
  { entry := e, day := day, startAt := start, endAt := day * 86400 + e.endMin * 60, refStart := max start activated }

def State.activeBook (s : State) : Option Nat := [0, 1].find? fun b => (s.book b).state == .active

/-- A book has a pending handover. -/
def State.handoverPending (s : State) : Bool := s.sb.book0.pendingHandover.isSome || s.sb.book1.pendingHandover.isSome

/-- The entries of a sealed book in storage order. -/
def State.entriesOf (s : State) (b : Nat) : List Entry :=
  (regionRecords s.ss.array b (s.book b).sealValues.1).map fun r => entryOf r.2

/-- The occurrences of a transmitter on the day of `now` and the next, in the order of the run index. -/
def State.occurrences (s : State) (t now : Nat) : List Occurrence :=
  match s.activeBook with
  | none => []
  | some b =>
    let x := s.book b
    let entries := s.entriesOf b
    let positions := nth (x.runIndex.getD []) [] t
    (positions.filterMap fun p => entries[p - 1]?).flatMap fun e =>
      ([now / 86400, now / 86400 + 1].filter (x.occursOn e)).map (x.occurrence e)

def earliest (os : List Occurrence) : Option Occurrence :=
  os.foldl (fun best o =>
    match best with
    | some b => if o.startAt < b.startAt then some o else best
    | none => some o) none

/-- Later than handled_through; none counts as earlier than every instant. -/
def laterThan (handled : Option Nat) (i : Nat) : Bool :=
  match handled with
  | some h => decide (h < i)
  | none => true

/-- The item names this occurrence of this transmitter. -/
def SkipItem.names (i : SkipItem) (t entryId day : Nat) : Bool := i.tx == t && i.entryId == entryId && i.day == day

/-- The occurrence is on the skip list. -/
def State.skipHas (s : State) (t entryId day : Nat) : Bool := s.se.skip.any fun i => i.names t entryId day

def State.skipListed (s : State) (t : Nat) (o : Occurrence) : Bool := s.skipHas t o.entry.entryId o.day

/-! ## Reading entries, R32 -/

/-- The run index of the ACTIVE book names an entry of the transmitter, so that looking for its occurrences reads entries (R60). -/
def State.hasEntries (s : State) (t : Nat) : Bool :=
  match s.activeBook with
  | some b => !(nth ((s.book b).runIndex.getD []) [] t).isEmpty
  | none => false

/-- A read of entries of the ACTIVE book (R32). The reads of one piece of work stand for one read of the first page of records
(notes/assumptions/10.md). -/
def State.readEntries (s : State) (reader : Reader) : State := s.requestRead reader (pageAddress (s.activeBook.getD 0) 1) 256

/-- Work that reads entries waits for the executor's read, which is asked for unless it waits already. -/
def State.askRead (s : State) (w : ExecWork) : State :=
  let t : State := { s with se := { s.se with readWork := addOnce s.se.readWork w } }
  if s.se.readWork.isEmpty then t.readEntries .executor else t

/-! ## What the planner reads, R73 -/

/-- On air by R73. -/
def State.onAirNow (s : State) (t : Nat) : Bool :=
  let st := (s.seq t).state
  st == .rampUp || st == .onAir || st == .muted || st == .recoveryWait

/-- RF is off, R91. -/
def State.rfOffNow (s : State) (t : Nat) : Bool :=
  let st := (s.seq t).state
  st == .off || st == .tuned || st == .linkLost || st == .lockout || st == .fault

def State.tunedAt (s : State) (t f : Nat) : Bool := (s.seq t).state == .tuned && (s.seq t).tunedFreq == some f

/-! ## Outcomes -/

def State.updateDuty (s : State) (t : Nat) (f : Duty → Duty) : State := s.setDuty t (f (s.duty t))

def State.recordOutcome (s : State) (t : Nat) (entryId : Nat) (day : Option Nat) (kind : OutcomeKind) (cause : Option Cause)
    (planned actual : Nat) (flags : CauseFlags) : State :=
  let out : LastOutcome :=
    { entryId := entryId, day := day, kind := kind, cause := cause, plannedLate := planned, actualLate := actual, flags := flags,
      instant := s.now }
  s.updateDuty t fun d => { d with lastOutcome := some out }

/-- A changeover is abandoned at planning: its outcome and alert ABANDON (R91). -/
def State.abandonPlan (s : State) (t : Nat) (o : Occurrence) (cause : Cause) : State :=
  let s := s.updateDuty t fun d => { d with handledThrough := some o.startAt }
  (s.recordOutcome t o.entry.entryId (some o.day) .abandoned (some cause) 0 0 0).alert .abandon

/-- An occurrence is skipped with a cause that sets alert ABANDON (R79, R83). -/
def State.skipOccurrence (s : State) (t : Nat) (o : Occurrence) (cause : Cause) : State :=
  let s := s.updateDuty t fun d => { d with handledThrough := some o.startAt }
  (s.recordOutcome t o.entry.entryId (some o.day) .skipped (some cause) 0 0 0).alert .abandon

/-! ## Orders and motions of the executor -/

def State.offerRfOff (s : State) (t : Nat) : State := s.offerOrder t (.rfOff (s.rampDown t)) .executor

/-- The power limit is computed and carried by the order (R162). -/
def State.offerPower (s : State) (t power freq : Nat) : State :=
  let limit := s.limitOf t power freq
  (s.setLimit t limit).offerOrder t (.power limit) .executor

def State.offerRfOn (s : State) (t power freq feed : Nat) : State :=
  let limit := s.limitOf t power freq
  (s.setLimit t limit).offerOrder t (.rfOn limit (s.rampUp t) feed) .executor

/-- A crosspoint that is confirmed CLOSED or has a close in hand. -/
def Mover.closedOrClosing (x : Mover) : Bool :=
  x.confirmed == some .closed || x.target == some .closed || (match x.followOn with | some f => f.target == .closed | none => false)

/-- The row is parked: its closed or closing crosspoints OPEN at priority 6, its park switch CLOSED at priority 5. Nothing is ordered
for a row already routed to its park (R91, R92). -/
def State.parkRow (s : State) (t : Nat) : State :=
  if s.parked t || (s.rowMovers t).isEmpty then s
  else
    let crosspoints := ((s.rowMovers t).filter fun m => m != parkSwitch t && (s.mover m).closedOrClosing)
    let s := crosspoints.foldl (fun s m => s.requestMotion m .opened (.executor t) 6) s
    s.requestMotion (parkSwitch t) .closed (.executor t) 5

/-- A parking motion has not ended. -/
def State.parkingPending (s : State) (t : Nat) : Bool :=
  (s.rowMovers t).any fun m => ((s.mover m).askers ++ (s.mover m).waiters).contains (.executor t)

/-! ## Drives, R81, R82 -/

/-- The slew drive must move. -/
def State.slewMoves (s : State) (g : Target) : Bool :=
  s.present (slewDrive g.antenna) && (s.mover (slewDrive g.antenna)).confirmedAt != some (.slew g.slew)

def Target.direction (g : Target) : Position := if g.reversed then .rev else .fwd

/-- The reverser must change. -/
def State.reverserMoves (s : State) (g : Target) : Bool :=
  s.present (reverserOf g.antenna) && (s.mover (reverserOf g.antenna)).confirmedAt != some g.direction

def State.drivesMove (s : State) (g : Target) : Bool := s.slewMoves g || s.reverserMoves g

/-- Each target drive that must move is ordered at priority 4 (R85). -/
def State.orderDrives (s : State) (t : Nat) (g : Target) : State :=
  let s := if s.slewMoves g then s.requestMotion (slewDrive g.antenna) (.slew g.slew) (.executor t) 4 else s
  if s.reverserMoves g then s.requestMotion (reverserOf g.antenna) g.direction (.executor t) 4 else s

/-! ## The lead, R82, R83 -/

/-- K, in ds. -/
def State.contactDs (s : State) : Nat := ceilDiv ((s.params.settle + s.params.validate) * 4) 100

/-- A pre-use check is due on the current day (R196). -/
def State.checkDue (s : State) (a : Nat) : Bool :=
  match s.ant a with
  | some r => r.precheck && (s.lastChecked a).isNone || (r.precheck && s.lastChecked a != s.today)
  | none => false

/-- O: M of the present route's crosspoint or park switch. -/
def State.leaveDs (s : State) (t : Nat) : Nat :=
  if (s.routeAntenna t).isSome then s.params.crosspointDs + s.contactDs
  else if s.parked t then s.params.parkDs + s.contactDs
  else 0

/-- ROW for a REROUTE. -/
def State.rowDs (s : State) (t a : Nat) : Nat :=
  let p := if s.checkDue a then 2 * (s.params.testDs + s.contactDs) + 30 else 0
  max (s.leaveDs t) p + (s.params.crosspointDs + s.contactDs)

/-- DRV: the greatest M among the drives that must move. -/
def State.driveDs (s : State) (g : Target) : Nat :=
  match s.ant g.antenna with
  | none => 0
  | some r =>
    let steps := match (s.mover (slewDrive g.antenna)).confirmedAt with
      | some (.slew c) => stepsBetween g.slew c
      | _ => g.slew.natAbs + r.slewRange
    let slew := if s.slewMoves g then steps * r.slewStepDs + s.contactDs else 0
    let rev := if s.reverserMoves g then r.revDs + s.contactDs else 0
    max slew rev

/-- The kind of a changeover, R81. -/
def State.changeKind (s : State) (t : Nat) (g : Target) (freq refStart : Nat) : ChangeKind :=
  if s.routeAntenna t ≠ some g.antenna then .reroute
  else if (s.seq t).tunedFreq ≠ some freq then .retune
  else
    let running := match (s.duty t).current with
      | some e => decide (refStart ≤ e.endAt)
      | none => false
    if s.drivesMove g || !running then .drivesOnly else .seamless

/-- What R82 and R83 settle for one target. -/
structure LeadPlan where
  kind : ChangeKind
  tuneMode : TuneMode
  routeDs : Nat
  leadS : Nat
  ps : Nat
  x : Nat
  flags : CauseFlags
deriving DecidableEq, Repr

/-- LEAD in whole seconds, before the cap. -/
def leadSeconds (rd cd core ru guardDs : Nat) : Nat := ceilDiv (rd + cd + core + ru + guardDs) 10

/-- The lead, the planned start and the expected on-air instant for a target (R82, R83). DESIGN CHOICE: the on-air test of R82 takes
the lead before its cap of 600 s (notes/assumptions/30.md). -/
def State.planLead (s : State) (t : Nat) (g : Target) (freq refStart now : Nat) : State × LeadPlan :=
  let kind := s.changeKind t g freq refStart
  if kind = .seamless then
    (s, { kind := kind, tuneMode := .none, routeDs := 0, leadS := 0, ps := refStart, x := refStart, flags := 0 })
  else
    let row := if kind = .reroute then s.rowDs t g.antenna else 0
    let route := max row (s.driveDs g)
    let tx := s.tx t
    let probe := if (s.seq t).tunedFreq = some freq then (s, TuneMode.none)
      else
        let p := s.probe t g.antenna (channelOf freq)
        (p.1, if p.2 = .hit then TuneMode.preset else TuneMode.auto)
    let tune := match probe.2, tx with
      | .preset, some r => r.presetDs
      | .auto, some r => r.autotuneDs
      | _, _ => 0
    let core := if probe.2 = .auto then route + tune else max route tune
    let ru := s.rampUp t
    let off := leadSeconds 0 0 core ru s.params.guardDs
    let on := leadSeconds (s.rampDown t) (if 0 < route then s.params.coldDs else 0) core ru s.params.guardDs
    let lead := match s.onAirNow t, (s.duty t).current with
      | true, some e => if e.endAt + on < refStart then off else on
      | _, _ => off
    let leadS := min 600 lead
    let previous := match (s.duty t).current with
      | some e => if e.endAt ≤ refStart then e.endAt else 0
      | none => 0
    let ps := max now (max previous (refStart - leadS))
    (probe.1,
      { kind := kind, tuneMode := probe.2, routeDs := route, leadS := leadS, ps := ps, x := ps + leadS,
        flags := (if 600 < lead then flagCapped else 0) |||
          (if kind = .reroute ∧ s.checkDue g.antenna then flagPrecheck else 0) })

/-! ## Targets, R80 -/

/-- Tests 1 to 3 of R80; none when they pass. -/
def State.targetCause (s : State) (t : Nat) (g : Target) (freq power : Nat) : Option Cause :=
  match s.ant g.antenna with
  | none => some .antenna
  | some r =>
    if !s.available g.antenna then some .antenna
    else if freq < r.bandLow ∨ r.bandHigh < freq ∨ r.maxKw < power ∨ r.slewRange < g.slew.natAbs ∨ (g.reversed ∧ !r.reverser) then
      some .antenna
    else if !s.licensed t g.antenna freq power then some .licence
    else none

/-- Tests 1 to 4 of R80. -/
def State.candidateCause (s : State) (t : Nat) (g : Target) (freq power : Nat) : Option Cause :=
  match s.targetCause t g freq power with
  | some c => some c
  | none =>
    match (s.claim g.antenna).reservation with
    | some r => if r = t then none else some .clash
    | none => none

/-- The reservation of a target that is not the present route; the present route needs none (R80). -/
def State.reserveTarget (s : State) (t a : Nat) : State × Bool :=
  if s.routeAntenna t = some a then (s, true) else s.reserve t a

/-- The transmitter's own test at planning and at the begin, R79. -/
def State.txFit (s : State) (t freq power : Nat) : Bool :=
  match s.tx t with
  | some r => r.inService && decide (r.freqLow ≤ freq ∧ freq ≤ r.freqHigh) && decide (power ≤ r.ratingKw)
  | none => false

/-- The causes of R79 by the sequencer state. DESIGN CHOICE: a lockout that the sequencer did not enter, being UNKNOWN, is not among
them (notes/assumptions/35.md). -/
def State.seqCause (s : State) (t : Nat) : Option Cause :=
  match (s.seq t).state with
  | .lockout => some .lockout
  | .unknown => some .txLink
  | .linkLost => some .txLink
  | .fault => some .txFault
  | _ => none

/-! ## Planning, R78 to R83 -/

/-- The record of a plan. -/
def LeadPlan.record (p : LeadPlan) (o : Occurrence) (g : Target) (substituted : Bool) (prior : Option Nat) : Changeover :=
  { entryId := o.entry.entryId, day := o.day, target := g, substituted := substituted, alternate := o.entry.alternate,
    freq := o.entry.freq, power := o.entry.power, feed := o.entry.feed, kind := p.kind, tuneMode := p.tuneMode, leadS := p.leadS,
    ps := p.ps, x := p.x, lateness := p.x - o.refStart, s := o.refStart, endAt := o.endAt, priorHandled := prior,
    routeStart := none, actualOn := none, flags := if o.refStart < p.x then p.flags ||| flagLate else p.flags, phase := .planned,
    cause := none, routeDs := p.routeDs, check := .notDue, closeOrdered := false, tuneOrdered := false, switched := false,
    powerWait := .awaited, feedWait := .awaited, parkOrdered := false, endCap := none, startAt := some o.startAt,
    lateLimit := o.entry.lateLimit }

/-- The record is kept: handled_through advances, the held route is used, and lateness sets LATE (R83, R93). -/
def State.commitPlan (s : State) (t : Nat) (o : Occurrence) (c : Changeover) : State :=
  let s := (s.setChange t (some c)).updateDuty t fun d => { d with handledThrough := some o.startAt, heldRoute := none }
  if 0 < c.lateness then s.alert .late else s

/-- The candidates are tried in order (R80). `last` is the cause of the last one that failed. -/
def State.planCandidates (s : State) (t : Nat) (o : Occurrence) (now : Nat) (last : Cause) : List (Target × Bool) → State
  | [] => s.abandonPlan t o last
  | g :: rest =>
    match s.candidateCause t g.1 o.entry.freq o.entry.power with
    | some c => State.planCandidates s t o now c rest
    | none =>
      let p := s.planLead t g.1 o.entry.freq o.refStart now
      let late := match o.entry.lateLimit with | some l => decide (l < p.2.x - o.refStart) | none => false
      if late then p.1.skipOccurrence t o .lateLimit
      else
        let r := p.1.reserveTarget t g.1.antenna
        if r.2 then r.1.commitPlan t o (p.2.record o g.1 g.2 (s.duty t).handledThrough)
        else if r.1.surveyRunning then r.1
        else State.planCandidates r.1 t o now .clash rest

/-- An occurrence within the horizon is planned. -/
def State.planOccurrence (s : State) (t : Nat) (o : Occurrence) (now : Nat) : State :=
  if !s.txFit t o.entry.freq o.entry.power then s.skipOccurrence t o .transmitter
  else match s.seqCause t with
  | some c => s.abandonPlan t o c
  | none =>
    let candidates := (o.entry.primary, false) :: (match o.entry.alternate with | some g => [(g, true)] | none => [])
    s.planCandidates t o now .antenna candidates

def State.dropSkip (s : State) (t : Nat) (o : Occurrence) : State :=
  { s with se := { s.se with skip := s.se.skip.filter fun i => !i.names t o.entry.entryId o.day } }

/-- The search of R78 for one transmitter. The first argument bounds the occurrences passed over. -/
def State.planFor : Nat → State → Nat → Nat → State
  | 0, s, _, _ => s
  | n + 1, s, t, now =>
    match earliest ((s.occurrences t now).filter fun o => laterThan (s.duty t).handledThrough o.startAt) with
    | none => s
    | some o =>
      if o.endAt ≤ now then
        State.planFor n ((s.dropSkip t o).updateDuty t fun d => { d with handledThrough := some o.startAt }) t now
      else if s.skipListed t o then
        let s := (s.dropSkip t o).updateDuty t fun d => { d with handledThrough := some o.startAt }
        State.planFor n (s.recordOutcome t o.entry.entryId (some o.day) .skipped (some .host) 0 0 0) t now
      else if o.startAt ≤ now + s.params.horizonS then s.planOccurrence t o now
      else s

def State.planStep (s : State) (t now : Nat) : State :=
  if s.se.state = .running ∧ (s.duty t).mode = .auto ∧ (s.change t).isNone then
    s.planFor (2 * (s.occurrences t now).length + 1) t now
  else s

/-! ## Dropping and abandoning, R91 -/

/-- A PLANNED record is dropped: its reservation is released and handled_through returns. -/
def State.dropPlan (s : State) (t : Nat) : State :=
  match s.change t with
  | some c =>
    if c.phase = .planned then
      ((s.releaseReservation t c.target.antenna).setChange t none).updateDuty t fun d => { d with handledThrough := c.priorHandled }
    else s
  | none => s

def State.dropPlans (s : State) : State := (upTo 12).foldl (fun s t => s.dropPlan t) s

/-- A begun changeover becomes ABANDONED, R91. The entry that a SEAMLESS changeover has put in place goes with it. A wait in
RECOVERY_WAIT may have nothing left to restart for, and is tested (R155). -/
def State.abandonChange (s : State) (t : Nat) (c : Changeover) (cause : Cause) : State :=
  let st := (s.seq t).state
  let s := if st = .rampUp ∨ st = .onAir then s.offerRfOff t else s
  let s := (s.releaseReservation t c.target.antenna).withdrawPreUse t
  let s := s.setChange t (some { c with phase := .abandoned, cause := some cause, parkOrdered := false })
  let s := s.updateDuty t fun d => { d with current := if c.kind = .seamless then none else d.current, settle := .none }
  (((s.recordOutcome t c.entryId (some c.day) .abandoned (some cause) c.lateness 0 c.flags).alert .abandon).recoveryTest t).postOnce
    (.executor t)

/-- An ABANDONED record parks its row once RF is off, unless the row has a row fault, and is removed when the parking motions have
ended (R91). -/
def State.abandonedStep (s : State) (t : Nat) (c : Changeover) : Option State :=
  if !s.rfOffNow t then none
  else if c.parkOrdered then if s.parkingPending t then none else some (s.setChange t none)
  else if !(s.rowFault t).isEmpty || s.parked t then some (s.setChange t none)
  else some ((s.setChange t (some { c with parkOrdered := true })).parkRow t)

/-! ## Entries and held routes, R92 to R94 -/

/-- A current entry ends with a cause: RF_OFF is sent if RF may be on, and the route is settled as `how` says once RF is off. DESIGN
CHOICE: its outcome records no lateness and no flags (notes/assumptions/35.md). -/
def State.endEntry (s : State) (t : Nat) (cause : Cause) (how : RouteSettle) : State :=
  match (s.duty t).current with
  | none => s
  | some e =>
    let s := s.recordOutcome t e.entryId e.day .ended (some cause) 0 0 0
    let s := s.updateDuty t fun d => { d with current := none, settle := how }
    (if s.onAirNow t then s.offerRfOff t else s).postOnce (.executor t)

/-- The occurrence for which a route may be held (R92). DESIGN CHOICE: one on the skip list is passed over, and the one after it
counts as the next (notes/assumptions/35.md). -/
def State.holdFor (s : State) (t : Nat) : Option Occurrence :=
  match s.now, s.routeAntenna t with
  | some now, some a =>
    match earliest ((s.occurrences t now).filter fun o =>
        laterThan (s.duty t).handledThrough o.startAt && decide (now < o.endAt) && !s.skipListed t o) with
    | some o =>
      let free := match (s.claim a).reservation with | some r => r == t | none => true
      if o.startAt ≤ now + s.params.parkGapS ∧ o.entry.primary.antenna = a ∧ free = true then some o else none
    | none => none
  | _, _ => none

/-- The changeover record is in a phase other than PLANNED. -/
def State.changeBegun (s : State) (t : Nat) : Bool :=
  match s.change t with
  | some c => c.phase != .planned
  | none => false

/-- The row's route is settled: by R92 it is left for a changeover record, held, or parked; by R93 and R94 the row is parked, unless a
changeover has begun, whose the route is. -/
def State.settleRoute (s : State) (t : Nat) : State :=
  let cleared := s.updateDuty t fun d => { d with settle := .none }
  match (s.duty t).settle with
  | .none => s
  | .park => if s.changeBegun t then cleared else cleared.parkRow t
  | .settle =>
    if (s.change t).isSome then cleared
    else match s.holdFor t with
    | some o => cleared.updateDuty t fun d => { d with heldRoute := some { entryId := o.entry.entryId, day := o.day, startAt := o.startAt } }
    | none => cleared.parkRow t

/-- A route waits to be settled, and RF is off. -/
def State.settleDue (s : State) (t : Nat) : Bool := (s.duty t).settle != .none && s.rfOffNow t

/-- Settling by R92 looks for the transmitter's next occurrence, and so reads entries. -/
def State.settleReads (s : State) (t : Nat) : Bool :=
  (s.duty t).settle == .settle && (s.change t).isNone && s.now.isSome && (s.routeAntenna t).isSome && s.hasEntries t

/-- The row's route is settled once RF is off, and once the entries have been read where they are needed. -/
def State.settleStep (s : State) (t : Nat) : Option State :=
  if !s.settleDue t then none
  else if s.settleReads t then
    if s.se.readWork.contains (.settle t) then none else some (s.askRead (.settle t))
  else some (s.settleRoute t)

/-- A held route is given up and the row parked (R93). -/
def State.releaseHeld (s : State) (t : Nat) : State :=
  if (s.duty t).heldRoute.isSome then
    (s.updateDuty t fun d => { d with heldRoute := none, settle := .park }).postOnce (.executor t)
  else s

/-- The start of the occurrence a held route is kept for has passed (R93). DESIGN CHOICE: a start equal to now has passed
(notes/assumptions/30.md). -/
def HeldRoute.passed (h : HeldRoute) (now : Nat) : Bool := decide (h.startAt ≤ now)

/-- ARC, DRIVE or ROUTE stands in the fault set (R94). -/
def State.lostOnAir (s : State) (a : Nat) : Bool :=
  s.faultSet a &&& (FaultFlag.arc.mask ||| FaultFlag.drive.mask ||| FaultFlag.route.mask) != 0

/-- The changeover toward the alternate for the rest of a current entry, and whether it has been made (R94). What the probe of the lead
has found stays when the reservation is refused (R180). -/
def State.rerouteEntry (s : State) (t : Nat) (e : CurrentEntry) : State × Bool :=
  match s.now, e.alternate, e.day with
  | some now, some g, some day =>
    if s.se.state = .running ∧ e.onAlternate = false ∧ (s.candidateCause t g e.freq e.power).isNone then
      let p := s.planLead t g e.freq now now
      let s := p.1.dropPlan t
      let r := s.reserveTarget t g.antenna
      if !r.2 then (p.1, false)
      else
        let c : Changeover :=
          { entryId := e.entryId, day := day, target := g, substituted := true, alternate := none, freq := e.freq, power := e.power,
            feed := e.feed, kind := p.2.kind, tuneMode := p.2.tuneMode, leadS := p.2.leadS, ps := p.2.ps, x := p.2.x,
            lateness := p.2.x - now, s := now, endAt := e.endAt, priorHandled := (s.duty t).handledThrough, routeStart := none,
            actualOn := none, flags := if now < p.2.x then p.2.flags ||| flagLate else p.2.flags, phase := .planned, cause := none,
            routeDs := p.2.routeDs, check := .notDue, closeOrdered := false, tuneOrdered := false, switched := true,
            powerWait := .awaited, feedWait := .awaited, parkOrdered := false, endCap := none, startAt := e.startAt,
            lateLimit := none }
        ((r.1.setChange t (some c)).updateDuty t fun d => { d with heldRoute := none }, true)
    else (s, false)
  | _, _, _ => (s, false)

/-- The failure that ends a current entry, R94, in the order LOCKOUT, LINK_LOST, FAULT, row fault, antenna. -/
def State.entryStep (s : State) (t : Nat) : Option State :=
  match (s.duty t).current with
  | none => none
  | some e =>
    let st := (s.seq t).state
    if st = .lockout then some ((s.endEntry t .lockout .park).alert .abandon)
    else if st = .linkLost then some ((s.endEntry t .txLink .park).alert .abandon)
    else if st = .fault then some ((s.endEntry t .txFault .park).alert .abandon)
    else if !(s.rowFault t).isEmpty then some (s.endEntry t .route .none)
    else match e.antenna with
    | none => none
    | some a =>
      let already := match s.change t with | some c => c.switched && c.target.antenna != a | none => false
      if s.lostOnAir a ∧ !already then
        let r := s.rerouteEntry t e
        some (if r.2 then r.1 else r.1.endEntry t .antenna .settle)
      else none

/-! ## Routing work, R85, R86 -/

/-- The target crosspoint is ordered CLOSED; an occupant of another row gives WAIT_ANTENNA (R86). -/
def State.orderClose (s : State) (t : Nat) (c : Changeover) : State :=
  let occupied := match (s.claim c.target.antenna).occupant with | some r => r != t | none => false
  let s := s.setChange t (some { c with closeOrdered := true, flags := if occupied then c.flags ||| flagWaitAntenna else c.flags })
  s.requestMotion (crosspoint t c.target.antenna) .closed (.executor t) 5

/-- The present route's crosspoint or park switch is ordered OPEN. -/
def State.openRoute (s : State) (t : Nat) : State :=
  match s.routeAntenna t with
  | some a => s.requestMotion (crosspoint t a) .opened (.executor t) 6
  | none => if s.parked t then s.requestMotion (parkSwitch t) .opened (.executor t) 6 else s

/-- The motions of a target: leaving the present route, the pre-use check if due, the close, the drives. A changeover that has
switched to the route the row still has orders its crosspoint CLOSED, which takes the place of an OPEN ordered before (R89, R108). -/
def State.orderRoute (s : State) (t : Nat) (c : Changeover) : State :=
  let s :=
    if c.kind = .reroute ∧ s.routeAntenna t ≠ some c.target.antenna then
      let s := s.openRoute t
      if s.checkDue c.target.antenna then
        (s.setChange t (some { c with check := .asked })).askPreUse t c.target.antenna
      else s.orderClose t c
    else if c.switched then s.orderClose t c
    else s.setChange t (some c)
  s.orderDrives t c.target

/-- ROUTING begins (R85). -/
def State.beginRouting (s : State) (t : Nat) (c : Changeover) : State :=
  let s := s.orderRoute t { c with phase := .routing, routeStart := some s.clock, tuneOrdered := c.tuneMode == .preset }
  (if c.tuneMode = .preset then s.offerOrder t (.tunePreset c.freq 0 0 0 0) .executor else s).postOnce (.executor t)

/-! ## Substitution, R89 -/

/-- The changeover switches to its alternate in place, if the alternate passes and can be reserved. -/
def State.switchInPlace (s : State) (t : Nat) (c : Changeover) : Option State :=
  match c.alternate with
  | none => none
  | some g =>
    if c.substituted || c.switched || (s.candidateCause t g c.freq c.power).isSome then none
    else
      let r := s.reserveTarget t g.antenna
      if !r.2 then none
      else
        let s := (r.1.releaseReservation t c.target.antenna).withdrawPreUse t
        let s := if c.closeOrdered then s.requestMotion (crosspoint t c.target.antenna) .opened (.executor t) 6 else s
        let kind := if s.routeAntenna t = some g.antenna then c.kind else .reroute
        let c' := { c with target := g, substituted := true, switched := true, check := .notDue, closeOrdered := false, kind := kind }
        let s := if c.phase = .routing then s.orderRoute t c' else s.setChange t (some c')
        some (s.postOnce (.executor t))

/-- A new REROUTE changeover for the same occurrence toward the alternate, planned at once, and whether it could be made (R89). What
the probe of its lead has found stays when the late limit or the reservation forbids it (R180). -/
def State.replanAlternate (s : State) (t : Nat) (c : Changeover) : State × Bool :=
  match s.now, c.alternate with
  | some now, some g =>
    if s.se.state ≠ .running ∨ c.substituted ∨ c.switched ∨ (s.candidateCause t g c.freq c.power).isSome then (s, false)
    else
      let p := s.planLead t g c.freq c.s now
      let late := match c.lateLimit with | some l => decide (l < p.2.x - c.s) | none => false
      let r := p.1.reserveTarget t g.antenna
      if late || !r.2 then (p.1, false)
      else
        let s := r.1.releaseReservation t c.target.antenna
        let c' : Changeover :=
          { c with target := g, substituted := true, switched := true, kind := p.2.kind, tuneMode := p.2.tuneMode, leadS := p.2.leadS,
                   ps := p.2.ps, x := p.2.x, lateness := p.2.x - c.s, routeDs := p.2.routeDs,
                   priorHandled := (s.duty t).handledThrough, phase := .planned, routeStart := none,
                   flags := if c.s < p.2.x then p.2.flags ||| flagLate else p.2.flags, check := .notDue, closeOrdered := false,
                   tuneOrdered := false, powerWait := .awaited, feedWait := .awaited }
        let s := (s.setChange t (some c')).recoveryTest t
        (if 0 < c'.lateness then s.alert .late else s, true)
  | _, _ => (s, false)

/-- The target crosspoint of a begun changeover has been confirmed CLOSED (R89): it stands so, under a watch too, or ROUTING is over. -/
def State.targetClosed (s : State) (t : Nat) (c : Changeover) : Bool :=
  s.standsClosed (crosspoint t c.target.antenna) || c.phase == .tuning || c.phase == .standingBy || c.phase == .rampingUp

/-- The target of a begun changeover is lost (R89). -/
def State.targetLost (s : State) (t : Nat) (c : Changeover) : State :=
  if s.targetClosed t c then
    let r := s.replanAlternate t c
    if r.2 then r.1 else r.1.abandonChange t c .antenna
  else match s.switchInPlace t c with
  | some u => u
  | none => s.abandonChange t c .antenna

/-! ## Beginning, R84 -/

/-- The current entry is taken over by the changeover that begins. -/
def State.takeOver (s : State) (t : Nat) : State :=
  match (s.duty t).current with
  | none => s
  | some e =>
    (s.recordOutcome t e.entryId e.day .ended (some .changeover) 0 0 0).updateDuty t fun d => { d with current := none }

/-- The entry a changeover puts in place. -/
def Changeover.entry (c : Changeover) : CurrentEntry :=
  { entryId := c.entryId, day := some c.day, startAt := c.startAt, endAt := match c.endCap with | some h => min c.endAt h | none => c.endAt,
    antenna := some c.target.antenna, onAlternate := c.substituted, freq := c.freq, power := c.power, slew := c.target.slew,
    reversed := c.target.reversed, feed := c.feed, alternate := c.alternate }

/-- The work of a changeover that has passed its tests. -/
def State.beginKind (s : State) (t : Nat) (c : Changeover) : State :=
  if c.kind = .seamless then
    let s := (s.setChange t (some { c with phase := .standingBy, powerWait := .awaited, feedWait := .awaited })).updateDuty t
      fun d => { d with current := some c.entry }
    (s.offerPower t c.power c.freq).offerOrder t (.feed c.feed) .executor
  else if s.onAirNow t then
    ((s.takeOver t).setChange t (some { c with phase := .rampingDown })).offerRfOff t
  else
    let s := match (s.duty t).current with
      | some _ => s.endEntry t .endReached .none
      | none => s
    s.beginRouting t c

/-- A PLANNED changeover begins: the tests of R79 and R80, then its work. -/
def State.beginChange (s : State) (t : Nat) (c : Changeover) (now : Nat) : State :=
  let due := match (s.duty t).current with | some e => decide (e.endAt ≤ now) | none => false
  let clear := fun (s : State) => if due then s.endEntry t .endReached .none else s.takeOver t
  let begun : Changeover := { c with phase := .rampingDown }
  let s :=
    if !s.txFit t c.freq c.power then (clear s).abandonChange t begun .transmitter
    else match s.seqCause t with
    | some cause => (clear s).abandonChange t begun cause
    | none =>
      match s.targetCause t c.target c.freq c.power with
      | none => s.beginKind t c
      | some _ =>
        match s.switchInPlace t begun with
        | none => (clear s).abandonChange t begun .antenna
        | some u =>
          match u.change t with
          | some c' => u.beginKind t c'
          | none => u
  s.postOnce (.executor t)

def State.beginStepAt (s : State) (t now : Nat) : State :=
  match s.change t with
  | some c => if s.se.state = .running ∧ c.phase = .planned ∧ c.ps ≤ now then s.beginChange t c now else s
  | none => s

/-! ## Phases, R85 to R88, R90 -/

/-- DONE: the occurrence is the current entry and the record is removed (R88). -/
def State.changeDone (s : State) (t : Nat) (c : Changeover) : State :=
  let actual := match s.now with | some a => a - c.s | none => 0
  let s := s.updateDuty t fun d => { d with current := some c.entry }
  (s.recordOutcome t c.entryId (some c.day) .done none c.lateness actual c.flags).setChange t none

/-- The failures of R90 that stand, in its order. -/
def State.changeFailure (s : State) (t : Nat) (c : Changeover) : Option Cause :=
  let st := (s.seq t).state
  if st = .fault then some .txFault
  else if st = .linkLost then some .txLink
  else if st = .lockout then some .lockout
  else if !(s.rowFault t).isEmpty then some .antenna
  else match s.now with
  | some now => if c.endAt ≤ now then some .expired else none
  | none => none

/-- A tune is offered to the sequencer. -/
def State.orderTune (s : State) (t : Nat) (c : Changeover) : State :=
  let s := s.setChange t (some { c with tuneOrdered := true })
  if c.tuneMode = .preset then s.offerOrder t (.tunePreset c.freq 0 0 0 0) .executor
  else s.offerOrder t (.tuneAuto c.freq 0) .executor

/-- The sequencer can take a tune order, or will defer it. -/
def State.takesTune (s : State) (t : Nat) : Bool :=
  (s.seq t).state == .off || (s.seq t).state == .tuned || (s.seq t).state == .rampDown

/-- ROUTING is complete but for the tune. -/
def State.routed (s : State) (t : Nat) (c : Changeover) : Bool :=
  s.isClosed (crosspoint t c.target.antenna) && !s.drivesMove c.target

/-- The end of ROUTING (R85, R87): STANDING_BY, or TUNING with the tune still needed. -/
def State.leaveRouting (s : State) (t : Nat) (c : Changeover) : Option State :=
  match c.tuneMode with
  | .preset => if s.tunedAt t c.freq then some (s.setChange t (some { c with phase := .standingBy })) else none
  | .auto => some (s.orderTune t { c with phase := .tuning })
  | .none =>
    if s.tunedAt t c.freq then some (s.setChange t (some { c with phase := .standingBy }))
    else if (s.seq t).state = .off ∨ (s.seq t).state = .tuned then
      some (s.orderTune t { c with phase := .tuning, tuneMode := .preset })
    else none

/-- S − ceil(ramp_up_ds / 10) has been reached (R87). -/
def State.rampDue (s : State) (t : Nat) (c : Changeover) : Bool :=
  match s.now with
  | some now => decide (c.s ≤ now + ceilDiv (s.rampUp t) 10)
  | none => false

/-- RAMPING_UP begins with the licensed test (R88). -/
def State.beginRampUp (s : State) (t : Nat) (c : Changeover) : State :=
  if !s.licensed t c.target.antenna c.freq c.power then s.abandonChange t c .licence
  else (s.setChange t (some { c with phase := .rampingUp })).offerRfOn t c.power c.freq c.feed

/-- The next change of a changeover that is due. -/
def State.changeStep (s : State) (t : Nat) (c : Changeover) : Option State :=
  match c.phase with
  | .planned => none
  | .done => none
  | .abandoned => s.abandonedStep t c
  | phase =>
    match s.changeFailure t c with
    | some cause => some (s.abandonChange t c cause)
    | none =>
      if !s.available c.target.antenna then some (s.targetLost t c)
      else match phase with
      | .rampingDown =>
        if (s.seq t).state = .off ∨ (s.seq t).state = .tuned then some (s.beginRouting t c) else none
      | .routing =>
        if s.routed t c then
          match s.leaveRouting t c with
          | some u => some u
          | none =>
            if c.tuneMode = .preset ∧ !c.tuneOrdered ∧ s.takesTune t then some (s.orderTune t c) else none
        else if c.tuneMode = .preset ∧ !c.tuneOrdered ∧ s.takesTune t then some (s.orderTune t c)
        else none
      | .tuning =>
        if s.tunedAt t c.freq ∧ c.tuneOrdered then some (s.setChange t (some { c with phase := .standingBy }))
        else if !c.tuneOrdered ∧ s.takesTune t then some (s.orderTune t c)
        else none
      | .standingBy =>
        if c.kind = .seamless then
          if c.powerWait = .accepted ∧ c.feedWait = .accepted then some (s.changeDone t c) else none
        else if s.rampDue t c then some (s.beginRampUp t c)
        else none
      | .rampingUp => if (s.seq t).state = .onAir then some (s.changeDone t c) else none
      | _ => none

/-- The executor's next change for a transmitter, and another look after it. -/
def State.executorProgress (s : State) (t : Nat) : State :=
  let next := match s.change t with
    | some c => if c.phase = ChangePhase.planned then s.entryStep t else s.changeStep t c
    | none => s.entryStep t
  match next with
  | some u => u.postOnce (.executor t)
  | none =>
    match s.settleStep t with
    | some u => u.postOnce (.executor t)
    | none => s

/-! ## Order outcomes, R84, R85 -/

/-- What an order of a SEAMLESS changeover has come to. -/
def seamlessWait (w : OrderWait) (owner : OrderOwner) (e : OrderEnd) : OrderWait :=
  if owner = .executor ∨ w = .following then
    match e with
    | .accepted => .accepted
    | .replaced => .following
    | _ => w
  else w

/-- The order must be offered again: it ended SUPERSEDED or DISCARDED. -/
def OrderEnd.lost : OrderEnd → Bool
  | .superseded => true
  | .discarded => true
  | _ => false

/-- The sequencer is in a state that R90 names. -/
def State.seqFailed (s : State) (t : Nat) : Bool :=
  (s.seq t).state == .fault || (s.seq t).state == .linkLost || (s.seq t).state == .lockout

/-- An order of a SEAMLESS changeover has ended (R84). -/
def State.seamlessOrder (s : State) (t : Nat) (c : Changeover) (kind : OrderKind) (owner : OrderOwner) (e : OrderEnd) : State :=
  let wait := if kind = .power then c.powerWait else c.feedWait
  let mine := decide (owner = .executor ∨ wait = .following)
  if !mine ∨ (kind ≠ .power ∧ kind ≠ .feed) then s
  else if e = .notTaken then s.abandonChange t c .txFault
  else if e.lost then
    if s.seqFailed t then s
    else
      let c' := if kind = .power then { c with powerWait := .awaited } else { c with feedWait := .awaited }
      let s := s.setChange t (some c')
      if kind = .power then s.offerPower t c.power c.freq else s.offerOrder t (.feed c.feed) .executor
  else
    let next := seamlessWait wait owner e
    let c' := if kind = .power then { c with powerWait := next } else { c with feedWait := next }
    (s.setChange t (some c')).postOnce (.executor t)

/-- A tune order of a changeover has ended: NO_PRESET turns the tune to AUTO with PRESET_LOST (R85); one not taken or lost is
offered again when the sequencer takes a tune (notes/assumptions/21.md). -/
def State.tuneOrder (s : State) (t : Nat) (c : Changeover) (e : OrderEnd) : State :=
  match e with
  | .noPreset =>
    (s.setChange t (some { c with tuneMode := .auto, tuneOrdered := false, flags := c.flags ||| flagPresetLost })).postOnce (.executor t)
  | .notTaken => s.setChange t (some { c with tuneOrdered := false })
  | .discarded => s.setChange t (some { c with tuneOrdered := false })
  | .superseded => s.setChange t (some { c with tuneOrdered := false })
  | _ => s

/-- The outcome of an order reaches the executor. -/
def State.orderOutcome (s : State) (t : Nat) (kind : OrderKind) (owner : OrderOwner) (e : OrderEnd) : State :=
  match s.change t with
  | none => s
  | some c =>
    if c.phase = .planned ∨ c.phase = .abandoned then s
    else if c.kind = .seamless then s.seamlessOrder t c kind owner e
    else if owner = .executor ∧ (kind = .tunePreset ∨ kind = .tuneAuto) then s.tuneOrder t c e
    else s

/-- The outcome of a pre-use check reaches the executor (R203). -/
def State.preUseOutcome (s : State) (t a : Nat) (passed : Option Bool) : State :=
  match s.change t with
  | none => s
  | some c =>
    if c.phase = .routing ∧ c.check = .asked ∧ c.target.antenna = a then
      let s := match passed with
        | none => s.orderClose t { c with check := .cleared, flags := c.flags ||| flagWaived }
        | some true => s.orderClose t { c with check := .cleared }
        | some false => s.targetLost t c
      s.postOnce (.executor t)
    else s

/-! ## Second events, R72, R78, R96 -/

/-- The bound of R86 at a second event. -/
def State.routeBound (s : State) (t : Nat) : State :=
  match s.change t with
  | none => s
  | some c =>
    match c.phase, c.routeStart with
    | .routing, some m =>
      let bound := (ceilDiv c.routeDs 10 + s.params.antennaWaitS) * 1000
      let occupied := match (s.claim c.target.antenna).occupant with | some r => r != t | none => false
      if m + bound < s.clock ∧ occupied = true ∧ !s.isClosed (crosspoint t c.target.antenna) then
        match s.switchInPlace t { c with routeStart := some s.clock } with
        | some u => u
        | none => s.abandonChange t c .antenna
      else s
    | _, _ => s

/-- A current entry whose end instant is not later than now is ended (R78). -/
def State.endStepAt (s : State) (t now : Nat) : State :=
  match (s.duty t).current with
  | some e => if e.endAt ≤ now then s.endEntry t .endReached .settle else s
  | none => s

/-- A held route whose occurrence has started without a changeover is given up (R93). -/
def State.heldStepAt (s : State) (t now : Nat) : State :=
  match (s.duty t).heldRoute, s.change t with
  | some h, none => if h.passed now then s.releaseHeld t else s
  | _, _ => s

/-- The work of R78 for one transmitter: plan, begin, end; then, at a second event, the bound of R86 and the held route of R93. -/
def State.transmitterWork (s : State) (now t : Nat) (second : Bool) : State :=
  let s := ((s.planStep t now).beginStepAt t now).endStepAt t now
  (if second then (s.routeBound t).heldStepAt t now else s).postOnce (.executor t)

/-- The transmitter is planned for, and so its entries are read (R78). -/
def State.planReads (s : State) (t : Nat) : Bool :=
  s.se.state == .running && (s.duty t).mode == .auto && (s.change t).isNone && s.hasEntries t

/-- The work of R78 for one transmitter, at once or when the entries it needs have been read. -/
def State.transmitterPass (s : State) (now t : Nat) (second : Bool) : State :=
  if s.planReads t then s.askRead (.pass t second) else s.transmitterWork now t second

/-- SEASON_END is entered when the day is past the ACTIVE book's last day with no handover pending (R72). -/
def State.seasonCheck (s : State) (now : Nat) : State :=
  match s.activeBook with
  | some b =>
    if s.se.state = .running ∧ (s.book b).lastDay < now / 86400 ∧ !s.handoverPending then
      (State.dropPlans { s with se := { s.se with state := .seasonEnd } }).alert .seasonEnd
    else s
  | none => s

/-- Items of the skip list whose occurrence has ended leave it (R76). -/
def State.pruneSkip (s : State) (now : Nat) : State :=
  { s with se := { s.se with skip := s.se.skip.filter fun i => decide (now < i.endAt) } }

/-- The work of R78 for every transmitter at an instant, at a second event or not. -/
def State.executorPass (s : State) (now : Nat) (second : Bool) : State :=
  ((upTo 12).foldl (fun s t => s.transmitterPass now t second) (s.seasonCheck now)).pruneSkip now

/-- Work that has waited for its read is done. Without a valid time the work of an instant waits for a second event (R96). -/
def State.doWork (s : State) (w : ExecWork) : State :=
  match w with
  | .pass t second =>
    match s.now with
    | some now => s.transmitterWork now t second
    | none => s
  | .settle t => if s.settleDue t then (s.settleRoute t).postOnce (.executor t) else s

/-- The executor's read has been served (R32). -/
def State.executorServed (s : State) : State :=
  s.se.readWork.foldl (fun s w => s.doWork w) { s with se := { s.se with readWork := [] } }

/-- A step that the executor takes as larger than 30 s (R96). -/
def TimeStep.large (x : TimeStep) (stopped : Bool) : Bool :=
  match x with
  | .none => false
  | .first => !stopped
  | .seconds n => decide (30 < n.natAbs)

/-- A large step: TIME, and outside STOPPED every plan is dropped and the executor is HELD. -/
def State.largeStep (s : State) : State :=
  let s := s.alert .time
  if s.se.state = .stopped then s
  else State.dropPlans { s with se := { s.se with state := .held, rebuild := true } }

/-- A second event: the step, then the books' handover with its notice, then the executor's pass (notes/assumptions/15.md). -/
def State.secondEvent (s : State) (instant : Nat) (x : TimeStep) : State :=
  let s := if x.large (s.se.state == .stopped) then s.largeStep else s
  (s.handoversDue instant).post (.executorPass instant)

/-- The current entry and the changeover of one transmitter end no later than a handover (R95). -/
def State.cutEntry (s : State) (instant t : Nat) : State :=
  let s := s.updateDuty t fun d =>
    { d with handledThrough := none, current := d.current.map fun e => { e with endAt := min e.endAt instant } }
  match s.change t with
  | some c => s.setChange t (some { c with endCap := some (match c.endCap with | some h => min h instant | none => instant) })
  | none => s

/-- Every plan is dropped and every entry cut at a handover (R95). -/
def State.cutEntries (s : State) (instant : Nat) : State := (upTo 12).foldl (fun s t => s.cutEntry instant t) s.dropPlans

/-- The skip list is emptied and SEASON_END left at a handover (R95). -/
def State.newSeason (s : State) : State :=
  { s with se := { s.se with skip := [], state := if s.se.state = ExecState.seasonEnd then .running else s.se.state } }

/-- A handover notice, R95. -/
def State.handoverNotice (s : State) (instant : Nat) : State :=
  let s := (s.cutEntries instant).newSeason
  match s.now with
  | some now => if s.se.state = ExecState.running then s.executorPass now false else s
  | none => s

/-! ## Requests that move the executor, R70, R71, R74, R75 -/

/-- The rebuild of EXEC_RELEASE (R96). -/
def State.rebuildHandled (s : State) : State :=
  (upTo 12).foldl (fun s t =>
    if (s.duty t).mode = .auto then
      s.updateDuty t fun d => { d with handledThrough := d.current.bind fun e => e.startAt }
    else s) s

/-- An expired PLANNED record is dropped at EXEC_RELEASE (R71). -/
def State.dropExpired (s : State) (now t : Nat) : State :=
  match s.change t with
  | none => s
  | some c =>
    if c.phase = .planned ∧ c.endAt ≤ now then
      (s.dropPlan t).recordOutcome t c.entryId (some c.day) .skipped (some .expired) 0 0 c.flags
    else s

/-- A due PLANNED record begins at EXEC_RELEASE (R71). -/
def State.beginDue (s : State) (now t : Nat) : State :=
  match s.change t with
  | none => s
  | some c => if c.phase = .planned ∧ c.ps ≤ now then s.beginChange t c now else s

/-- The PLANNED records at EXEC_RELEASE: the expired ones are dropped, and then the due ones begin at once (R71). -/
def State.releasePlans (s : State) (now : Nat) : State :=
  (upTo 12).foldl (fun s t => s.beginDue now t) ((upTo 12).foldl (fun s t => s.dropExpired now t) s)

/-- The entry that TX_AUTO adopts, R75. DESIGN CHOICE: a drive that is confirmed at no position, or of no route, counts as at slew 0
or FWD (notes/assumptions/35.md). -/
def State.adoptedEntry (s : State) (t : Nat) : CurrentEntry :=
  let a := s.routeAntenna t
  let slew : Int := match a with
    | some a => match (s.mover (slewDrive a)).confirmedAt with | some (.slew v) => v | _ => 0
    | none => 0
  let reversed := match a with
    | some a => (s.mover (reverserOf a)).confirmedAt == some .rev
    | none => false
  { entryId := 0, day := none, startAt := none, endAt := s.now.getD 0, antenna := a, onAlternate := false,
    freq := (s.seq t).tunedFreq.getD 0, power := (s.prot t).commanded, slew := slew, reversed := reversed, feed := (s.seq t).lastFeed,
    alternate := none }

/-! ## OCCURRENCE_SKIP, R76 -/

/-- The occurrence of the ACTIVE book with this id for this transmitter on this day. -/
def State.namedOccurrence (s : State) (t entryId day : Nat) : Option Occurrence :=
  match s.activeBook with
  | none => none
  | some b =>
    match (s.entriesOf b).find? fun e => e.entryId == entryId && e.tx == t with
    | some e => if (s.book b).occursOn e day then some ((s.book b).occurrence e day) else none
    | none => none

/-- The changeover record is for this occurrence. -/
def State.changeFor (s : State) (t entryId day : Nat) : Bool :=
  match s.change t with
  | some c => c.entryId == entryId && c.day == day
  | none => false

/-- The start is not later than handled_through, and no changeover record is for the occurrence (notes/assumptions/26.md). -/
def State.occurrenceHandled (s : State) (t entryId day : Nat) : Bool :=
  match s.namedOccurrence t entryId day with
  | some o => !laterThan (s.duty t).handledThrough o.startAt && !s.changeFor t entryId day
  | none => false

/-- The occurrence is the transmitter's current entry. -/
def State.occurrenceCurrent (s : State) (t entryId day : Nat) : Bool :=
  match (s.duty t).current with
  | some e => e.entryId == entryId && e.day == some day
  | none => false

/-- The checks that read no entry. -/
def State.skipFirstChecks (s : State) (t day : Nat) : List (Bool × Status) :=
  [(s.badTx t || decide (65535 < day), .range), (s.activeBook.isNone, .state)]

/-- Every check of R76, in its order. -/
def State.skipChecks (s : State) (t entryId day : Nat) : List (Bool × Status) :=
  s.skipFirstChecks t day ++
  [((s.namedOccurrence t entryId day).isNone, .range),
   (s.occurrenceHandled t entryId day || s.occurrenceCurrent t entryId day, .state),
   ((s.changeFor t entryId day && s.changeBegun t) || (decide (16 ≤ s.se.skip.length) && !s.skipHas t entryId day), .busy)]

/-- The occurrence joins the list; a PLANNED record for it is dropped and the occurrence is skipped at once. -/
def State.skipNamed (s : State) (t entryId day : Nat) : State :=
  match s.namedOccurrence t entryId day with
  | none => s
  | some o =>
    if s.changeFor t entryId day then
      let u := ((s.dropPlan t).dropSkip t o).updateDuty t fun d => { d with handledThrough := some o.startAt }
      u.recordOutcome t entryId (some day) .skipped (some .host) 0 0 0
    else if s.skipHas t entryId day then s
    else
      let item : SkipItem := { tx := t, entryId := entryId, day := day, endAt := o.endAt }
      { s with se := { s.se with skip := s.se.skip ++ [item] } }

/-- The read of an OCCURRENCE_SKIP has been served: its checks are made, and the occurrence is marked. -/
def State.occurrenceSkipServed (s : State) (t entryId day : Nat) : State :=
  s.handle 0x47 (s.skipChecks t entryId day) fun s => (s.skipNamed t entryId day).answer 0x47 .ok []

end Sys2Proof.Machine
end

