-- ==== Sys2Proof/Machine/Replies.lean ====
section
/-! DEFINITION. The bodies of the replies that report the state of a block, in the order of the fields of each message's rule
(R209): instants as day and second, an item that may be none behind a presence octet, a moment as the ds that have passed. What
the manual leaves open of these layouts is in notes/assumptions/22.md. -/

namespace Sys2Proof.Machine

open Sys2Proof

/-! ## Codes of named values, R209: numbered from 0 in the order of their table -/

def Position.code : Position → List Byte
  | .opened => u8 0
  | .closed => u8 1
  | .slew v => slewOctet v
  | .fwd => u8 0
  | .rev => u8 1

/-- The requesters of R107, in the order of its table: the executor, LD, the host, MC. -/
def Requester.code : Requester → List Byte
  | .executor _ => u8 0
  | .diagRun => u8 1
  | .diagPreUse => u8 1
  | .host => u8 2
  | .survey => u8 3

/-- The owners of 8.3: executor, Protection Unit, host, the sequencer itself. -/
def OrderOwner.code : OrderOwner → Nat
  | .executor => 0 | .protection => 1 | .host => 2 | .sequencer => 3 | .quench => 3

/-- The items of the table of 3.6. -/
def ItemKind.code : ItemKind → Nat
  | .stateMark _ _ _ => 0 | .loadPage _ _ => 1 | .bookErase _ => 2 | .configWrite => 3 | .licenceWrite => 4 | .lockMark => 5
  | .presetPage _ _ => 6

/-- The host, or the kind of the item. DESIGN CHOICE: the host is 0 and the kinds of 3.6 follow from 1 (notes/assumptions/22.md). -/
def OpOwner.code : OpOwner → Nat
  | .host => 0
  | .item k => k.code + 1

/-- The states of R35. -/
def StoreState.code : StoreState → Nat
  | .ready => 0 | .erasing _ => 1 | .programming _ => 2 | .suspended => 3 | .fault => 4

def TxState.code : TxState → Nat
  | .off => 0 | .tuning => 1 | .tuned => 2 | .ramping => 3 | .on => 4 | .muted => 5 | .fault => 6 | .other c => c

def OrderAnswer.code : OrderAnswer → Nat
  | .none => 0 | .accepted => 1 | .refused => 2 | .other c => c

/-- DESIGN CHOICE: the numbers of the order outcomes are the model's, since no list of the spec gives them all
(notes/assumptions/22.md). -/
def OrderEnd.code : OrderEnd → Nat
  | .accepted => 0 | .refused _ => 1 | .timeout => 2 | .replaced => 3 | .superseded => 4 | .discarded => 5 | .notTaken => 6
  | .noPreset => 7

/-- The place of a kind in the table of R142. -/
def OrderKind.index (k : OrderKind) : Nat := k.ctorIdx

/-- A set with member n at bit n − 1, in `n` octets, high octet first. -/
def maskOctets (n : Nat) (xs : List Nat) : List Byte :=
  let m := maskOf xs
  ((List.range n).reverse).map fun k => byte (m / 256 ^ k)

/-! ## Hall tables, R6, R12 -/

def Source.code (x : Source) : Nat := x.ctorIdx

/-- HALL_QUERY. -/
def State.hallBody (s : State) : List Byte :=
  HallParams.octets s.params ++ u8 s.ht.configSource.code ++ u8 s.ht.licenceSource.code

/-- A licence write or lock mark is pending or in flight. -/
def State.itemPending (s : State) (p : ItemKind → Bool) : Bool :=
  (s.ss.work.any fun w => p w.kind) || (match s.ss.item with | some w => p w.kind | none => false)

def ItemKind.ofLicence : ItemKind → Bool
  | .licenceWrite => true
  | .lockMark => true
  | _ => false

/-- LICENCE_QUERY. -/
def State.licenceBody (s : State) (first : Nat) : List Byte :=
  flag s.ht.locked ++ u8 s.ht.licence.length ++ opt s.ht.staging (fun x => u8 x.lines.length ++ u8 x.total) ++
  flag (s.itemPending ItemKind.ofLicence) ++ counted ((s.ht.licence.drop (first - 1)).take 20) LicenceLine.octets

/-! ## Time Base, R28 -/

/-- TIME_QUERY. -/
def State.timeBody (s : State) : List Byte :=
  u8 s.tb.state.ctorIdx ++ opt s.now (fun i => instantOctets i ++ u8 (weekday (i / 86400))) ++
  opt s.tb.pendingSet (fun p => instantOctets p.instant) ++ u32 s.tb.elapsed ++ u16 s.tb.ignored ++ u8 s.tb.chain.length ++
  u16 (match s.tb.lastPulse with | some m => min 65535 (s.clock - m) | none => 65535)

/-! ## Season Store, R46 -/

/-- DESIGN CHOICE: CHECK 0, NOT_BLANK 1, OVERRUN 2, the order in which R36 and R37 name them, since no list gives them all
(notes/assumptions/22.md). -/
def FailCause.code (c : FailCause) : List Byte := u8 c.ctorIdx

def StoreOp.target : StoreOp → Nat
  | .erase k => k
  | .program a _ => a / 256

/-- DESIGN CHOICE: PROGRAM 0, ERASE 1, which no list of the spec gives (notes/assumptions/22.md). -/
def StoreOp.code : StoreOp → Nat
  | .program _ _ => 0
  | .erase _ => 1

/-- The outcome, and its cause when it is FAILED. -/
def HostOpOutcome.octets : HostOpOutcome → List Byte
  | .inProgress => u8 0 ++ opt none FailCause.code
  | .done => u8 1 ++ opt none FailCause.code
  | .failed c => u8 2 ++ opt (some c) FailCause.code

/-- STORE_STATUS. DESIGN CHOICE: an operation's kind is PROGRAM 0 or ERASE 1 in the last host operation and the last failure
(notes/assumptions/22.md). -/
def State.storeBody (s : State) : List Byte :=
  u8 s.ss.state.code ++ opt s.ss.operation (fun o => u16 o.op.target ++ u8 o.owner.code) ++
  u8 (match s.ss.operation with | some o => min o.op.maxMs (s.clock - o.startedAt) | none => 0) ++
  flag (match s.ss.operation with | some o => o.guardEnd.isSome | none => false) ++
  counted s.ss.work (fun w => u8 w.kind.code) ++
  opt s.ss.lastHostOp (fun h => u8 (if h.erase then 1 else 0) ++ u16 h.target ++ h.outcome.octets) ++
  opt s.ss.lastFailure (fun f => u8 f.sector ++ opt f.page u16 ++ u8 (if f.erase then 1 else 0) ++ u8 f.owner.code ++ f.cause.code ++
    opt f.instant instantOctets) ++
  maskOctets 16 (s.ss.failedSectors.map (· + 1)) ++ u16 s.ss.suspensions

/-! ## Season Books, R61 -/

def LoadSlot.code : LoadSlot → Nat
  | .free => 0 | .filling _ _ => 1 | .waiting _ _ => 2

/-- A handover slot: blank, or its instant and whether it is cancelled. The instant of a torn field is what the field holds. -/
def State.slotOctets (s : State) (b n : Nat) (x : HandoverSlot) : List Byte :=
  match x with
  | .blank => u8 0
  | .used i c => u8 1 ++ instantOctets i ++ flag c
  | .torn => u8 1 ++ memReadAll s.ss.array (markAddress b (.slotInstant n) + 1) 6 ++ flag true

def BookState.hasMarks : BookState → Bool
  | .empty => false
  | .erasing => false
  | .loading => false
  | _ => true

/-- BOOK_QUERY. -/
def State.bookBody (s : State) (b : Nat) : List Byte :=
  let x := s.book b
  u8 x.state.ctorIdx ++ flag s.sb.scanRunning ++
  opt x.season (fun c => u16 c ++ u16 x.firstDay ++ u16 x.lastDay) ++
  opt (if x.state = .loading then some x.entriesAdded else none) u16 ++ opt x.sealed (fun v => u16 v.1 ++ u32 v.2) ++
  u8 x.slotA.code ++ u8 x.slotB.code ++ (x.slots.zipIdx).flatMap (fun p => s.slotOctets b (p.2 + 1) p.1) ++
  opt x.pendingHandover (fun h => u8 h.slot ++ instantOctets h.instant) ++
  opt (if x.state = .active ∨ x.state = .retired then x.activation else none) (fun h => instantOctets h.instant) ++
  flag x.runIndex.isSome ++
  opt (match s.sb.verifier with
    | some v => if v.book = b ∧ x.state = .verifying then some v.passed else none
    | none => none) u16 ++
  u8 x.findings.outcome.ctorIdx ++ counted x.missing (fun m => u8 m.mark.index ++ flag m.failed)

/-- FINDINGS_QUERY. DESIGN CHOICE: the kinds are CHECKSUM 0, FIELD 1, LICENCE 2, DUP_ID 3, OVERLAP 4 and ANTENNA_CLASH 5, the order of
R56 to R58, since no list gives them all (notes/assumptions/22.md). -/
def State.findingsBody (s : State) (b : Nat) : List Byte :=
  let f := (s.book b).findings
  u8 f.outcome.ctorIdx ++ counted f.list (fun x => u8 x.kind.ctorIdx ++ counted x.ids u16) ++ flag f.more ++ u16 f.total

/-- The record at a storage position, if it can be found: in a load buffer slot, or in the region (R61). -/
def State.recordAt (s : State) (b position : Nat) : Option (List Byte) :=
  let x := s.book b
  if x.storedCount < position then x.buffered[position - x.storedCount - 1]?
  else ((regionRecords s.ss.array b position)[position - 1]?).map fun r => r.2

/-- The page of the region in which a stored record lies. -/
def State.pageOfPosition (s : State) (b position : Nat) : Option Nat :=
  ((regionRecords s.ss.array b position)[position - 1]?).map fun r => r.1

/-! ## Schedule Executor, R97 -/

def targetOctets (t : Target) : List Byte := u8 t.antenna ++ slewOctet t.slew ++ u8 (if t.reversed then 1 else 0)

def CurrentEntry.octets (e : CurrentEntry) : List Byte :=
  u16 e.entryId ++ opt e.day u16 ++ opt e.startAt instantOctets ++ instantOctets e.endAt ++ opt e.antenna u8 ++ flag e.onAlternate ++
  u16 e.freq ++ u16 e.power ++ slewOctet e.slew ++ u8 (if e.reversed then 1 else 0) ++ u8 e.feed

def LastOutcome.octets (o : LastOutcome) : List Byte :=
  u16 o.entryId ++ opt o.day u16 ++ u8 o.kind.ctorIdx ++ opt o.cause (fun c => u8 c.ctorIdx) ++ u32 o.plannedLate ++ u32 o.actualLate ++
  u8 o.flags.toNat ++ opt o.instant instantOctets

def Duty.octets (d : Duty) : List Byte :=
  u8 d.mode.ctorIdx ++ opt d.current CurrentEntry.octets ++ opt d.handledThrough instantOctets ++
  opt d.heldRoute (fun h => u16 h.entryId ++ u16 h.day) ++ opt d.lastOutcome LastOutcome.octets

/-- Every field of R81, in the order of its table; X is an instant, and the moment ROUTING began is given as the ds since it. DESIGN
CHOICE: a cause is numbered by the duty record table of 5.2 (notes/assumptions/30.md). -/
def Changeover.octets (s : State) (c : Changeover) : List Byte :=
  u16 c.entryId ++ u16 c.day ++ targetOctets c.target ++ flag c.substituted ++ u16 c.freq ++ u16 c.power ++ u8 c.feed ++
  u8 c.kind.ctorIdx ++ u8 c.tuneMode.ctorIdx ++ u16 c.leadS ++ instantOctets c.ps ++ instantOctets c.x ++ u32 c.lateness ++
  instantOctets c.s ++ opt c.priorHandled instantOctets ++ opt c.routeStart (fun m => u16 (sinceDs s m)) ++
  opt c.actualOn instantOctets ++ u8 c.flags.toNat ++ u8 c.phase.ctorIdx ++ opt c.cause (fun x => u8 x.ctorIdx)

/-- DUTY_QUERY. -/
def State.dutyBody (s : State) (t : Nat) : List Byte :=
  u8 s.se.state.ctorIdx ++ flag s.se.rebuild ++ (s.duty t).octets ++ opt (s.change t) (Changeover.octets s) ++
  counted (s.se.skip.filter fun i => i.tx == t) (fun i => u16 i.entryId ++ u16 i.day)

/-! ## Matrix Controller, R116, R122 -/

/-- The sensed field, R99: a position, BETWEEN, or CONFLICT; and the position when it is one. -/
def Mover.sensedOctets (x : Mover) : List Byte :=
  match x.contacts with
  | [] => u8 1 ++ opt none Position.code
  | [p] => u8 0 ++ opt (some p) Position.code
  | _ => u8 2 ++ opt none Position.code

/-- Every field of R99. -/
def Mover.octets (s : State) (x : Mover) : List Byte :=
  x.sensedOctets ++ opt x.confirmed Position.code ++ u8 x.phase.ctorIdx ++ opt x.target Position.code ++
  opt x.followOn (fun f => Position.code f.target ++ f.requester.code ++ u8 f.priority ++ u32 f.age) ++
  opt x.fault (fun f => u8 f.ctorIdx) ++ opt x.requester (fun r => r.code ++ u8 x.priority ++ u32 x.age) ++
  opt x.watch (fun w => u16 (sinceDs s w.brokeAt))

/-- The place in the motion queue, from 1; 0 when not queued. -/
def State.queuePlace (s : State) (m : Nat) : Nat :=
  let x := s.mover m
  if x.phase = .queued then (s.moversWhere fun y => y.phase == .queued && y.before x).length + 1 else 0

/-- RUNNING or COMPLETE, and the row of a row survey that is RUNNING. -/
def SurveyState.octets : SurveyState → List Byte
  | .complete => u8 1 ++ opt none u8
  | .running row _ => u8 0 ++ opt row u8

/-- MOVER_QUERY. -/
def State.moverBody (s : State) (m : Nat) : List Byte :=
  let x := s.mover m
  flag (s.present m) ++ Mover.octets s x ++
  u16 (match x.timer with | some d => leftDs s d | none => 0) ++ u16 (s.queuePlace m) ++ flag (s.eligible m) ++
  opt (match kindOf m with
    | .crosspoint t _ => some (s.rowFault t)
    | .park t => some (s.rowFault t)
    | _ => none) (fun f => counted f (fun c => u8 c.ctorIdx)) ++
  s.mc.survey.octets ++ flag s.mc.surveyed

/-- ANTENNA_STATUS. DESIGN CHOICE: the reply holds what R116 lists and no survey state, although 06, "Bringing the matrix into service
after a reset", has software see the survey state there (notes/assumptions/22.md). -/
def State.antennaBody (s : State) (a : Nat) : List Byte :=
  let c := s.claim a
  let rows := s.rowsNotOpen a
  let drive := fun m => opt (if s.present m then some (s.mover m) else none) (Mover.octets s)
  opt c.occupant u8 ++ opt c.reservation u8 ++ flag c.testClaim ++ opt (if 2 ≤ rows.length then some rows else none) (maskOctets 2) ++
  Mover.octets s (s.mover (testSwitch a)) ++ drive (slewDrive a) ++ drive (reverserOf a) ++ u8 (s.faultSet a).toNat

/-! ## Permit Unit, R135 -/

def State.permitRowOctets (s : State) (t : Nat) : List Byte :=
  let p := s.permit t
  u8 (if p.line then 0 else 1) ++ u8 (if p.request then 0 else 1) ++ flag p.cold ++
  u16 (if p.line then 0 else sinceDs s p.offSince) ++ opt p.lastFall (fun f => u8 f.1.ctorIdx ++ u32 f.2) ++ u16 p.drops ++
  flag (s.routeHolds t) ++ flag (s.antennaHolds t) ++ flag (s.safetyHolds t) ++ flag (s.linkHolds t) ++ flag (s.lockoutHolds t)

def State.inputOctets (s : State) (i : SafetyInput) : List Byte :=
  u8 (SafetyKind.code i.kind) ++ u8 (Level.code i.level) ++ maskOctets 2 i.rows ++ u8 i.state.ctorIdx ++ u8 (Level.code i.sensed) ++
  u16 i.activations ++ u16 (match i.window with | some d => d - s.clock | none => 0)

/-- PERMIT_QUERY. -/
def State.permitBody (s : State) : List Byte :=
  (upTo 12).flatMap s.permitRowOctets ++ s.pu.inputs.flatMap s.inputOctets ++
  s.pu.arcHolds.flatMap (fun h => u8 (match h with | some d => leftDs s d | none => 0)) ++ flag s.safetyHalt ++
  u16 s.mc.haltList.length

/-! ## Sequencers, R160 -/

def reportOctets (r : Report) : List Byte :=
  u8 (TxState.code r.txState) ++ u16 r.freq ++ u16 r.pf ++ u16 r.pr ++ u8 r.lastNumber ++ u8 (OrderAnswer.code r.lastAnswer) ++
  u8 r.reason ++ u8 r.tripCode ++ opt r.tune (fun x => u16 x.s1 ++ u16 x.s2 ++ u16 x.s3 ++ u16 x.s4 ++ u16 x.quality)

def OrderRecord.octets (o : OrderRecord) : List Byte :=
  u8 o.kind.index ++ opt o.number u8 ++ u8 o.owner.code ++ u8 o.outcome.code ++
  opt (match o.outcome with | .refused r => some r | _ => none) u8

def LinkCounters.octets (c : LinkCounters) : List Byte := u16 c.good ++ u16 c.crc ++ u16 c.length ++ u16 c.format ++ u16 c.syncs

/-- The recovery notice held in MUTED, or in RECOVERY_WAIT as its restart power, or kept for the drop it answers (R154, R155, R170). -/
def Sequencer.notice (q : Sequencer) : Option Nat :=
  match q.mute.bind fun m => m.notice, q.restart with
  | some p, _ => some p
  | none, some p => some p
  | none, none => q.kept

/-- TX_STATUS. DESIGN CHOICE: the time since the last valid report is 65535 while none has arrived since the reset
(notes/assumptions/33.md). -/
def State.sequencerBody (s : State) (t : Nat) : List Byte :=
  let q := s.seq t
  u8 (s.duty t).mode.ctorIdx ++ u8 q.state.ctorIdx ++ u8 q.tuneMode.ctorIdx ++ opt q.tunedFreq u16 ++
  u16 (match q.timer with | some d => leftDs s d | none => 0) ++
  opt q.mute (fun m => u8 m.origin.ctorIdx ++ flag m.accepted) ++ opt q.notice u16 ++ opt q.faultCause (fun f => u8 f.ctorIdx) ++
  u8 q.link.ctorIdx ++ u16 (match q.report with | some h => sinceDs s h.arrived | none => 65535) ++
  opt q.report (fun h => reportOctets h.report) ++ flag (q.report.isSome && s.stale t) ++ u8 q.counter ++
  opt q.outstanding (fun o => u8 o.order.kind.index ++ u8 o.number ++ u8 o.owner.code ++
    u8 (leftDs s (o.sentAt + 100 * s.params.orderDs))) ++
  counted q.queue (fun x => u8 x.order.kind.index) ++ counted q.deferred (fun x => u8 x.order.kind.index) ++
  opt q.lastOrder OrderRecord.octets ++ flag q.feedback.isSome ++ q.counters.octets

/-! ## Protection Unit, R175 -/

def State.arcOctets (s : State) (a : Nat) : List Byte :=
  let r := s.arcRecord a
  u16 r.count ++ opt r.history[0]? u32 ++ opt r.history[1]? u32

/-- DESIGN CHOICE: while q is unknown the time is that since the last evaluation, and 65535 when none was made since the reset
(notes/assumptions/33.md). -/
def State.protectionOctets (s : State) (t : Nat) : List Byte :=
  let x := s.prot t
  opt x.limit u16 ++ u16 x.floor ++ u16 x.commanded ++ u16 x.working ++ u16 x.restart ++ opt x.ratio u16 ++
  u16 (match x.evaluatedAt with | some m => sinceDs s m | none => 65535) ++ flag x.warn ++ flag x.folded ++ flag x.lockout ++
  opt x.lastFold (fun m => u16 (sinceDs s m)) ++ opt x.restoreRun (fun m => u16 (sinceDs s m)) ++ counted x.history u32 ++
  opt x.lastTrip (fun l => u8 l.cause.ctorIdx ++ u8 l.code ++ u32 l.elapsed ++ flag l.counted ++ u8 l.outcome.ctorIdx) ++
  u16 x.counted ++ u16 x.uncounted

/-- PROT_QUERY. -/
def State.protectionBody (s : State) (t : Nat) : List Byte :=
  ProtSettings.octets s.pt.settings ++ (upTo 24).flatMap s.arcOctets ++ (if t = 0 then [] else s.protectionOctets t)

/-! ## Preset Cache, R186, R187 -/

/-- How a save or restore has ended. DESIGN CHOICE: one set of numbers serves both, since no list gives the values of either together
(notes/assumptions/22.md). -/
def CopyEnd.code : CopyEnd → Nat
  | .done => 0 | .failed _ => 1 | .frozen => 2 | .reset => 3

/-- The page whose failure ended it. -/
def CopyEnd.failedPage : CopyEnd → Option Nat
  | .failed page => some page
  | .done => none
  | .frozen => none
  | .reset => none

/-- The outcome, the page of a FAILED one, and the pages done. -/
def copyEndOctets (outcome : CopyEnd) (pages : Nat) : List Byte := u8 outcome.code ++ opt outcome.failedPage u8 ++ u8 pages

/-- IDLE, or IN_PROGRESS with the next page. -/
def copyStateOctets (next : Option Nat) : List Byte := u8 (if next.isSome then 1 else 0) ++ opt next u8

def ErrorLatch.octets (l : ErrorLatch) : List Byte :=
  u8 l.kind.ctorIdx ++ u8 l.tx ++ u8 l.setNo ++ u8 l.way ++ u8 l.source.ctorIdx ++ u32 l.elapsed

def RestoreCounts.octets (c : RestoreCounts) : List Byte :=
  u16 c.blank ++ u16 c.invalid ++ u16 c.bad ++ u16 c.windowed ++ u16 c.present ++ u16 c.full ++ u16 c.installed

/-- PRESET_ERROR. DESIGN CHOICE: the next page of a save whose page 95 has been offered is 96 (notes/assumptions/22.md). -/
def State.presetErrorBody (s : State) : List Byte :=
  let c := s.pc
  opt c.latch ErrorLatch.octets ++ flag c.more ++ u16 c.corrected ++ u16 c.double ++ u16 c.duplicate ++
  u8 (if c.frozen then 0 else 1) ++ u8 c.scrubTx ++ u8 c.scrubSet ++ u8 c.scrubWay ++
  copyStateOctets (c.save.map fun r => r.next) ++ opt c.lastSave (fun o => copyEndOctets o.outcome o.pages) ++
  copyStateOctets (c.restore.map fun r => r.next) ++
  opt c.lastRestore (fun o => copyEndOctets o.outcome o.pages ++ o.counts.octets)

/-- NONE, GOOD, CORRECTED, DOUBLE. -/
inductive ReadOutcome where
  | none | good | corrected | double
deriving DecidableEq, Repr

/-- PRESET_READ, after its check. -/
def presetBody (r : PresetRecord) (outcome : ReadOutcome) (lru : Nat) : List Byte :=
  flag r.valid ++
  opt (if r.valid then some r else none)
    (fun r => u8 r.antenna ++ u16 r.channel ++ u16 r.s1 ++ u16 r.s2 ++ u16 r.s3 ++ u16 r.s4 ++ u16 r.quality) ++
  u8 outcome.ctorIdx ++ u8 lru

/-! ## Line Diagnostics, R204 -/

def StepResult.octets (r : StepResult) : List Byte := u8 r.ctorIdx

/-- An antenna of the plan, as R204 lists it. DESIGN CHOICE: the cause DRIVE of an ABORTED one (R200) is held in the state and not
given (notes/assumptions/34.md). -/
def PlanEntry.octets (e : PlanEntry) : List Byte :=
  u8 e.antenna ++ u8 e.outcome.ctorIdx ++ u8 e.flags.toNat ++ opt e.insul StepResult.octets ++
  opt e.loop StepResult.octets ++ opt e.cross StepResult.octets ++ opt e.matching StepResult.octets ++
  counted e.neighbours (fun n => u8 n.1 ++ u8 n.2.ctorIdx) ++ opt e.ratio u16

/-- The kind of a bus order and the antenna it names, none for the self-check. -/
def BusOrder.octets : BusOrder → List Byte
  | .selfCheck => u8 0 ++ opt none u8
  | .insul a => u8 1 ++ opt (some a) u8
  | .loop a => u8 2 ++ opt (some a) u8
  | .cross a _ => u8 3 ++ opt (some a) u8
  | .matching a _ => u8 4 ++ opt (some a) u8

/-- The phases of R200 as DIAG_QUERY gives them: admission, claim, connect, steps, disconnect. A run that waits for the bus or makes
its self-check has its first antenna before admission; one that has yielded is between steps. -/
def RunPhase.code : RunPhase → Nat
  | .waitBus => 0 | .selfCheck => 0 | .nextAntenna => 1 | .connecting => 2 | .measuring => 3 | .yielding => 3 | .yielded => 3
  | .disconnecting => 4

/-- The next step of the current antenna, the present one while it is measured; none once its steps are over. -/
def State.nextRunStep (s : State) (p : RunPosition) : Option DiagStep :=
  if p.phase = .disconnecting then none else ((s.planAt p.index).begin s.ld.steps).nextStep

/-- DIAG_QUERY. -/
def State.diagBody (s : State) : List Byte :=
  let d := s.ld
  u8 d.run.ctorIdx ++ u8 d.steps.toNat ++ opt d.outcome (fun o => u8 o.ctorIdx) ++ counted d.plan PlanEntry.octets ++
  opt (if d.run = .active then d.position else none)
    (fun p => u8 (s.planAt p.index).antenna ++ u8 (RunPhase.code p.phase) ++ opt (s.nextRunStep p) (fun d => u8 d.ctorIdx)) ++
  u8 d.bus.ctorIdx ++ opt d.measurement (fun m => m.order.octets ++ u8 m.tag ++ u8 (leftDs s (m.sentAt + 10000))) ++
  opt d.busFault (fun f => u8 f.1.ctorIdx ++ u32 f.2) ++
  opt d.preUse (fun u => u8 u.tx ++ u8 u.antenna ++ u8 u.phase.ctorIdx) ++ counted d.preUseQueue (fun q => u8 q.1 ++ u8 q.2) ++
  (upTo 24).flatMap fun a => u8 (s.faultSet a).toNat ++ opt (s.lastChecked a) u16

/-! ## Link Controller, R210 -/

/-- IDENT: vendor, part, revision letter, the capacities, the link rate. -/
def State.identBody (s : State) : List Byte :=
  u16 0x0491 ++ u16 0x0640 ++ u8 0x43 ++ u8 12 ++ u8 24 ++ u16 372 ++ u8 2 ++ u16 2048 ++ u8 32 ++ u8 8 ++ u8 16 ++ u8 s.lc.rate

/-- ALERT_QUERY. -/
def State.alertBody (s : State) : List Byte :=
  u16 s.lc.alerts.toNat ++ u16 s.lc.mask.toNat ++ flag s.alertLine ++ u16 s.lc.counters.crc ++ u16 s.lc.counters.timeout ++
  u16 s.lc.counters.overflow ++ u16 s.lc.counters.stopBit

end Sys2Proof.Machine
end

