-- ==== Sys2Proof/Machine/Engine.lean ====
section
/-! DEFINITION. How one command is carried to its end: blocks hand their notices over in the order in which they were posted
(notes/assumptions/9.md), and the Link Controller takes requests one at a time (R207, R208). -/

namespace Sys2Proof.Machine

open Sys2Proof

/-! ## Reads of the store that a host request waits for, R39, R43, R61, R190 -/

/-- A STORE_READ is served: its reply carries the octets as they stand. -/
def State.hostReadServed (s : State) (address length : Nat) : State :=
  s.answer 0x28 .ok (memReadAll s.ss.array address length)

/-- An ENTRY_READ is served; a record that cannot be found in the region is UNAVAILABLE (notes/assumptions/23.md). -/
def State.entryReadServed (s : State) (b position : Nat) : State :=
  match s.recordAt b position with
  | some r => s.answer 0x36 .ok r
  | none => s.answer 0x36 .unavailable []

/-- The blank test of a PRESET_SAVE asks for its read of a sector (R32, R190). -/
def State.readSaveSector (s : State) (sector : Nat) : State := s.requestRead (.presetSave sector) (sector * 4096) 4096

/-- A sector of the blank test of a PRESET_SAVE is served: the save is refused, the next sector is read, or, after the last, the save
starts and offers page 0 (R190). -/
def State.presetSaveServed (s : State) (sector : Nat) : State :=
  if !memBlank s.ss.array (sector * 4096) 4096 then s.answer 0x75 .notBlank []
  else if sector < 79 then s.readSaveSector (sector + 1)
  else (State.offerPages 97 { s with pc := { s.pc with save := some { next := 0, done := 0 } } }).answer 0x75 .ok []

/-- Hands a served read to its reader; a host reader has its reply held (R39). -/
def State.readerServed (s : State) (r : Reader) : State :=
  match r with
  | .verifier => s.verifierServed
  | .restorePage => s.restoreServed
  | .hostRead address length => if s.lc.held.isSome then s.hostReadServed address length else s
  | .entryRead b position => if s.lc.held.isSome then s.entryReadServed b position else s
  | .presetSave sector => if s.lc.held.isSome then s.presetSaveServed sector else s
  | .executor => s.executorServed
  | .occurrenceSkip t entryId day => if s.lc.held.isSome then s.occurrenceSkipServed t entryId day else s

/-- Hands the end of an internal work item to its client (R41). -/
def State.clientTold (s : State) (kind : ItemKind) (failure : Option FailCause) : State :=
  match kind with
  | .stateMark b m due => s.markEnded b m due failure
  | .loadPage b slot => s.loadPageEnded b slot failure
  | .bookErase b => s.bookEraseEnded b failure
  | .configWrite => s
  | .licenceWrite => s
  | .lockMark => s
  | .presetPage page last => s.savePageEnded page last failure

/-! ## Notices -/

/-- The executor looks at every transmitter again. -/
def State.askExecutor (s : State) : State := (upTo 12).foldl (fun s t => s.postOnce (.executor t)) s

/-- A grant of a reservation on an occupied antenna: the held route on it is given up (R93, R114), under a watch too, since the row
stays the antenna's occupant then (R113). -/
def State.reservationNotice (s : State) (a t : Nat) : State :=
  (upTo 12).foldl (fun s r => if r != t && s.standsClosed (crosspoint r a) then s.releaseHeld r else s) s

/-- What a notice does to the block it is handed to. -/
def State.handleNotice (s : State) (n : Notice) : State :=
  match n with
  | .secondEvent i x => s.secondEvent i x
  | .executorPass i => s.executorPass i true
  | .handover i _ => s.handoverNotice i
  | .matrix => s.matrixChanged
  | .permits => s.permitsChanged
  | .arbiter => s.arbitrate
  | .drop r c => s.dropNotice r c
  | .arc a o => s.arcCounted a o
  | .rise r => s.trySend r
  | .flagSet _ _ => s.askExecutor
  | .rowFault _ => s.askExecutor
  | .reserved a t => s.reservationNotice a t
  | .claimWithdrawn a => s.claimLost a
  | .motionFault _ _ => s.postOnce .diag
  | .survey => s.surveyProgress
  | .sequencer t => s.postOnce (.executor t)
  | .orderEnded t kind owner e => s.orderOutcome t kind owner e
  | .recovery t => s.recoveryWaitTest t
  | .executor t => s.executorProgress t
  | .preUse t a passed => s.preUseOutcome t a passed
  | .diag => s.diagProgress
  | .itemEnded kind failure => s.clientTold kind failure
  | .offersAgain => s.offerAgain
  | .served r => s.readerServed r
  | .resumed => s.resume

/-- Hands over the oldest notice again and again until none is left. The first argument bounds the hand-overs of one command. -/
def State.settle : Nat → State → State
  | 0, s => s
  | n + 1, s =>
    match s.notices with
    | [] => s
    | x :: rest => State.settle n (State.handleNotice { s with notices := rest } x)

/-- The bound on the hand-overs of one command (notes/assumptions/9.md). -/
def settleFuel : Nat := 10000

/-- A command's own effect, and what follows from it in the other blocks. -/
def State.settled (s : State) : State := State.settle settleFuel s

/-! ## Requests and the receive buffer, R207, R208 -/

/-- Frames in the receive buffer: the one being handled and those that wait. -/
def State.framesHeld (s : State) : Nat := (if s.lc.held.isSome then 1 else 0) + s.lc.waiting.length

/-- A complete frame that cannot be handled at once: it waits, or is an overflow (R207). The receiver is in HUNT again. -/
def State.frameArrives (s : State) (f : WaitingFrame) : State :=
  if s.framesHeld < 2 then { s with lc := { s.lc with receiver := .hunt, waiting := s.lc.waiting ++ [f] } }
  else
    State.alert { s with lc := { s.lc with receiver := .hunt, counters := { s.lc.counters with
      overflow := satSucc 65535 s.lc.counters.overflow } } } .linkErr

/-- A request frame is complete. It is handled by `h` when nothing is being handled and nothing waits, or when it is the frame that
has come to the head of the buffer; otherwise it waits (notes/assumptions/3.md). -/
def hostRequest (c : Instr) (h : State → State) (s : State) : Host.Outcome State Fault Refusal :=
  if s.lc.serving then .next (h { s with lc := { s.lc with serving := false } })
  else if s.lc.held.isNone && s.lc.waiting.isEmpty then .next (h { s with lc := { s.lc with receiver := .hunt } })
  else .next (s.frameArrives (.request c))

/-- A request is checked and, if no check fails, carried out to its end. -/
def State.request (s : State) (kind : Nat) (checks : List (Bool × Status)) (accept : State → State) : State :=
  s.handle kind checks fun s => (accept s).settled

/-- A request that only reports: its body is sent and nothing else changes. -/
def State.report (s : State) (kind : Nat) (checks : List (Bool × Status)) (body : List Byte) : State :=
  s.handle kind checks fun s => s.answer kind .ok body

end Sys2Proof.Machine
end

