-- ==== Sys2Proof/Machine/Reset.lean ====
section
/-! DEFINITION. What a change of the hall tables brings with it (R4, R14, R98, R139, R185, R194), and the two resets block by
block (R16, R17, R29, R47, R48, R66, R123, R136, R161, R176, R193, R205, R211). -/

namespace Sys2Proof.Machine

open Sys2Proof

/-! ## Links and reports measured against the parameters, R139, R141 -/

/-- The moment at which tx_link_ds has passed since the last valid report. -/
def State.linkDeadline (s : State) (t : Nat) : Nat :=
  (match (s.seq t).report with | some h => h.arrived | none => s.clock) + s.params.txLinkDs * 100

/-- The link of a transmitter becomes LOST (R139, R158). -/
def State.linkBecomesLost (s : State) (t : Nat) : State :=
  (((s.setSeq t { s.seq t with link := .lost }).alert .txLink).linkLossAt t).postOnce .permits

/-- A link whose time has passed under the parameters in force is LOST at once. -/
def State.checkLink (s : State) (t : Nat) : State :=
  if (s.seq t).link = .up ∧ s.linkDeadline t ≤ s.clock then s.linkBecomesLost t else s

/-- A held report that is stale ends the restore run (R164). -/
def State.checkStale (s : State) (t : Nat) : State :=
  if s.stale t then s.setProt t { s.prot t with restoreRun := none } else s

/-! ## A change of the hall tables -/

/-- The numbers between two counts: the slots that leave or enter. -/
def slotsBetween (a b : Nat) : List Nat := (upTo (max a b)).filter fun t => decide (min a b < t)

/-- A transmitter slot that leaves or enters tx_count (R4); its reservation and its pre-use request go with its changeover
(notes/assumptions/24.md). -/
def State.resetSlot (s : State) (t : Nat) : State :=
  let s := match s.change t with
    | some c => (s.releaseReservation t c.target.antenna).withdrawPreUse t
    | none => s
  let s := (s.setDuty t Duty.reset).setChange t none
  (s.setProt t (Protection.reset 0 0)).setSeq t (Sequencer.reset LinkCounters.zero)

/-- An antenna above ant_count: no fault set and no last_checked_day (R194). -/
def State.forgetAntenna (s : State) (a : Nat) : State := (s.setFaultSet a 0).setLastChecked a none

/-- A record without the neighbours above the count. -/
def AntRecord.within (r : AntRecord) (count : Nat) : AntRecord := { r with neighbours := r.neighbours.filter fun b => decide (b ≤ count) }

/-- Items above a count become undefined. -/
def cutAbove {α : Type} (count : Nat) (xs : List (Option α)) : List (Option α) :=
  (xs.zipIdx).map fun p => if p.2 < count then p.1 else none

/-- A new parameter set takes the place of the old: slots above the counts lose their records, neighbour lists the numbers above
ant_count (R4). -/
def HallTables.withParams (h : HallTables) (p : HallParams) : HallTables :=
  { h with params := p, txs := cutAbove p.txCount h.txs,
           ants := (cutAbove p.antCount h.ants).map (Option.map fun r => r.within p.antCount) }

/-- What follows when the tables have changed from those of `before`. -/
def State.tablesChanged (s before : State) : State :=
  let s := (slotsBetween before.params.txCount s.params.txCount).foldl (fun s t => s.resetSlot t) s
  let s := ((upTo 24).filter fun a => decide (s.params.antCount < a)).foldl (fun s a => s.forgetAntenna a) s
  let s := s.presenceChanged before
  let s := (upTo 12).foldl (fun s t => (s.checkLink t).checkStale t) s
  let s := if before.params.scrubMs = 0 && s.pc.scrubAt.isNone then s.nextScrub else s
  (s.postOnce .permits).postOnce .arbiter

/-! ## The configuration record applied, R14, R16 -/

/-- The tables and settings of the record. -/
def State.withConfig (s : State) (c : ConfigRecord) : State :=
  { s with ht := HallTables.withParams { s.ht with txs := c.txs, ants := c.ants, configSource := .loaded } c.params
           pt := { s.pt with settings := c.settings } }

/-- The definition of an input differs from the record's. -/
def SafetyInput.differs (i : SafetyInput) (d : SafetyDef) : Bool := i.kind != d.kind || i.level != d.level || i.rows != d.rows

/-- The inputs the record defines anew, numbered from 1. -/
def State.inputsDiffering (s : State) (c : ConfigRecord) : List (Nat × SafetyDef) :=
  ((c.inputs.zipIdx).map fun p => (p.2 + 1, p.1)).filter fun p => (s.input p.1).differs p.2

/-- Every defined antenna gains UNCHECKED (R3, R14). -/
def State.uncheckAll (s : State) : State := (upTo 24).foldl (fun s a => s.addFault a .unchecked) s

/-- CONFIG_LOAD applies the record whole. -/
def State.applyConfig (s : State) (c : ConfigRecord) : State :=
  let u := s.withConfig c
  let u := (s.inputsDiffering c).foldl (fun u p => u.defineInput p.1 p.2.kind p.2.level p.2.rows) u
  let u := ((c.windows.zipIdx).map fun p => (p.2 + 1, p.1)).foldl (fun u p => u.setWindow p.1 p.2) u
  u.uncheckAll.tablesChanged s

/-! ## Cold reset -/

/-- An input under its default definition, its pin as it stands. -/
def SafetyInput.defaults (i : SafetyInput) : SafetyInput :=
  { kind := .note, level := .low, rows := [], state := .active, sensed := i.sensed, activations := 0, window := none }

/-- The configuration read at cold reset (R16): no block is told of it, and no alert is set. -/
def State.loadConfig (s : State) : State :=
  match readConfig s.ss.array with
  | (_, some c) =>
    let u := s.withConfig c
    { u with
      pu := { u.pu with inputs := List.zipWith (fun (i : SafetyInput) (d : SafetyDef) =>
        { i with kind := d.kind, level := d.level, rows := d.rows }) u.pu.inputs c.inputs }
      pc := { u.pc with windows := c.windows }
      ld := { u.ld with faults := u.ht.ants.map fun r => if r.isSome then FaultFlag.unchecked.mask else 0 } }
  | (source, none) => { s with ht := { s.ht with configSource := source } }

/-- The licence and the lock read at cold reset (R16). -/
def State.loadLicence (s : State) : State :=
  let r := readLicence s.ss.array
  { s with ht := { s.ht with licence := r.2, licenceSource := r.1, locked := readLock s.ss.array } }

/-- The inputs are judged as at the end of a reset, and the alert for those still ACTIVE is armed (R136). -/
def State.restartInputs (s : State) : State :=
  let s := s.resetInputs
  { s with pu := { s.pu with resetAlertAt := some (s.clock + s.contactMs) } }

/-- Every block at its cold-reset values over the pins and the array as they stand; the rate is the one that the straps' value numbers
(notes/assumptions/6.md). -/
def State.coldBlocks (s : State) : State :=
  { pending := s.pending, clock := s.clock, notices := [], freeCount := s.freeCount, straps := s.straps, ht := HallTables.reset,
    tb := TimeBase.reset s.clock, ss := Store.reset s.ss.array, sb := SeasonBooks.reset, se := Executor.reset,
    mc := { Matrix.reset with movers := s.mc.movers.map fun x => Mover.reset x.contacts },
    pu := { rows := List.replicate 12 (PermitRow.reset s.clock), inputs := s.pu.inputs.map SafetyInput.defaults,
            arcHolds := List.replicate 24 none, resetAlertAt := none },
    tq := List.replicate 12 (Sequencer.reset LinkCounters.zero), pt := ProtectionUnit.reset, pc := PresetCache.reset none,
    ld := Diagnostics.reset, lc := LinkController.reset s.straps }

/-- Cold reset: the block values, the two loads, the first scrub interval, the survey and the scan. -/
def State.coldReset (s : State) : State :=
  ((s.cutShort.coldBlocks.loadConfig.loadLicence.restartInputs.nextScrub).resetMatrix).startScan

/-! ## RESTART -/

/-- R48. -/
def Store.restart (x : Store) : Store :=
  { Store.reset x.array with lastFailure := x.lastFailure, failedSectors := x.failedSectors, suspensions := x.suspensions }

/-- R205. -/
def Diagnostics.restart (d : Diagnostics) : Diagnostics :=
  { d with run := .idle, outcome := if d.run = .idle then d.outcome else some .reset, position := none, closedSwitch := none,
           bus := .free, measurement := none, preUseQueue := [], preUse := none }

/-- R176. -/
def ProtectionUnit.restart (p : ProtectionUnit) : ProtectionUnit :=
  { p with txs := p.txs.map fun x => Protection.reset x.counted x.uncounted, arcs := p.arcs.map fun r => { r with history := [] } }

/-- R211: the receiver in HUNT, the buffer empty, the alert flags clear; the rate, the mask and the counters kept. -/
def LinkController.restart (l : LinkController) : LinkController :=
  { l with receiver := .hunt, held := none, waiting := [], serving := false, alerts := 0 }

/-- Every block as its chapter gives at RESTART, but for the inputs, the survey and the scan. -/
def State.restartBlocks (s : State) : State :=
  { s with notices := [], ht := { s.ht with staging := none }, ss := s.ss.restart, se := Executor.reset,
           pu := { s.pu with rows := List.replicate 12 (PermitRow.reset s.clock), arcHolds := List.replicate 24 none },
           tq := s.tq.map fun q => Sequencer.reset q.counters, pt := s.pt.restart, ld := s.ld.restart, lc := s.lc.restart }

/-- RESTART takes effect. -/
def State.restart (s : State) : State :=
  ((((s.endSave .reset).endRestore .reset).cutShort.restartBlocks.restartInputs).resetMatrix).startScan

end Sys2Proof.Machine
end

