-- ==== Sys2Proof/Machine/LinkCmds.lean ====
section
/-! DEFINITION. The meanings of cold reset, RESTART, the link messages and the events of the host receiver (R206 to R212). -/

namespace Sys2Proof.Machine

open Sys2Proof

/-- COLD_RESET, R16. -/
def execColdReset (s : State) : Host.Outcome State Fault Refusal := .next s.coldReset.settled

/-- RESTART, R211: the reply goes out before the restart takes effect. -/
def execRestart (s : State) : Host.Outcome State Fault Refusal :=
  hostRequest .restart (fun s => ((s.answer 0x06 .ok []).restart).settled) s

/-- ECHO, R210. -/
def execEcho (data : List Byte) (s : State) : Host.Outcome State Fault Refusal :=
  hostRequest (.echo data) (fun s => s.report 0x01 [(!within 1 240 data.length, .range)] data) s

/-- IDENT, R210. -/
def execIdent (s : State) : Host.Outcome State Fault Refusal := hostRequest .ident (fun s => s.report 0x02 [] s.identBody) s

/-- ALERT_QUERY, R210. -/
def execAlertQuery (s : State) : Host.Outcome State Fault Refusal := hostRequest .alertQuery (fun s => s.report 0x03 [] s.alertBody) s

/-- The flags named leave the alert flags. -/
def State.clearAlerts (s : State) (flags : Nat) : State :=
  { s with lc := { s.lc with alerts := s.lc.alerts &&& ~~~ BitVec.ofNat 16 flags } }

/-- ALERT_CLEAR, R210. -/
def execAlertClear (flags : Nat) (s : State) : Host.Outcome State Fault Refusal :=
  hostRequest (.alertClear flags) (fun s => s.handle 0x04 [(decide (65535 < flags), .range)] fun s =>
    (s.clearAlerts flags).answer 0x04 .ok (u16 (s.clearAlerts flags).lc.alerts.toNat)) s

/-- ALERT_MASK, R210. -/
def execAlertMask (mask : Nat) (s : State) : Host.Outcome State Fault Refusal :=
  hostRequest (.alertMask mask) (fun s => s.handle 0x05 [(decide (65535 < mask), .range)] fun s =>
    State.answer { s with lc := { s.lc with mask := BitVec.ofNat 16 mask } } 0x05 .ok []) s

/-- UNKNOWN_KIND_REQUEST, R208. -/
def execUnknownKindRequest (kind : Nat) (s : State) : Host.Outcome State Fault Refusal :=
  hostRequest (.unknownKindRequest kind) (fun s => s.answer kind .unknownKind []) s

/-! ## The receiver, R206 -/

/-- Why the receiver discards a frame before it is complete. -/
inductive FrameDiscard where
  | badLength | badCrc | badStopBit | timeout
deriving DecidableEq, Repr

/-- What the receiver makes of one octet. -/
inductive HostEvent where
  | none | passedOver
  | discard (cause : FrameDiscard)
  | frame (kind : Nat) (body : List Byte)
deriving DecidableEq, Repr

/-- The last CRC octet has come: the CRC-16 over LEN, kind and body is checked. The octets begin with the start octet. -/
def checkHostFrame (octets : List Byte) : HostEvent :=
  let covered := (octets.take (octets.length - 2)).drop 1
  if (crc16 covered).toNat ≠ wordAt octets (octets.length - 2) then .discard .badCrc
  else .frame (octetAt covered 1) (covered.drop 2)

/-- One octet comes in at the moment `now`; `deadline` is the end of a receive timer that starts now. -/
def HostReceiver.take (x : HostReceiver) (now : Nat) (deadline : Option Nat) (o : LineOctet) : HostReceiver × HostEvent :=
  match x, o with
  | .hunt, .value b => (if b = 0x5A then .taking [b] now deadline else .hunt, .none)
  | .hunt, .badStopBit => (.hunt, .passedOver)
  | .taking _ _ _, .badStopBit => (.hunt, .discard .badStopBit)
  | .taking octets startedAt timer, .value b =>
    let taken := octets ++ [b]
    if taken.length = 2 ∧ (b = 0 ∨ 250 < b.toNat) then (.hunt, .discard .badLength)
    else if octetAt taken 1 + 4 ≤ taken.length then (.hunt, checkHostFrame taken)
    else (.taking taken startedAt timer, .none)

/-- The counter a discarded frame raises: a bad LEN counts as a CRC discard. -/
def HostCounters.discard (c : HostCounters) (cause : FrameDiscard) : HostCounters :=
  match cause with
  | .badLength => { c with crc := satSucc 65535 c.crc }
  | .badCrc => { c with crc := satSucc 65535 c.crc }
  | .badStopBit => { c with stopBit := satSucc 65535 c.stopBit }
  | .timeout => { c with timeout := satSucc 65535 c.timeout }

/-- A frame is discarded: no reply, the counter, LINK_ERR, and the receiver in HUNT. -/
def State.discardFrame (s : State) (cause : FrameDiscard) : State :=
  State.alert { s with lc := { s.lc with receiver := .hunt, counters := s.lc.counters.discard cause } } .linkErr

/-- The end of a receive timer that starts now; with host_timeout_ms 0 there is none. -/
def State.receiveDeadline (s : State) : Option Nat :=
  if s.params.hostTimeoutMs = 0 then none else some (s.clock + s.params.hostTimeoutMs)

/-- The frame of a kind and body: the request it spells, or the refusal its form earns (R208). -/
def waitingFrame (kind : Nat) (body : List Byte) : WaitingFrame :=
  match decodeRequest kind body with
  | .ok c => .request c
  | .error status => .malformed kind status

/-- What follows from an octet that leaves the receiver in `x`; a complete frame is offered to the receive buffer (R207). -/
def State.hostEvent (s : State) (x : HostReceiver) : HostEvent → State
  | .none => { s with lc := { s.lc with receiver := x } }
  | .passedOver => { s with lc := { s.lc with counters := s.lc.counters.discard .badStopBit } }
  | .discard cause => s.discardFrame cause
  | .frame kind body => s.frameArrives (waitingFrame kind body)

/-- The receiver takes one octet of the link. -/
def State.takeHostOctet (s : State) (o : LineOctet) : State :=
  let r := s.lc.receiver.take s.clock s.receiveDeadline o
  s.hostEvent r.1 r.2

/-- HOST_FRAME_DISCARD, R206: the octets that come in and end in a discarded frame, taken one by one (notes/assumptions/3.md). -/
def execHostFrameDiscard (octets : List LineOctet) (s : State) : Host.Outcome State Fault Refusal :=
  .next (octets.foldl State.takeHostOctet s)

/-- HOST_RECEIVE_TIMEOUT, R206: the receive timer of a frame expires before its last octet. -/
def execHostReceiveTimeout (s : State) : Host.Outcome State Fault Refusal :=
  match s.lc.receiver with
  | .taking _ _ (some deadline) => .next ((s.reach deadline).discardFrame .timeout)
  | _ => .next s

/-- HOST_FRAME_QUEUED, R207: a complete frame waits in the buffer as the request it spells, or is an overflow. -/
def execHostFrameQueued (kind : Nat) (body : List Byte) (s : State) : Host.Outcome State Fault Refusal :=
  .next (s.frameArrives (waitingFrame kind body))

/-- HOST_START_OCTET, R206: in TAKING the octet is one of the frame's (notes/assumptions/3.md). -/
def execHostStartOctet (s : State) : Host.Outcome State Fault Refusal := .next (s.takeHostOctet (.value 0x5A))

/-- HUNT_STOP_BIT_ERROR, R206: in HUNT it is counted, and no flag is set; in TAKING it ends the frame (notes/assumptions/3.md). -/
def execHuntStopBitError (s : State) : Host.Outcome State Fault Refusal := .next (s.takeHostOctet .badStopBit)

end Sys2Proof.Machine
end

