-- ==== Sys2Proof/Machine/HallCmds.lean ====
section
/-! DEFINITION. The meanings of the hall and licence requests, chapter 1. -/

namespace Sys2Proof.Machine

open Sys2Proof

/-! ## Hall parameters, R4 -/

/-- A defined transmitter above the new count whose sequencer is neither OFF nor UNKNOWN. -/
def State.txInUse (s : State) (count : Nat) : Bool :=
  (upTo 12).any fun t => decide (count < t) && (s.tx t).isSome && (s.seq t).state != .off && (s.seq t).state != .unknown

/-- The antenna has an occupant, a reservation or a test claim. -/
def State.antInUse (s : State) (a : Nat) : Bool :=
  (s.claim a).occupant.isSome || (s.claim a).reservation.isSome || (s.claim a).testClaim

def State.hallChecks (s : State) (p : HallParams) : List (Bool × Status) :=
  [(!HallParams.inRange p, .range), (s.se.state != .stopped, .state),
   (decide (p.txCount < s.params.txCount) && s.txInUse p.txCount, .state),
   (decide (p.antCount < s.params.antCount) && (upTo 24).any (fun a => decide (p.antCount < a) && s.antInUse a), .state)]

def State.setHall (s : State) (p : HallParams) : State :=
  State.tablesChanged { s with ht := s.ht.withParams p } s

/-- HALL_SET, R4. -/
def execHallSet (params : HallParams) (s : State) : Host.Outcome State Fault Refusal :=
  hostRequest (.hallSet params) (fun s => s.request 0x10 (s.hallChecks params) fun s => (s.setHall params).answer 0x10 .ok []) s

/-- HALL_QUERY, R6. -/
def execHallQuery (s : State) : Host.Outcome State Fault Refusal :=
  hostRequest .hallQuery (fun s => s.report 0x11 [] s.hallBody) s

/-! ## Transmitters and antennas, R1 to R3, R6 -/

def State.txDefineChecks (s : State) (t : Nat) (f : TxFields) : List (Bool × Status) :=
  [(s.badTx t || !TxFields.inRange f, .range),
   ((s.duty t).mode != .manual || ((s.seq t).state != .off && (s.seq t).state != .unknown), .state)]

def State.setTx (s : State) (t : Nat) (r : TxRecord) : State := { s with ht := { s.ht with txs := setNth s.ht.txs t (some r) } }

/-- TX_DEFINE, R1: the record replaces the slot's as a whole, and nothing else changes. -/
def execTxDefine (tx : Nat) (fields : TxFields) (s : State) : Host.Outcome State Fault Refusal :=
  hostRequest (.txDefine tx fields) (fun s => s.handle 0x12 (s.txDefineChecks tx fields) fun s =>
    (s.setTx tx (TxFields.record fields)).answer 0x12 .ok []) s

/-- TX_QUERY, R6. -/
def execTxQuery (tx : Nat) (s : State) : Host.Outcome State Fault Refusal :=
  hostRequest (.txQuery tx) (fun s => s.report 0x13 [(s.badTx tx, .range)] (opt (s.tx tx) TxRecord.octets)) s

def State.antDefineChecks (s : State) (a : Nat) (f : AntFields) : List (Bool × Status) :=
  [(s.badAnt a || !AntFields.inRange f a s.params.antCount, .range), (s.antInUse a, .state)]

/-- The record replaces the slot's, the antenna gains UNCHECKED, and its drives may come or go (R2, R3, R98). -/
def State.setAnt (s : State) (a : Nat) (r : AntRecord) : State :=
  let u : State := { s with ht := { s.ht with ants := setNth s.ht.ants a (some r) } }
  ((u.addFault a .unchecked).presenceChanged s).postOnce .permits

/-- ANT_DEFINE, R2, R3. -/
def execAntDefine (ant : Nat) (fields : AntFields) (s : State) : Host.Outcome State Fault Refusal :=
  hostRequest (.antDefine ant fields) (fun s => s.request 0x14 (s.antDefineChecks ant fields) fun s =>
    (s.setAnt ant (AntFields.record fields)).answer 0x14 .ok []) s

/-- ANT_QUERY, R6. -/
def execAntQuery (ant : Nat) (s : State) : Host.Outcome State Fault Refusal :=
  hostRequest (.antQuery ant) (fun s => s.report 0x15 [(s.badAnt ant, .range)] (opt (s.ant ant) AntRecord.octets)) s

/-! ## The licence, R9 to R12 -/

/-- The last line of the part, counted from 1. -/
def lastLine (first count : Nat) : Nat := first + count - 1

/-- The part does not follow on the staging (R9, third case). -/
def State.outOfStep (s : State) (first total : Nat) : Bool :=
  first != 1 && (match s.ht.staging with
    | none => true
    | some x => x.total != total || first != x.lines.length + 1)

def State.licenceRange (s : State) (first total final : Nat) (lines : List LicenceLine) : Bool :=
  lines.any (fun l => !LicenceLine.inRange l) || decide (32 < total) || decide (20 < lines.length) || !yesNo final ||
  s.outOfStep first total || decide (total < lastLine first lines.length) ||
  (final == 0 && (lines.isEmpty || decide (total ≤ lastLine first lines.length))) ||
  (final == 1 && lastLine first lines.length != total)

def ItemKind.isLicenceWrite : ItemKind → Bool
  | .licenceWrite => true
  | _ => false

def State.licenceChecks (s : State) (first total final : Nat) (lines : List LicenceLine) : List (Bool × Status) :=
  [(s.licenceRange first total final lines, .range), (s.ht.locked, .writeProtected),
   (final == 1 && (s.itemPending ItemKind.isLicenceWrite || !s.listHasRoom), .busy)]

/-- The lines staged with this part at their end; a part with first_line 1 begins anew. -/
def State.stagedWith (s : State) (first : Nat) (lines : List LicenceLine) : List LicenceLine :=
  (if first = 1 then [] else match s.ht.staging with | some x => x.lines | none => []) ++ lines

/-- A part that is not final joins the staging; a final one puts the licence in force and offers its write (R10). -/
def State.takeLicence (s : State) (first total final : Nat) (lines : List LicenceLine) : State :=
  let all := s.stagedWith first lines
  if final = 1 then
    (State.offer { s with ht := { s.ht with licence := all, staging := none } } .licenceWrite
      (.erase 127 :: pagePrograms 8 licenceAddress (licenceOctets all))).1
  else { s with ht := { s.ht with staging := some { total := total, lines := all } } }

/-- LICENCE_WRITE, R9, R10. -/
def execLicenceWrite (first total final : Nat) (lines : List LicenceLine) (s : State) : Host.Outcome State Fault Refusal :=
  hostRequest (.licenceWrite first total final lines) (fun s => s.request 0x16 (s.licenceChecks first total final lines) fun s =>
    (s.takeLicence first total final lines).answer 0x16 .ok []) s

/-- LICENCE_QUERY, R12. -/
def execLicenceQuery (first : Nat) (s : State) : Host.Outcome State Fault Refusal :=
  hostRequest (.licenceQuery first) (fun s => s.report 0x17
    [(first == 0 || decide (s.ht.licence.length < first ∧ s.ht.licence.length ≠ 0), .range)] (s.licenceBody first)) s

/-- LICENCE_LOCK, R11. -/
def execLicenceLock (s : State) : Host.Outcome State Fault Refusal :=
  hostRequest .licenceLock (fun s => s.request 0x18 [(s.ht.locked, .writeProtected), (!s.listHasRoom, .busy)] fun s =>
    (State.offer { s with ht := { s.ht with locked := true, staging := none } } .lockMark [.program lockAddress [0x00]]).1.answer
      0x18 .ok []) s

/-! ## The configuration record, R13 to R15 -/

def ItemKind.isConfigWrite : ItemKind → Bool
  | .configWrite => true
  | _ => false

/-- CONFIG_SAVE, R13. -/
def execConfigSave (s : State) : Host.Outcome State Fault Refusal :=
  hostRequest .configSave (fun s => s.request 0x19 [(s.itemPending ItemKind.isConfigWrite || !s.listHasRoom, .busy)] fun s =>
    (s.offer .configWrite
      (.erase 80 :: .erase 81 :: pagePrograms 32 configAddress s.configRecord.octets)).1.answer 0x19 .ok []) s

/-- The STATE conditions of R14 that do not depend on the record. -/
def State.configHeld (s : State) : Bool :=
  s.se.state != .stopped ||
  ((upTo 12).any fun t => (s.tx t).isSome &&
    ((s.duty t).mode != .manual || ((s.seq t).state != .off && (s.seq t).state != .unknown))) ||
  (upTo 24).any s.antInUse

/-- An input that the record defines anew is not INACTIVE. DESIGN CHOICE: while the erase of sector 80 by a configuration write is in
flight the old record is still the one read here, since the array changes as the operation ends, so that STATE may come before BUSY
(notes/assumptions/13.md). -/
def State.inputHeld (s : State) : Bool :=
  match readConfig s.ss.array with
  | (_, some c) => (s.inputsDiffering c).any fun p => (s.input p.1).state != .inactive
  | (_, none) => false

/-- The record is applied, or its absence is noted as part of the refusal (R14, R15). -/
def State.loadFromRecord (s : State) : State :=
  match readConfig s.ss.array with
  | (_, some c) => ((s.applyConfig c).answer 0x1A .ok []).settled
  | (source, none) => State.answer { s with ht := { s.ht with configSource := source } } 0x1A .unavailable []

/-- CONFIG_LOAD, R14, R15. -/
def execConfigLoad (s : State) : Host.Outcome State Fault Refusal :=
  hostRequest .configLoad (fun s => s.handle 0x1A
    [(s.configHeld || s.inputHeld, .state), (s.itemPending ItemKind.isConfigWrite, .busy)] State.loadFromRecord) s

end Sys2Proof.Machine
end

