-- ==== Sys2Proof/Machine/TimeCmds.lean ====
section
/-! DEFINITION. The meanings of the time requests and the events of the Time Base, chapter 2. -/

namespace Sys2Proof.Machine

open Sys2Proof

/-- Day 65535 second 86399, the second that TB never delivers (R27). -/
def endOfRange : Nat := 5662310399

def State.setTime (s : State) (x : TimeBase) : State := { s with tb := x }

/-- The elapsed count advances at every second mark (R18). -/
def TimeBase.elapse (x : TimeBase) : TimeBase := { x with elapsed := satSucc 4294967295 x.elapsed }

/-- The end of range: INVALID, the instant, the pending set and the chain discarded, TIME set, no second event (R27). -/
def State.timeEnds (s : State) : State :=
  (s.setTime { s.tb with state := .invalid, instant := none, openWindow := none, pendingSet := none, chain := [] }).alert .time

/-- The step the second event carries when `new` takes the place of the ordinary advance `ordinary` (R25). -/
def stepOf (new ordinary : Nat) : TimeStep := if new = ordinary then .none else .seconds ((new : Int) - (ordinary : Int))

/-- A second mark in any state: the elapsed count, and with valid time the new instant and the second event (R19, R25 to R27). -/
def State.secondMark (s : State) : State :=
  let s := s.setTime s.tb.elapse
  match s.tb.state, s.tb.instant with
  | .locked, some i =>
    let new := match s.tb.pendingSet with | some p => p.instant | none => i + 1
    if new = endOfRange then s.timeEnds
    else (s.setTime { s.tb with instant := some new, pendingSet := none }).post (.secondEvent new (stepOf new (i + 1)))
  | .holdover, some i =>
    let new := match s.tb.pendingSet with | some p => p.instant | none => i + 1
    if new = endOfRange then s.timeEnds
    else (s.setTime { s.tb with instant := some new, pendingSet := none }).post (.secondEvent new (stepOf new (i + 1)))
  | _, _ => s

/-- An armed value is applied in PENDING at a pulse or at its expiry: the second mark, with step FIRST (R24). -/
def State.firstMark (s : State) (p : PendingSet) (state : TimeState) (pulse : Option Nat) : State :=
  let x := s.tb.elapse
  (s.setTime { x with state := state, instant := some p.instant, expected := s.clock + 1000, openWindow := none, pendingSet := none,
                      chain := [], lastPulse := pulse }).post (.secondEvent p.instant .first)

/-- A pulse inside the acceptance window of a mark at `e`, both ends included (R19). -/
def inWindow (clock e : Nat) : Bool := decide (e ≤ clock + 100 ∧ clock ≤ e + 100)

/-- An accepted pulse: E is one second on, the chain is empty, the state is LOCKED (R20, R22). -/
def State.acceptPulse (s : State) : State :=
  s.setTime { s.tb with state := .locked, expected := s.clock + 1000, openWindow := none, chain := [], lastPulse := some s.clock }

/-- An ignored pulse: counted, and offered to the chain (R20, R23). The chain is oldest first. -/
def State.ignorePulse (s : State) : State :=
  let x := { s.tb with ignored := satSucc 65535 s.tb.ignored }
  match x.chain.getLast? with
  | none => s.setTime { x with chain := [s.clock] }
  | some m =>
    if m + 900 ≤ s.clock ∧ s.clock ≤ m + 1100 then
      if x.chain.length = 2 then s.setTime { x with expected := s.clock + 1000, openWindow := none, chain := [] }
      else s.setTime { x with chain := x.chain ++ [s.clock] }
    else s.setTime { x with chain := [s.clock] }

/-- A pulse at the clock's moment. -/
def State.pulse (s : State) : State :=
  match s.tb.state with
  | .invalid => s
  | .pending =>
    match s.tb.pendingSet with
    | some p => s.firstMark p .locked (some s.clock)
    | none => s
  | .locked => if inWindow s.clock s.tb.expected then s.acceptPulse.secondMark else s.ignorePulse
  | .holdover =>
    if inWindow s.clock s.tb.expected then s.acceptPulse.secondMark
    else match s.tb.openWindow with
    | some e => if s.clock ≤ e + 100 then s.acceptPulse else s.ignorePulse
    | none => s.ignorePulse

def State.timeSetChecks (day second : Nat) : List (Bool × Status) :=
  [(decide (65535 < day) || decide (86399 < second) || day * 86400 + second == endOfRange, .range)]

/-- The value is armed; INVALID becomes PENDING (R24). -/
def State.armTime (s : State) (instant : Nat) : State :=
  s.setTime { s.tb with state := if s.tb.state = .invalid then .pending else s.tb.state
                        pendingSet := some { instant := instant, moment := s.clock } }

/-- TIME_SET, R24. -/
def execTimeSet (day second : Nat) (s : State) : Host.Outcome State Fault Refusal :=
  hostRequest (.timeSet day second) (fun s => s.handle 0x20 (State.timeSetChecks day second) fun s =>
    (s.armTime (day * 86400 + second)).answer 0x20 .ok []) s

/-- TIME_QUERY, R28. -/
def execTimeQuery (s : State) : Host.Outcome State Fault Refusal := hostRequest .timeQuery (fun s => s.report 0x21 [] s.timeBody) s

/-- TIME_PULSE, R19 to R25. -/
def execTimePulse (s : State) : Host.Outcome State Fault Refusal := .next s.pulse.settled

/-- The oscillator at E outside LOCKED: the mark, then E one second on; in HOLDOVER the window of the old E stays open (R19). -/
def State.oscillate (s : State) : State :=
  let e := s.tb.expected
  let u := (s.reach e).secondMark
  u.setTime { u.tb with expected := e + 1000, openWindow := if u.tb.state = .holdover then some e else none }

/-- OSCILLATOR_MARK, R19. -/
def execOscillatorMark (s : State) : Host.Outcome State Fault Refusal :=
  match s.tb.state with
  | .locked => .next s
  | .invalid => .next s.oscillate.settled
  | .pending => .next s.oscillate.settled
  | .holdover => .next s.oscillate.settled

/-- The window closes 100 ms after E without a pulse: the mark, and E one second on (R19). -/
def State.closeWindow (s : State) : State :=
  let e := s.tb.expected
  let u := (s.reach (e + 100)).secondMark
  u.setTime { u.tb with expected := e + 1000 }

/-- WINDOW_CLOSE, R19. -/
def execWindowClose (s : State) : Host.Outcome State Fault Refusal :=
  match s.tb.state with
  | .locked => .next s.closeWindow.settled
  | .invalid => .next s
  | .pending => .next s
  | .holdover => .next s

/-- HOLDOVER_ENTRY, R21. -/
def execHoldoverEntry (s : State) : Host.Outcome State Fault Refusal :=
  match s.tb.state, s.tb.lastPulse with
  | .locked, some m =>
    let u := s.reach (m + 1500)
    .next ((u.setTime { u.tb with state := .holdover, openWindow := none }).alert .time)
  | _, _ => .next s

/-- PENDING_EXPIRY, R24. -/
def execPendingExpiry (s : State) : Host.Outcome State Fault Refusal :=
  match s.tb.state, s.tb.pendingSet with
  | .pending, some p => .next (((s.reach (p.moment + 1500)).firstMark p .holdover s.tb.lastPulse).alert .time).settled
  | _, _ => .next s

end Sys2Proof.Machine
end

