-- ==== Sys2Proof/Machine/StoreCmds.lean ====
section
/-! DEFINITION. The meanings of the store requests and the events of the Season Store, chapter 3. -/

namespace Sys2Proof.Machine

open Sys2Proof

/-- The reply of the request being handled waits for its block (R207). -/
def State.hold (s : State) (kind : Nat) : State := { s with lc := { s.lc with held := some kind } }

/-- The range meets the sector being erased or the page being programmed (R38). -/
def State.storeTouched (s : State) (address length : Nat) : Bool :=
  match s.ss.operation with
  | some o => o.op.touches address length
  | none => false

def State.storeReadChecks (s : State) (address length : Nat) : List (Bool × Status) :=
  [(!within 1 200 length || decide (524287 < address) || decide ((address + length - 1) / 4096 ≠ address / 4096), .range),
   (s.storeTouched address length, .busy)]

/-- STORE_READ, R43: served at once, by a suspension, or after the progress guard; the reply is held until then. -/
def execStoreRead (address length : Nat) (s : State) : Host.Outcome State Fault Refusal :=
  hostRequest (.storeRead address length) (fun s => s.request 0x28 (s.storeReadChecks address length) fun s =>
    (s.hold 0x28).requestRead (.hostRead address length) address length) s

/-- A host operation starts, and the last host operation records it (R44, R45). -/
def State.startHostOp (s : State) (op : StoreOp) : State :=
  let u := s.startOp op .host
  let erase := match op with
    | .erase _ => true
    | .program _ _ => false
  u.setStore { u.ss with lastHostOp := some { erase := erase, target := op.target, outcome := .inProgress } }

def State.storeProgramChecks (s : State) (address : Nat) (data : List Byte) : List (Bool × Status) :=
  [(!within 1 200 data.length || decide (524287 < address) || decide ((address + data.length - 1) / 256 ≠ address / 256), .range),
   (!within 82 126 (address / 4096), .writeProtected), (s.ss.state != .ready, .busy),
   (!memBlank s.ss.array address data.length, .notBlank)]

/-- STORE_PROGRAM, R44. -/
def execStoreProgram (address : Nat) (data : List Byte) (s : State) : Host.Outcome State Fault Refusal :=
  hostRequest (.storeProgram address data) (fun s => s.handle 0x29 (s.storeProgramChecks address data) fun s =>
    (s.startHostOp (.program address data)).answer 0x29 .ok []) s

def State.storeEraseChecks (s : State) (sector : Nat) : List (Bool × Status) :=
  [(decide (127 < sector), .range), (!within 64 79 sector && !within 82 126 sector, .writeProtected), (s.ss.state != .ready, .busy),
   (within 64 79 sector && (s.pc.save.isSome || s.pc.restore.isSome), .busy)]

/-- STORE_ERASE, R45. -/
def execStoreErase (sector : Nat) (s : State) : Host.Outcome State Fault Refusal :=
  hostRequest (.storeErase sector) (fun s => s.handle 0x2A (s.storeEraseChecks sector) fun s =>
    (s.startHostOp (.erase sector)).answer 0x2A .ok []) s

/-- STORE_STATUS, R46. -/
def execStoreStatus (s : State) : Host.Outcome State Fault Refusal :=
  hostRequest .storeStatus (fun s => s.report 0x2B [] s.storeBody) s

/-- OPERATION_END, R35: the completion check passes or fails. -/
def execOperationEnd (passed : Bool) (s : State) : Host.Outcome State Fault Refusal :=
  match s.ss.operation with
  | none => .next s
  | some o => .next (if passed then s.operationPassed o else s.operationFailed o).settled

/-- OPERATION_OVERRUN, R37. -/
def execOperationOverrun (s : State) : Host.Outcome State Fault Refusal :=
  match s.ss.operation with
  | none => .next s
  | some o => .next ((s.reach (o.startedAt + o.op.maxMs)).overrun o).settled

/-- PROGRESS_GUARD_END, R39. -/
def execProgressGuardEnd (s : State) : Host.Outcome State Fault Refusal :=
  match s.ss.operation with
  | none => .next s
  | some o =>
    match o.guardEnd with
    | none => .next s
    | some m => .next (s.reach m).guardEnds.settled

end Sys2Proof.Machine
end

