-- ==== Sys2Proof/Machine/BookCmds.lean ====
section
/-! DEFINITION. The meanings of the book requests and the events of the Book Verifier, chapter 4. -/

namespace Sys2Proof.Machine

open Sys2Proof

/-- The first checks of a book request: the book number, then the scan. -/
def State.bookChecks (s : State) (b : Nat) : List (Bool × Status) := [(decide (1 < b), .range), (s.sb.scanRunning, .busy)]

/-! ## Loading, R51 to R54 -/

def State.bookOpenChecks (s : State) (b season first last : Nat) : List (Bool × Status) :=
  [(decide (1 < b) || decide (65535 < season) || decide (65535 < first) || decide (65535 < last) || decide (last < first), .range),
   (s.sb.scanRunning, .busy), ((s.book b).state != .empty || (s.book (1 - b)).state == .loading, .state), (!s.listHasRoom, .busy)]

/-- The book becomes LOADING and the OPEN mark is due. Missing marks stay: only BOOK_ERASE and the resets clear them (R50). -/
def State.openBook (s : State) (b season first last : Nat) : State :=
  (s.setBook b { Book.empty with state := .loading, season := some season, firstDay := first, lastDay := last
                                 missing := (s.book b).missing }).markDue b .opening (u16 season ++ u16 first ++ u16 last)

/-- BOOK_OPEN, R51. -/
def execBookOpen (book season firstDay lastDay : Nat) (s : State) : Host.Outcome State Fault Refusal :=
  hostRequest (.bookOpen book season firstDay lastDay) (fun s => s.request 0x30 (s.bookOpenChecks book season firstDay lastDay) fun s =>
    (s.openBook book season firstDay lastDay).answer 0x30 .ok []) s

/-- The slot in FILLING: which (0 or 1), its page and its records; slot 0 and page 1 for a book with none (R52). -/
def Book.filling (x : Book) : Nat × Nat × List (List Byte) :=
  match x.slotA, x.slotB with
  | .filling p rs, _ => (0, p, rs)
  | _, .filling p rs => (1, p, rs)
  | _, _ => (0, 1, [])

def Book.setSlot (x : Book) (slot : Nat) (v : LoadSlot) : Book := if slot = 0 then { x with slotA := v } else { x with slotB := v }

def Book.slot (x : Book) (slot : Nat) : LoadSlot := if slot = 0 then x.slotA else x.slotB

def LoadSlot.isWaiting : LoadSlot → Bool
  | .waiting _ _ => true
  | _ => false

/-- The record fits in the octets left in the filling page. -/
def Book.fits (x : Book) (record : List Byte) : Bool := decide (x.filling.2.2.flatten.length + record.length ≤ 256)

/-- The form of the record: its length octet and its presence octets (R208, 12.6). -/
def recordMalformed (record : List Byte) : Bool :=
  record.isEmpty || decide (octetAt record 0 ≠ record.length) || !entryPresenceOk record

def State.entryAddChecks (s : State) (b : Nat) (record : List Byte) : List (Bool × Status) :=
  let x := s.book b
  [(recordMalformed record, .frame), (decide (1 < b) || !entryInRange record, .range), (s.sb.scanRunning, .busy),
   (x.state != .loading, .state), (decide (2048 ≤ x.entriesAdded), .range),
   (!x.fits record && ((x.slot (1 - x.filling.1)).isWaiting || !s.listHasRoom), .busy)]

/-- A page of the load buffer is offered as a load page item. -/
def State.offerLoadPage (s : State) (b slot page : Nat) (records : List (List Byte)) : State :=
  (s.offer (.loadPage b slot) [.program (pageAddress b page) records.flatten]).1

/-- The record joins the filling page, or closes it and begins the next page in the other slot. -/
def State.addEntry (s : State) (b : Nat) (record : List Byte) : State :=
  let x := { s.book b with entriesAdded := (s.book b).entriesAdded + 1 }
  let f := x.filling
  if x.fits record then s.setBook b (x.setSlot f.1 (.filling f.2.1 (f.2.2 ++ [record])))
  else
    (s.setBook b ((x.setSlot f.1 (.waiting f.2.1 f.2.2)).setSlot (1 - f.1) (.filling (f.2.1 + 1) [record]))).offerLoadPage b f.1 f.2.1
      f.2.2

/-- ENTRY_ADD, R52. -/
def execEntryAdd (book : Nat) (record : List Byte) (s : State) : Host.Outcome State Fault Refusal :=
  hostRequest (.entryAdd book record) (fun s => s.request 0x31 (s.entryAddChecks book record) fun s =>
    (s.addEntry book record).answer 0x31 .ok []) s

/-- The items a seal needs: the SEAL mark, and the filling page if it holds a record. -/
def Book.sealItems (x : Book) : Nat := if x.filling.2.2.isEmpty then 1 else 2

def State.bookSealChecks (s : State) (b count crc : Nat) : List (Bool × Status) :=
  [(decide (1 < b) || decide (65535 < count) || decide (4294967295 < crc), .range), (s.sb.scanRunning, .busy),
   ((s.book b).state != .loading, .state), (count != (s.book b).entriesAdded, .range),
   (decide (8 < s.ss.work.length + (s.book b).sealItems), .busy)]

/-- The filling page is offered as the final load page, the book becomes SEALED, and the SEAL mark is due. -/
def State.sealBook (s : State) (b count crc : Nat) : State :=
  let f := (s.book b).filling
  let u := if f.2.2.isEmpty then s
    else (s.setBook b ((s.book b).setSlot f.1 (.waiting f.2.1 f.2.2))).offerLoadPage b f.1 f.2.1 f.2.2
  (u.setBook b { u.book b with state := .sealed, sealed := some (count, crc) }).markDue b .seal (u16 count ++ u32 crc)

/-- BOOK_SEAL, R54. -/
def execBookSeal (book count crc : Nat) (s : State) : Host.Outcome State Fault Refusal :=
  hostRequest (.bookSeal book count crc) (fun s => s.request 0x32 (s.bookSealChecks book count crc) fun s =>
    (s.sealBook book count crc).answer 0x32 .ok []) s

/-! ## Verification and reports, R55, R61 -/

/-- A load page or mark of the book. -/
def ItemKind.loads (k : ItemKind) (b : Nat) : Bool :=
  match k with
  | .stateMark b' _ _ => b' == b
  | .loadPage b' _ => b' == b
  | _ => false

def State.bookVerifyChecks (s : State) (b : Nat) : List (Bool × Status) :=
  s.bookChecks b ++
  [((s.book b).state != .sealed && (s.book b).state != .failed, .state),
   ((s.book (1 - b)).state == .verifying || s.itemPending (fun k => k.loads b) || !(s.book b).waitingMarks.isEmpty, .busy)]

/-- The book becomes VERIFYING with its findings emptied, and the verifier begins. -/
def State.verifyBook (s : State) (b : Nat) : State :=
  (s.setBook b { s.book b with state := .verifying
                               findings := { (s.book b).findings with list := [], more := false, total := 0 } }).startVerifier b false

/-- BOOK_VERIFY, R55. -/
def execBookVerify (book : Nat) (s : State) : Host.Outcome State Fault Refusal :=
  hostRequest (.bookVerify book) (fun s => s.request 0x33 (s.bookVerifyChecks book) fun s => (s.verifyBook book).answer 0x33 .ok []) s

/-- BOOK_QUERY, R61. -/
def execBookQuery (book : Nat) (s : State) : Host.Outcome State Fault Refusal :=
  hostRequest (.bookQuery book) (fun s => s.report 0x34 [(decide (1 < book), .range)] (s.bookBody book)) s

/-- FINDINGS_QUERY, R61. -/
def execFindingsQuery (book : Nat) (s : State) : Host.Outcome State Fault Refusal :=
  hostRequest (.findingsQuery book) (fun s => s.report 0x35 (s.bookChecks book) (s.findingsBody book)) s

/-- The entries a book holds: entries added while LOADING, the seal count in any other state. -/
def Book.entryCount (x : Book) : Nat := if x.state = .loading then x.entriesAdded else x.sealValues.1

def State.entryReadChecks (s : State) (b position : Nat) : List (Bool × Status) :=
  let x := s.book b
  [(decide (1 < b) || position == 0, .range), (s.sb.scanRunning, .busy),
   (x.state == .empty || x.state == .erasing || x.state == .damaged, .state), (decide (x.entryCount < position), .range)]

/-- A record in the load buffer is returned from it; any other is read from its page of the region. -/
def State.readEntry (s : State) (b position : Nat) : State :=
  if (s.book b).storedCount < position then s.entryReadServed b position
  else match s.pageOfPosition b position with
  | some page => (s.hold 0x36).requestRead (.entryRead b position) (pageAddress b page) 256
  | none => s.answer 0x36 .unavailable []

/-- ENTRY_READ, R61. -/
def execEntryRead (book position : Nat) (s : State) : Host.Outcome State Fault Refusal :=
  hostRequest (.entryRead book position) (fun s => s.request 0x36 (s.entryReadChecks book position) fun s => s.readEntry book position) s

/-! ## Erasing and handover, R62 to R64 -/

def State.bookEraseChecks (s : State) (b : Nat) : List (Bool × Status) :=
  let x := s.book b
  s.bookChecks b ++
  [(x.state == .active || x.state == .loading, .writeProtected),
   (x.state == .verifying || x.state == .erasing || !s.listHasRoom, .busy), (x.pendingHandover.isSome, .state)]

/-- The erases of the book's 32 sectors, lowest first. -/
def bookErases (b : Nat) : List StoreOp := (List.range 32).map fun k => .erase (b * 32 + k)

/-- The book erase item is offered, and the book is ERASING with its record discarded. -/
def State.eraseBook (s : State) (b : Nat) : State :=
  let u := (s.offer (.bookErase b) (bookErases b)).1
  u.setBook b { Book.empty with state := .erasing }

/-- BOOK_ERASE, R62. -/
def execBookErase (book : Nat) (s : State) : Host.Outcome State Fault Refusal :=
  hostRequest (.bookErase book) (fun s => s.request 0x37 (s.bookEraseChecks book) fun s => (s.eraseBook book).answer 0x37 .ok []) s

/-- The lowest-numbered blank slot, from 1. -/
def Book.blankSlot (x : Book) : Option Nat := (upTo 4).find? fun n => nth x.slots .torn n == .blank

/-- The activation instant of the book that is ACTIVE. -/
def State.activeSince (s : State) : Option Nat := s.activeBook.bind fun b => (s.book b).activation.map fun h => h.instant

/-- The instant is too early, outside the book's window, or not later than the present activation (R63). -/
def State.handoverRange (s : State) (b instant : Nat) : Bool :=
  let x := s.book b
  decide (instant < s.now.getD 0 + 10) || !within x.firstDay x.lastDay (instant / 86400) ||
  (match s.activeSince with | some a => decide (instant ≤ a) | none => false)

def State.handoverSetChecks (s : State) (b day second : Nat) : List (Bool × Status) :=
  [(decide (1 < b) || decide (65535 < day) || decide (86399 < second), .range), (s.sb.scanRunning, .busy),
   ((s.book b).state != .standby || s.handoverPending || (s.book b).blankSlot.isNone, .state), (!s.timeValid, .noTime),
   (s.handoverRange b (day * 86400 + second), .range), (!s.listHasRoom, .busy)]

/-- The instant is due as a mark of the blank slot and is the pending handover. -/
def State.setHandover (s : State) (b instant : Nat) : State :=
  let x := s.book b
  let n := x.blankSlot.getD 1
  (s.setBook b { x with slots := setNth x.slots n (.used instant false)
                        pendingHandover := some { slot := n, instant := instant } }).markDue b (.slotInstant n) (instantOctets instant)

/-- HANDOVER_SET, R63. -/
def execHandoverSet (book day second : Nat) (s : State) : Host.Outcome State Fault Refusal :=
  hostRequest (.handoverSet book day second) (fun s => s.request 0x38 (s.handoverSetChecks book day second) fun s =>
    (s.setHandover book (day * 86400 + second)).answer 0x38 .ok []) s

def State.handoverCancelChecks (s : State) (b : Nat) : List (Bool × Status) :=
  s.bookChecks b ++ [((s.book b).pendingHandover.isNone, .state), (!s.listHasRoom, .busy)]

/-- A used slot is cancelled. -/
def HandoverSlot.cancel : HandoverSlot → HandoverSlot
  | .used i _ => .used i true
  | x => x

/-- The cancelled mark of the pending handover's slot is due. -/
def State.cancelHandover (s : State) (b : Nat) : State :=
  let x := s.book b
  match x.pendingHandover with
  | some h =>
    (s.setBook b { x with slots := setNth x.slots h.slot (nth x.slots .torn h.slot).cancel, pendingHandover := none }).markDue b
      (.slotCancelled h.slot) []
  | none => s

/-- HANDOVER_CANCEL, R64. -/
def execHandoverCancel (book : Nat) (s : State) : Host.Outcome State Fault Refusal :=
  hostRequest (.handoverCancel book) (fun s => s.request 0x39 (s.handoverCancelChecks book) fun s =>
    (s.cancelHandover book).answer 0x39 .ok []) s

/-! ## Events of the verifier -/

/-- VERIFIER_READ, R56 to R58, R67: the next page, once its store read is served. -/
def execVerifierRead (s : State) : Host.Outcome State Fault Refusal := .next s.verifierReads.settled

/-- VERIFY_END, R59: a verification whose checks have ended. -/
def execVerifyEnd (s : State) : Host.Outcome State Fault Refusal :=
  match s.sb.verifier with
  | some v => if v.finished && !v.reindex then .next (s.verificationEnds v).settled else .next s
  | none => .next s

/-- REINDEX_END, R67: a re-index whose checks have ended. -/
def execReindexEnd (s : State) : Host.Outcome State Fault Refusal :=
  match s.sb.verifier with
  | some v => if v.finished && v.reindex then .next s.reindexEnds.settled else .next s
  | none => .next s

end Sys2Proof.Machine
end

