-- ==== Sys2Proof/Machine/ExecCmds.lean ====
section
/-! DEFINITION. The meanings of the requests to the Schedule Executor, chapter 5. -/

namespace Sys2Proof.Machine

open Sys2Proof

/-! ## EXEC_START and EXEC_STOP, R69, R70 -/

/-- A book is ACTIVE and has a run index. -/
def State.runnable (s : State) : Bool :=
  match s.activeBook with
  | some b => (s.book b).runIndex.isSome
  | none => false

def State.execStartChecks (s : State) : List (Bool × Status) :=
  [(!s.timeValid, .noTime), (s.se.state != .stopped || !s.runnable || s.sb.scanRunning || !s.mc.surveyed, .state)]

/-- The executor is RUNNING, or in SEASON_END at once when the last day has passed (R72). -/
def State.startExecutor (s : State) : State :=
  let u : State := { s with se := { s.se with state := .running } }
  match u.now with
  | some now => u.seasonCheck now
  | none => u

/-- EXEC_START, R69. -/
def execExecStart (s : State) : Host.Outcome State Fault Refusal :=
  hostRequest .execStart (fun s => s.request 0x40 s.execStartChecks fun s => s.startExecutor.answer 0x40 .ok []) s

/-- STOPPED: plans are dropped and held routes parked; begun changeovers and current entries run on (R70). -/
def State.stopExecutor (s : State) : State :=
  (upTo 12).foldl (fun s t => s.releaseHeld t) (State.dropPlans { s with se := { s.se with state := .stopped } })

/-- EXEC_STOP, R70. -/
def execExecStop (s : State) : Host.Outcome State Fault Refusal :=
  hostRequest .execStop (fun s => s.request 0x41 [(s.se.state == .stopped, .state)] fun s => s.stopExecutor.answer 0x41 .ok []) s

/-! ## EXEC_HOLD and EXEC_RELEASE, R71 -/

/-- EXEC_HOLD, R71. -/
def execExecHold (s : State) : Host.Outcome State Fault Refusal :=
  hostRequest .execHold (fun s => s.handle 0x42 [(s.se.state != .running, .state)] fun s =>
    State.answer { s with se := { s.se with state := .held } } 0x42 .ok []) s

/-- The rebuild, the PLANNED records, RUNNING, and the work of R78. While the time is not valid the work of an instant waits for a
second event (R96; notes/assumptions/18.md). -/
def State.releaseExecutor (s : State) : State :=
  let u := if s.se.rebuild then s.rebuildHandled else s
  let u : State := { u with se := { u.se with rebuild := false } }
  match u.now with
  | none => { u with se := { u.se with state := .running } }
  | some now =>
    let v := u.releasePlans now
    State.executorPass { v with se := { v.se with state := .running } } now false

/-- EXEC_RELEASE, R71. -/
def execExecRelease (s : State) : Host.Outcome State Fault Refusal :=
  hostRequest .execRelease (fun s => s.request 0x43 [(s.se.state != .held, .state)] fun s =>
    s.releaseExecutor.answer 0x43 .ok []) s

/-- DUTY_QUERY, R97. -/
def execDutyQuery (tx : Nat) (s : State) : Host.Outcome State Fault Refusal :=
  hostRequest (.dutyQuery tx) (fun s => s.report 0x44 [(s.badTx tx, .range)] (s.dutyBody tx)) s

/-! ## Duty modes, R74, R75 -/

def State.txManualChecks (s : State) (t : Nat) : List (Bool × Status) := [(s.badTx t, .range), (s.changeBegun t, .busy)]

/-- The current entry is forgotten without end processing, and its outcome recorded. -/
def State.forgetEntry (s : State) (t : Nat) : State :=
  match (s.duty t).current with
  | some e => s.recordOutcome t e.entryId e.day .ended (some .manual) 0 0 0
  | none => s

/-- The transmitter is the host's: what is on air and the route stay as they stand. A wait in RECOVERY_WAIT is tested, since there is
no restart in MANUAL duty (R155). -/
def State.toManual (s : State) (t : Nat) : State :=
  if (s.duty t).mode = .manual then s
  else (((s.dropPlan t).forgetEntry t).updateDuty t fun d =>
    { d with mode := .manual, current := none, heldRoute := none, settle := .none }).recoveryTest t

/-- TX_MANUAL, R74. -/
def execTxManual (tx : Nat) (s : State) : Host.Outcome State Fault Refusal :=
  hostRequest (.txManual tx) (fun s => s.request 0x45 (s.txManualChecks tx) fun s => (s.toManual tx).answer 0x45 .ok []) s

/-- The transmitter is the executor's: handled_through is none, FAULT is cleared (R157), RF on air is adopted. -/
def State.toAuto (s : State) (t : Nat) : State :=
  if (s.duty t).mode = .auto then s
  else
    let u := s.updateDuty t fun d => { d with mode := .auto, handledThrough := none }
    if (u.seq t).state = .fault then u.clearTrip t .sequencer
    else if u.onAirNow t then u.updateDuty t fun d => { d with current := some (u.adoptedEntry t) }
    else u

/-- TX_AUTO, R75. -/
def execTxAuto (tx : Nat) (s : State) : Host.Outcome State Fault Refusal :=
  hostRequest (.txAuto tx) (fun s => s.request 0x46 [(s.badTx tx, .range)] fun s => (s.toAuto tx).answer 0x46 .ok []) s

/-! ## OCCURRENCE_SKIP, R76 -/

/-- OCCURRENCE_SKIP, R76: the entry is read from the ACTIVE book, and the reply waits for that read (R32). DESIGN CHOICE: it counts as
a reader of its own beside the executor's work, so that both may wait at once (R39, notes/assumptions/10.md). -/
def execOccurrenceSkip (tx entryId day : Nat) (s : State) : Host.Outcome State Fault Refusal :=
  hostRequest (.occurrenceSkip tx entryId day) (fun s => s.request 0x47 (s.skipFirstChecks tx day) fun s =>
    (s.hold 0x47).readEntries (.occurrenceSkip tx entryId day)) s

end Sys2Proof.Machine
end

