-- ==== Sys2Proof/Machine/MatrixCmds.lean ====
section
/-! DEFINITION. The meanings of the requests to the Matrix Controller and of the events at the movers, chapter 6. -/

namespace Sys2Proof.Machine

open Sys2Proof

/-! ## MOVE, R120 -/

/-- The antenna has neither a reservation nor a test claim, and its occupant, if any, is a row in MANUAL duty. -/
def State.freeForHost (s : State) (a : Nat) : Bool :=
  (s.claim a).reservation.isNone && !(s.claim a).testClaim &&
  (match (s.claim a).occupant with | some t => (s.duty t).mode == .manual | none => true)

/-- The table of R120. -/
def State.moveAllowed (s : State) (m : Nat) : Bool :=
  match kindOf m with
  | .crosspoint t a => (s.duty t).mode == .manual && s.freeForHost a
  | .park t => (s.duty t).mode == .manual
  | .test a => s.freeForHost a
  | .slew a => s.freeForHost a
  | .reverser a => s.freeForHost a

/-- The position a MOVE asks for, none when it is not one of the mover's or lies outside the antenna's slew_range. -/
def State.moveTarget (s : State) (m code : Nat) : Option Position :=
  if 255 < code then none
  else match kindOf m, (kindOf m).position code with
  | .slew a, some (.slew v) =>
    (s.ant a).bind fun r => if v.natAbs ≤ r.slewRange then some (.slew v) else none
  | _, p => p

def State.moveChecks (s : State) (m code : Nat) : List (Bool × Status) :=
  [(!s.present m || (s.moveTarget m code).isNone, .range), (s.surveyRunning, .busy), ((s.mover m).fault.isSome, .state),
   (!s.moveAllowed m, .conflict)]

/-- The request is admitted at priority 3. -/
def State.hostMove (s : State) (m code : Nat) : State :=
  match s.moveTarget m code with
  | some p => s.requestMotion m p .host 3
  | none => s

/-- MOVE, R120. -/
def execMove (mover position : Nat) (s : State) : Host.Outcome State Fault Refusal :=
  hostRequest (.move mover position) (fun s => s.request 0x50 (s.moveChecks mover position) fun s =>
    (s.hostMove mover position).answer 0x50 .ok []) s

/-! ## Reports, R116, R122 -/

/-- MOVER_QUERY, R122. -/
def execMoverQuery (mover : Nat) (s : State) : Host.Outcome State Fault Refusal :=
  hostRequest (.moverQuery mover) (fun s => s.report 0x51 [(!within 1 372 mover, .range)] (s.moverBody mover)) s

/-- ANTENNA_STATUS, R116. -/
def execAntennaStatus (ant : Nat) (s : State) : Host.Outcome State Fault Refusal :=
  hostRequest (.antennaStatus ant) (fun s => s.report 0x52 [(s.badAnt ant, .range)] (s.antennaBody ant)) s

/-! ## MOVER_CLEAR, R121 -/

/-- The row of a crosspoint or park switch. -/
def rowOfMover (m : Nat) : Option Nat :=
  match kindOf m with
  | .crosspoint t _ => some t
  | .park t => some t
  | _ => none

/-- The row of the mover has a row fault. -/
def State.rowFaulted (s : State) (m : Nat) : Bool :=
  match rowOfMover m with
  | some t => !(s.rowFault t).isEmpty
  | none => false

/-- MOVING, SETTLING, VALIDATING or HALTED. -/
def Mover.engaged (x : Mover) : Bool := x.inMotion || x.phase == .halted

def State.moverClearChecks (s : State) (m : Nat) : List (Bool × Status) :=
  let x := s.mover m
  [(!s.present m, .range), (s.surveyRunning || x.engaged, .busy),
   (x.fault.isNone && x.confirmed.isSome && !s.rowFaulted m, .state)]

/-- The mover is UNKNOWN at REST without fault; its queued request ends DROPPED and it is read again. DESIGN CHOICE: the follow-on
of a mover that a halt has queued again ends DROPPED with it (notes/assumptions/31.md). -/
def State.readAgain (s : State) (m : Nat) : State :=
  let x := s.mover m
  let s := (s.setMover m { x.idle with confirmed := none, fault := none, watch := none, followOn := none }).tellAll m false x.askers
  ((s.tellAll m false x.waiters).startRead m false).postOnce .matrix

/-- A row fault none of whose movers is faulted is cleared, and a survey of the row begins. -/
def State.clearRowFault (s : State) (t : Nat) : State :=
  if (s.rowFault t).isEmpty || (s.rowMovers t).any fun m => (s.mover m).fault.isSome then s
  else (((s.setRowFault t []).postOnce .permits).postOnce .arbiter).startSurvey (some t)

def State.clearMover (s : State) (m : Nat) : State :=
  let u := s.readAgain m
  match rowOfMover m with
  | some t => u.clearRowFault t
  | none => u

/-- MOVER_CLEAR, R121. -/
def execMoverClear (mover : Nat) (s : State) : Host.Outcome State Fault Refusal :=
  hostRequest (.moverClear mover) (fun s => s.request 0x53 (s.moverClearChecks mover) fun s =>
    (s.clearMover mover).answer 0x53 .ok []) s

/-! ## SURVEY, R117 -/

def State.surveyChecks (s : State) : List (Bool × Status) :=
  [(s.surveyRunning || s.mc.movers.any (fun x => x.phase == .queued || x.engaged) || s.mc.claims.any (fun c => c.testClaim), .busy),
   (s.se.state != .stopped || !s.rowsCold (upTo s.params.txCount), .state)]

/-- SURVEY, R117. -/
def execSurvey (s : State) : Host.Outcome State Fault Refusal :=
  hostRequest .survey (fun s => s.request 0x54 s.surveyChecks fun s => (s.startSurvey none).answer 0x54 .ok []) s

/-! ## Contacts, R99, R101, R103, R105, R118 -/

/-- The contacts made after one changes. -/
def contactsAfter (contacts : List Position) (p : Position) (made : Bool) : List Position :=
  if made then addOnce contacts p else contacts.filter (· != p)

/-- A contact change breaks the continuity of a read. -/
def Mover.readDisturbed (x : Mover) : Mover := { x with reading := x.reading.map fun r => { r with steady := none } }

/-- A watch begins at the first break of the confirmed contact, and follows that contact until it ends (R105). -/
def State.watchContact (s : State) (m : Nat) (c p : Position) (made : Bool) : State :=
  let x := s.mover m
  if p ≠ c then s
  else match x.watch with
  | some w => s.setMover m { x with watch := some { w with madeSince := if made then some s.clock else none } }
  | none =>
    if made then s
    else (s.setMover m { x with watch := some { brokeAt := s.clock, endsAt := s.clock + s.contactMs, madeSince := none } }).postOnce
      .matrix

/-- What a contact change does to the mover by its phase. -/
def State.contactMoves (s : State) (m : Nat) (p : Position) (made : Bool) : State :=
  let x := s.mover m
  let back : Mover := { x with phase := .moving, window := none }
  if x.fault.isSome then s
  else match x.phase with
  | .moving => if made && x.target == some p then s.beginSettle m else s
  | .settling => if !made && x.target == some p then s.setMover m back else s
  | .validating => if !made && x.target == some p then s.setMover m back else s
  | .halted => s
  | .rest => match x.confirmed with | some c => s.watchContact m c p made | none => s
  | .queued => match x.confirmed with | some c => s.watchContact m c p made | none => s

/-- A position contact makes or breaks. Two made together on a present mover are a CONFLICT at once (R103); the contacts of an absent
mover have no other effect (R98). DESIGN CHOICE: the pins of an absent mover are followed all the same, and MOVER_QUERY shows them as
sensed (notes/assumptions/31.md). -/
def State.contactChanges (s : State) (m : Nat) (p : Position) (made : Bool) : State :=
  let x := s.mover m
  let contacts := contactsAfter x.contacts p made
  let u := s.setMover m { x with contacts := contacts }
  if !s.present m then u
  else if x.contacts.length < 2 ∧ 2 ≤ contacts.length then u.faultMover m .conflict
  else (u.setMover m (u.mover m).readDisturbed).contactMoves m p made

/-- CONTACT_CHANGE, R101: an event at a contact that the mover does not have, or that is no change, is none. -/
def execContactChange (mover : Nat) (position : Position) (made : Bool) (s : State) : Host.Outcome State Fault Refusal :=
  if !within 1 372 mover || !(kindOf mover).hasPosition position || (s.mover mover).contacts.contains position == made then .next s
  else .next (s.contactChanges mover position made).settled

/-! ## The ends of windows, timers, watches and reads -/

/-- The settle window has ended: the contact is checked again (R101). -/
def State.settleEnds (s : State) (m : Nat) : State :=
  let x := s.mover m
  if x.contacts.contains (x.target.getD .opened) then s.beginValidate m
  else s.setMover m { x with phase := .moving, window := none }

/-- SETTLE_END, R101. -/
def execSettleEnd (mover : Nat) (s : State) : Host.Outcome State Fault Refusal :=
  match (s.mover mover).phase, (s.mover mover).window with
  | .settling, some w => .next ((s.reach w).settleEnds mover).settled
  | _, _ => .next s

/-- VALIDATE_END, R101. -/
def execValidateEnd (mover : Nat) (s : State) : Host.Outcome State Fault Refusal :=
  match (s.mover mover).phase, (s.mover mover).window with
  | .validating, some w => .next ((s.reach w).confirmMover mover).settled
  | _, _ => .next s

/-- TRAVEL_TIMEOUT, R102. -/
def execTravelTimeout (mover : Nat) (s : State) : Host.Outcome State Fault Refusal :=
  match (s.mover mover).inMotion, (s.mover mover).timer with
  | true, some d => .next ((s.reach d).faultMover mover .timeout).settled
  | _, _ => .next s

/-- The watch is a glitch: the contact has been made for at least the validate time (R105). -/
def State.isGlitch (s : State) (w : Watch) : Bool :=
  match w.madeSince with
  | some k => decide (k + s.params.validate * 4 ≤ w.endsAt)
  | none => false

def State.watchEnds (s : State) (m : Nat) (w : Watch) : State :=
  if s.isGlitch w then (s.setMover m { s.mover m with watch := none }).postOnce .matrix
  else s.faultMover m .lost

/-- WATCH_END, R105. -/
def execWatchEnd (mover : Nat) (s : State) : Host.Outcome State Fault Refusal :=
  match (s.mover mover).watch with
  | some w => .next ((s.reach w.endsAt).watchEnds mover w).settled
  | none => .next s

/-- MOVER_READ_END, R118. -/
def execMoverReadEnd (mover : Nat) (s : State) : Host.Outcome State Fault Refusal :=
  match (s.mover mover).reading with
  | some r => .next ((s.reach r.endsAt).endRead mover r).settled
  | none => .next s

end Sys2Proof.Machine
end

