-- ==== Sys2Proof/Machine/PermitCmds.lean ====
section
/-! DEFINITION. The meanings of the requests to the Permit Unit and of its events, chapter 7. -/

namespace Sys2Proof.Machine

open Sys2Proof

/-! ## SAFETY_DEFINE and PERMIT_QUERY, R134, R135 -/

def State.safetyChecks (s : State) (n kind level : Nat) (rows : List Nat) : List (Bool × Status) :=
  [(!within 1 8 n || (safetyKindOf kind).isNone || (levelOf level).isNone || rows.any (fun r => !within 1 12 r), .range),
   ((s.input n).state != .inactive, .state)]

/-- The definition is replaced and judged; a row set is kept in ascending number. -/
def State.setSafety (s : State) (n kind level : Nat) (rows : List Nat) : State :=
  match safetyKindOf kind, levelOf level with
  | some k, some l => s.defineInput n k l ((upTo 12).filter fun r => rows.contains r)
  | _, _ => s

/-- SAFETY_DEFINE, R134. -/
def execSafetyDefine (input kind level : Nat) (rows : List Nat) (s : State) : Host.Outcome State Fault Refusal :=
  hostRequest (.safetyDefine input kind level rows) (fun s => s.request 0x58 (s.safetyChecks input kind level rows) fun s =>
    (s.setSafety input kind level rows).answer 0x58 .ok []) s

/-- PERMIT_QUERY, R135. -/
def execPermitQuery (s : State) : Host.Outcome State Fault Refusal :=
  hostRequest .permitQuery (fun s => s.report 0x59 [] s.permitBody) s

/-! ## Cold rows, R128 -/

/-- ROW_COLD, R128: the line has been OFF for cold_ds. -/
def execRowCold (row : Nat) (s : State) : Host.Outcome State Fault Refusal :=
  if within 1 12 row && !(s.permit row).line && !(s.permit row).cold && s.reportsOff row then
    .next ((s.reach (s.coldMoment row)).postOnce .permits).settled
  else .next s

/-! ## Safety inputs, R130, R131, R136 -/

/-- What an edge does to an input by its state. -/
def State.inputEdge (s : State) (n : Nat) (level : Level) : State :=
  let i := { s.input n with sensed := level }
  let u := s.setInput n i
  match i.state with
  | .inactive => if i.atActiveLevel then u.activate n else u
  | .active => if i.atActiveLevel then u else u.beginRelease n
  | .releasing => if i.atActiveLevel then u.setInput n { i with state := .active, window := none } else u

/-- SAFETY_INPUT_EDGE, R130, R131. -/
def execSafetyInputEdge (input : Nat) (level : Level) (s : State) : Host.Outcome State Fault Refusal :=
  if !within 1 8 input || (s.input input).sensed == level then .next s
  else .next (s.inputEdge input level).settled

/-- RELEASE_WINDOW_END, R131, R132. -/
def execReleaseWindowEnd (input : Nat) (s : State) : Host.Outcome State Fault Refusal :=
  match (s.input input).state, (s.input input).window with
  | .releasing, some w => .next ((s.reach w).inputReleased input).settled
  | _, _ => .next s

/-- Inputs that are still ACTIVE when settle + validate has passed since the reset set SAFETY (R136). -/
def State.resetAlert (s : State) : State :=
  let u : State := { s with pu := { s.pu with resetAlertAt := none } }
  if s.pu.inputs.any fun i => i.state == .active then u.alert .safety else u

/-- SAFETY_RESET_ALERT, R136. -/
def execSafetyResetAlert (s : State) : Host.Outcome State Fault Refusal :=
  match s.pu.resetAlertAt with
  | some m => .next (s.reach m).resetAlert
  | none => .next s

/-! ## Arcs, R133 -/

/-- ARC_INPUT, R133: an arc above ant_count is disregarded. -/
def execArcInput (ant : Nat) (s : State) : Host.Outcome State Fault Refusal :=
  if s.badAnt ant then .next s else .next (s.arcOn ant).settled

/-- ARC_HOLD_END, R133. -/
def execArcHoldEnd (ant : Nat) (s : State) : Host.Outcome State Fault Refusal :=
  match s.arcHold ant with
  | some d => .next (((s.reach d).setArcHold ant none).postOnce .permits).settled
  | none => .next s

end Sys2Proof.Machine
end

