-- ==== Sys2Proof/Machine/SeqCmds.lean ====
section
/-! DEFINITION. The meanings of the host's transmitter orders and of the events at the sequencers and their links, chapter 8. -/

namespace Sys2Proof.Machine

open Sys2Proof

/-! ## The checks of TX_ORDER, R159 -/

/-- A field of an order is in its range. -/
def powerOk (p : Nat) : Bool := within 1 1000 p
def feedOk (f : Nat) : Bool := within 1 16 f

/-- The first four checks: the ranges, the duty and the slot, RAMP_DOWN, and the states that take the order. -/
def State.orderChecks (s : State) (t : Nat) (fields : Bool) (takes : Sequencer → Bool) : List (Bool × Status) :=
  [(s.badTx t || !fields, .range), ((s.duty t).mode != .manual || (s.tx t).isNone, .state),
   ((s.seq t).state == .rampDown, .busy), (!takes (s.seq t), .state)]

/-- States that take a tune: OFF and TUNED. -/
def Sequencer.takesTune (q : Sequencer) : Bool := q.state == .off || q.state == .tuned

/-- States that take POWER: RAMP_UP and ON_AIR. -/
def Sequencer.takesPower (q : Sequencer) : Bool := q.state == .rampUp || q.state == .onAir

/-- States that take the host's RF_OFF. -/
def Sequencer.takesRfOff (q : Sequencer) : Bool :=
  q.state == .rampUp || q.state == .onAir || q.state == .muted || q.state == .recoveryWait

/-- States that take the host's MUTE. -/
def Sequencer.takesMute (q : Sequencer) : Bool :=
  (q.state == .tuning && q.tuneMode == .auto) || q.state == .rampUp || q.state == .onAir

/-- A tune frequency inside the transmitter's own. -/
def State.tuneInRange (s : State) (t freq : Nat) : Bool :=
  match s.tx t with
  | some r => within r.freqLow r.freqHigh freq
  | none => false

/-- A power within the rating and, with the row routed to an antenna, the antenna's max_kw. -/
def State.powerInRange (s : State) (t power : Nat) : Bool :=
  (match s.tx t with | some r => decide (power ≤ r.ratingKw) | none => false) &&
  (match s.routeAntenna t with
   | some a => match s.ant a with | some r => decide (power ≤ r.maxKw) | none => true
   | none => true)

/-- The licence check with the row routed to an antenna. -/
def State.powerLicensed (s : State) (t power : Nat) : Bool :=
  match s.routeAntenna t with
  | some a => s.licensed t a ((s.seq t).tunedFreq.getD 0) power
  | none => true

def State.tuneChecks (s : State) (t freq : Nat) : List (Bool × Status) :=
  s.orderChecks t (freqOk freq) Sequencer.takesTune ++ [(!s.tuneInRange t freq, .range)]

def State.powerChecks (s : State) (t power : Nat) (fields : Bool) (takes : Sequencer → Bool) : List (Bool × Status) :=
  s.orderChecks t fields takes ++ [(!s.powerInRange t power, .range), (!s.powerLicensed t power, .licence)]

/-! ## Taking an order for the host -/

/-- OK once the order has been taken; the body says whether its frame has gone out (notes/assumptions/22.md). -/
def State.orderTaken (s : State) (t : Nat) (kind : OrderKind) : State :=
  let u := s.settled
  u.answer 0x60 .ok (flag !((u.seq t).queue.any fun x => x.order.kind == kind))

/-- TUNE_PRESET: the lookup decides whether it is taken, and what it finds in error is part of the refusal. DESIGN CHOICE: a refusal is
not recorded as the last order outcome NO_PRESET (R150, R208, notes/assumptions/33.md). -/
def State.hostTunePreset (s : State) (t freq : Nat) : State :=
  let r := s.takeTunePreset t freq .host
  if r.2 then r.1.orderTaken t .tunePreset else r.1.answer 0x60 .unavailable []

/-- TX_ORDER_TUNE_PRESET, R159, R150. -/
def execTxOrderTunePreset (tx freq : Nat) (s : State) : Host.Outcome State Fault Refusal :=
  hostRequest (.txOrderTunePreset tx freq) (fun s => s.request 0x60 (s.tuneChecks tx freq) fun s => s.hostTunePreset tx freq) s

/-- TX_ORDER_TUNE_AUTO, R159, R150. -/
def execTxOrderTuneAuto (tx freq : Nat) (s : State) : Host.Outcome State Fault Refusal :=
  hostRequest (.txOrderTuneAuto tx freq) (fun s => s.request 0x60 (s.tuneChecks tx freq) fun s =>
    (s.takeTuneAuto tx freq .host).orderTaken tx .tuneAuto) s

/-- TX_ORDER_RF_ON, R159, R151: the limit is the ordered power (R162). -/
def execTxOrderRfOn (tx power feed : Nat) (s : State) : Host.Outcome State Fault Refusal :=
  hostRequest (.txOrderRfOn tx power feed) (fun s =>
    s.request 0x60 (s.powerChecks tx power (powerOk power && feedOk feed) fun q => q.state == .tuned) fun s =>
      ((s.setLimit tx power).takeRfOn tx power feed .host).orderTaken tx .rfOn) s

/-- TX_ORDER_RF_OFF, R159, R152. -/
def execTxOrderRfOff (tx : Nat) (s : State) : Host.Outcome State Fault Refusal :=
  hostRequest (.txOrderRfOff tx) (fun s => s.request 0x60 (s.orderChecks tx true Sequencer.takesRfOff) fun s =>
    (s.takeRfOff tx .host).orderTaken tx .rfOff) s

/-- TX_ORDER_MUTE, R159, R154. -/
def execTxOrderMute (tx : Nat) (s : State) : Host.Outcome State Fault Refusal :=
  hostRequest (.txOrderMute tx) (fun s => s.request 0x60 (s.orderChecks tx true Sequencer.takesMute) fun s =>
    (s.muteFor tx .host .host none).orderTaken tx .mute) s

/-- TX_ORDER_POWER, R159, R152: the limit is the ordered power (R162). -/
def execTxOrderPower (tx power : Nat) (s : State) : Host.Outcome State Fault Refusal :=
  hostRequest (.txOrderPower tx power) (fun s =>
    s.request 0x60 (s.powerChecks tx power (powerOk power) Sequencer.takesPower) fun s =>
      ((s.setLimit tx power).enqueue tx (.power power) .host).orderTaken tx .power) s

/-- TX_ORDER_FEED, R159. -/
def execTxOrderFeed (tx feed : Nat) (s : State) : Host.Outcome State Fault Refusal :=
  hostRequest (.txOrderFeed tx feed) (fun s =>
    s.request 0x60 (s.orderChecks tx (feedOk feed) fun q => q.state.takesFeed) fun s =>
      (s.takeFeed tx feed .host).orderTaken tx .feed) s

/-- TX_ORDER_CLEAR_TRIP, R159, R157. -/
def execTxOrderClearTrip (tx : Nat) (s : State) : Host.Outcome State Fault Refusal :=
  hostRequest (.txOrderClearTrip tx) (fun s => s.request 0x60 (s.orderChecks tx true fun q => q.state == .fault) fun s =>
    (s.clearTrip tx .host).orderTaken tx .clearTrip) s

/-- TX_STATUS, R160. -/
def execTxStatus (tx : Nat) (s : State) : Host.Outcome State Fault Refusal :=
  hostRequest (.txStatus tx) (fun s => s.report 0x61 [(s.badTx tx, .range)] (s.sequencerBody tx)) s

/-! ## Reports and links, R137 to R141 -/

/-- TX_REPORT, R141: a link above tx_count is held idle, and what it brings in is disregarded (R137). -/
def execTxReport (tx : Nat) (report : Report) (s : State) : Host.Outcome State Fault Refusal :=
  if s.badTx tx then .next s else .next (s.takeReport tx report).settled

/-! ## The receiver of a link, R138 -/

/-- Why a transmitter link drops a frame. -/
inductive LinkDiscard where
  | crc | length | format
deriving DecidableEq, Repr

/-- What the receiver makes of one octet. -/
inductive LinkEvent where
  | none | syncs
  | discard (reason : LinkDiscard)
  | report (r : Report)
deriving DecidableEq, Repr

/-- The transmitter state octet of a report, 12.6. -/
def txStateOf (n : Nat) : TxState :=
  match n with
  | 0 => .off | 1 => .tuning | 2 => .tuned | 3 => .ramping | 4 => .on | 5 => .muted | 6 => .fault | c => .other c

/-- The last order outcome octet of a report, 12.6. -/
def orderAnswerOf (n : Nat) : OrderAnswer :=
  match n with
  | 0 => .none | 1 => .accepted | 2 => .refused | c => .other c

/-- The body length matches the presence octet of the tune result; a presence octet above 1 matches none. -/
def reportBodyOk (body : List Byte) : Bool :=
  (body.length == 12 && octetAt body 11 == 0) || (body.length == 22 && octetAt body 11 == 1)

/-- The report a body spells, 12.6. -/
def reportOf (body : List Byte) : Report :=
  { txState := txStateOf (octetAt body 0), freq := wordAt body 1, pf := wordAt body 3, pr := wordAt body 5,
    lastNumber := octetAt body 7, lastAnswer := orderAnswerOf (octetAt body 8), reason := octetAt body 9, tripCode := octetAt body 10,
    tune := if octetAt body 11 = 1 then
        some { s1 := wordAt body 12, s2 := wordAt body 14, s3 := wordAt body 16, s4 := wordAt body 18, quality := wordAt body 20 }
      else none }

/-- Step 4: the octets from the length octet to the end of the CRC-16 are checked. -/
def checkLinkFrame (octets : List Byte) : LinkEvent :=
  let covered := octets.take (octets.length - 2)
  if (crc16 covered).toNat ≠ wordAt octets (octets.length - 2) then .discard .crc
  else if octetAt octets 1 ≠ 0x50 ∨ !reportBodyOk (covered.drop 2) then .discard .format
  else .report (reportOf (covered.drop 2))

/-- Steps 1 to 3: one octet comes in. -/
def LinkReceiver.take (x : LinkReceiver) (b : Byte) : LinkReceiver × LinkEvent :=
  match x with
  | .hunt => (if b = 0xB4 then .huntSync else .hunt, .none)
  | .huntSync => if b = 0xB4 then (.sync, .syncs) else (.hunt, .none)
  | .sync =>
    if b = 0xB4 then (.sync, .none)
    else if b = 0 ∨ 60 < b.toNat then (.hunt, .discard .length)
    else (.taking [b], .none)
  | .taking octets =>
    let taken := octets ++ [b]
    if taken.length = octetAt taken 0 + 3 then (.hunt, checkLinkFrame taken) else (.taking taken, .none)

/-- The counter a discarded link frame raises. -/
def LinkCounters.discard (c : LinkCounters) (reason : LinkDiscard) : LinkCounters :=
  match reason with
  | .crc => { c with crc := satSucc 65535 c.crc }
  | .length => { c with length := satSucc 65535 c.length }
  | .format => { c with format := satSucc 65535 c.format }

/-- Two sync octets in a row have come in HUNT: they are counted, and the receiver is in SYNC. -/
def Sequencer.syncFound (q : Sequencer) : Sequencer :=
  { q with receiver := .sync, counters := { q.counters with syncs := satSucc 65535 q.counters.syncs } }

/-- The receiver takes one octet of the link, and a valid report is taken. -/
def State.takeLinkOctet (s : State) (t : Nat) (b : Byte) : State :=
  let q := s.seq t
  let r := q.receiver.take b
  match r.2 with
  | .none => s.setSeq t { q with receiver := r.1 }
  | .syncs => s.setSeq t q.syncFound
  | .discard reason => s.setSeq t { q with receiver := r.1, counters := q.counters.discard reason }
  | .report report => (s.takeReport t report).settled

/-- TX_FRAME_DISCARD, R138: the octets that come in on the link and end in a discarded frame. A discarded frame changes no other state
of the sequencer (notes/assumptions/3.md). -/
def execTxFrameDiscard (tx : Nat) (octets : List Byte) (s : State) : Host.Outcome State Fault Refusal :=
  if s.badTx tx then .next s else .next (octets.foldl (fun s b => s.takeLinkOctet tx b) s)

/-- TX_LINK_SYNC_FOUND, R138: two sync octets in a row in HUNT. -/
def execTxLinkSyncFound (tx : Nat) (s : State) : Host.Outcome State Fault Refusal :=
  if s.badTx tx then .next s
  else
    let q := s.seq tx
    if q.receiver = .hunt ∨ q.receiver = .huntSync then .next (s.setSeq tx q.syncFound) else .next s

/-- TX_LINK_TIMEOUT, R139, R158. -/
def execTxLinkTimeout (tx : Nat) (s : State) : Host.Outcome State Fault Refusal :=
  if (s.seq tx).link = .up then .next ((s.reach (s.linkDeadline tx)).linkBecomesLost tx).settled else .next s

/-- REPORT_STALE, R141, R164: staleness alone ends the restore run and nothing else. -/
def execReportStale (tx : Nat) (s : State) : Host.Outcome State Fault Refusal :=
  match (s.seq tx).report with
  | some h => .next ((s.reach (h.arrived + s.params.txStaleDs * 100 + 1)).checkStale tx)
  | none => .next s

/-! ## Deadlines and state timers -/

/-- ORDER_DEADLINE, R145. -/
def execOrderDeadline (tx : Nat) (s : State) : Host.Outcome State Fault Refusal :=
  match (s.seq tx).outstanding with
  | some o => .next ((s.reach (o.sentAt + s.params.orderDs * 100)).orderFailed tx o.owner .timeout .orderTimeout).settled
  | none => .next s

/-- TUNE_TIMEOUT, R150, R157. -/
def execTuneTimeout (tx : Nat) (s : State) : Host.Outcome State Fault Refusal :=
  match (s.seq tx).state, (s.seq tx).timer with
  | .tuning, some d => .next ((s.reach d).seqFault tx .tuneTimeout).settled
  | _, _ => .next s

/-- RAMP_FAIL, R151: the trip, and the mute it brings. -/
def execRampFail (tx : Nat) (s : State) : Host.Outcome State Fault Refusal :=
  match (s.seq tx).state, (s.seq tx).timer with
  | .rampUp, some d => .next ((s.reach d).tripWith tx .rampFail 0 .sequencer).settled
  | _, _ => .next s

/-- OFF_TIMEOUT, R152, R157. -/
def execOffTimeout (tx : Nat) (s : State) : Host.Outcome State Fault Refusal :=
  match (s.seq tx).state, (s.seq tx).timer with
  | .rampDown, some d => .next ((s.reach d).seqFault tx .offTimeout).settled
  | _, _ => .next s

/-- RECOVERY_WAIT_END, R155. -/
def execRecoveryWaitEnd (tx : Nat) (s : State) : Host.Outcome State Fault Refusal :=
  match (s.seq tx).state, (s.seq tx).timer with
  | .recoveryWait, some d => .next ((s.reach d).recoveryWaitTest tx).settled
  | _, _ => .next s

end Sys2Proof.Machine
end

