-- ==== Sys2Proof/Machine/ProtCmds.lean ====
section
/-! DEFINITION. The meanings of the requests to the Protection Unit, chapter 9. -/

namespace Sys2Proof.Machine

open Sys2Proof

/-- PROT_SET, R174. -/
def execProtSet (settings : ProtSettings) (s : State) : Host.Outcome State Fault Refusal :=
  hostRequest (.protSet settings) (fun s => s.handle 0x68 [(!ProtSettings.inRange settings, .range)] fun s =>
    State.answer { s with pt := { s.pt with settings := settings } } 0x68 .ok []) s

/-- PROT_QUERY, R175: transmitter 0 asks for the settings and the arcs alone. -/
def execProtQuery (tx : Nat) (s : State) : Host.Outcome State Fault Refusal :=
  hostRequest (.protQuery tx) (fun s => s.report 0x69 [(decide (s.params.txCount < tx), .range)] (s.protectionBody tx)) s

/-- The sequencer leaves LOCKOUT for OFF, or for LINK_LOST when its link is LOST (R156). DESIGN CHOICE: what R158 does at the entry of
the link to LOST is not done again here (notes/assumptions/33.md). -/
def State.leaveLockout (s : State) (t : Nat) : State :=
  if (s.seq t).state = .lockout then s.enterSeq t (if (s.seq t).link = .lost then .linkLost else .off) none else s

/-- The trip history is emptied, and a lockout ends (R172). -/
def State.clearLockout (s : State) (t : Nat) : State :=
  if (s.prot t).lockout then
    ((s.setProt t { s.prot t with history := [], lockout := false }).leaveLockout t).postOnce .permits
  else s.setProt t { s.prot t with history := [] }

/-- LOCKOUT_CLEAR, R172: the reply says whether a lockout was ended. -/
def execLockoutClear (tx : Nat) (s : State) : Host.Outcome State Fault Refusal :=
  hostRequest (.lockoutClear tx) (fun s => s.request 0x6A [(s.badTx tx, .range)] fun s =>
    (s.clearLockout tx).answer 0x6A .ok (flag (s.prot tx).lockout)) s

end Sys2Proof.Machine
end

