-- ==== Sys2Proof/Machine/PresetCmds.lean ====
section
/-! DEFINITION. The meanings of the requests to the Preset Cache and of its events, chapter 10. -/

namespace Sys2Proof.Machine

open Sys2Proof

/-! ## PRESET_READ and PRESET_WRITE, R187, R188 -/

/-- The transmitter, set or way does not exist. -/
def badPlace (t n way : Nat) : Bool := !within 1 12 t || decide (63 < n) || decide (1 < way)

/-- The check outcome as the reply names it. -/
def WayCheck.outcome : WayCheck → ReadOutcome
  | .none => .none
  | .good => .good
  | .corrected => .corrected
  | .double => .double

/-- One way is read with the check of R178, and its reply tells what was found. -/
def State.readWay (s : State) (t n way : Nat) : State :=
  let r := s.checkWay t n way .host
  let x := r.1.presetSet t n
  r.1.answer 0x70 .ok (presetBody (x.way way) r.2.outcome x.lru)

/-- PRESET_READ, R187. -/
def execPresetRead (tx set way : Nat) (s : State) : Host.Outcome State Fault Refusal :=
  hostRequest (.presetRead tx set way) (fun s => s.handle 0x70 [(badPlace tx set way, .range)] fun s => s.readWay tx set way) s

/-- The fields lie in their ranges, the key belongs to the set, and the channel is not windowed. -/
def State.presetWriteOk (s : State) (n : Nat) (f : PresetFields) : Bool :=
  within 1 24 f.antenna && decide (f.channel ≤ 4760) && decide (f.s1 ≤ 4095) && decide (f.s2 ≤ 4095) && decide (f.s3 ≤ 4095) &&
  decide (f.s4 ≤ 4095) && decide (f.quality ≤ 999) && keySet f.antenna f.channel == n && !s.windowed f.channel

/-- The other way is read; the record is written unless that way then holds the same key. -/
def State.writeWay (s : State) (t n way : Nat) (f : PresetFields) : State :=
  let u := (s.checkWay t n (1 - way) .host).1
  let x := u.presetSet t n
  if (x.way (1 - way)).holds f.antenna f.channel then u.answer 0x71 .conflict []
  else
    (u.setPresetSet t n (x.setWay way (newRecord f.antenna f.channel f.s1 f.s2 f.s3 f.s4 f.quality))).answer 0x71 .ok []

/-- PRESET_WRITE, R188. -/
def execPresetWrite (tx set way : Nat) (fields : PresetFields) (s : State) : Host.Outcome State Fault Refusal :=
  hostRequest (.presetWrite tx set way fields) (fun s =>
    s.handle 0x71 [(badPlace tx set way || !s.presetWriteOk set fields, .range)] fun s => s.writeWay tx set way fields) s

/-! ## PRESET_FLUSH, R189: scope KEY 0, TRANSMITTER 1, ALL 2 -/

def flushRange (scope t ant channel : Nat) : Bool :=
  decide (2 < scope) || (decide (scope < 2) && !within 1 12 t) ||
  (scope == 0 && (!within 1 24 ant || decide (4760 < channel)))

/-- The valid records of every directory. -/
def State.validRecords (s : State) : Nat := countRecords s.pc.directories fun r => r.valid

/-- Both ways invalid and the LRU mark at way 0. -/
def PresetSet.flushed (x : PresetSet) : PresetSet := { way0 := x.way0.disable, way1 := x.way1.disable, lru := 0 }

/-- The key's set is read with its checks, and the way that holds the key is invalidated. -/
def State.flushKey (s : State) (t ant channel : Nat) : State :=
  let n := keySet ant channel
  let u := s.readSet t n .host
  let x := u.presetSet t n
  match x.find ant channel with
  | some way => u.setPresetSet t n (x.setWay way (x.way way).disable)
  | none => u

def State.flush (s : State) (scope t ant channel : Nat) : State :=
  if scope = 0 then s.flushKey t ant channel
  else if scope = 1 then
    { s with pc := { s.pc with
        directories := setNth s.pc.directories t ((nth s.pc.directories [] t).map PresetSet.flushed) } }
  else s.mapSets PresetSet.flushed

/-- PRESET_FLUSH, R189: the reply counts the records that were valid and are no longer (notes/assumptions/28.md). -/
def execPresetFlush (scope tx ant channel : Nat) (s : State) : Host.Outcome State Fault Refusal :=
  hostRequest (.presetFlush scope tx ant channel) (fun s => s.handle 0x72 [(flushRange scope tx ant channel, .range)] fun s =>
    let u := s.flush scope tx ant channel
    u.answer 0x72 .ok (u16 (s.validRecords - u.validRecords))) s

/-! ## Freeze and windows, 10.6, R179 -/

/-- The freeze is set; ON ends a restore in progress (R192). State ON is 0, OFF is 1 (R209). -/
def State.setFreeze (s : State) (on : Bool) : State :=
  let u : State := { s with pc := { s.pc with frozen := on } }
  if on then u.endRestore .frozen else u

/-- PRESET_FREEZE. -/
def execPresetFreeze (state : Nat) (s : State) : Host.Outcome State Fault Refusal :=
  hostRequest (.presetFreeze state) (fun s => s.handle 0x73 [(decide (1 < state), .range)] fun s =>
    (s.setFreeze (state == 0)).answer 0x73 .ok []) s

def windowRange (window enabled base exponent : Nat) : Bool :=
  !within 1 4 window || !yesNo enabled || decide (4760 < base) || decide (12 < exponent)

/-- PRESET_WINDOW, R179: the reply counts the records invalidated. -/
def execPresetWindow (window enabled base exponent : Nat) (s : State) : Host.Outcome State Fault Refusal :=
  hostRequest (.presetWindow window enabled base exponent) (fun s =>
    s.handle 0x74 [(windowRange window enabled base exponent, .range)] fun s =>
      let u := s.setWindow window { enabled := enabled == 1, base := base, exponent := exponent }
      u.answer 0x74 .ok (u16 (s.validRecords - u.validRecords))) s

/-! ## Save and restore, R190, R192 -/

/-- A save or a restore is in progress, or the store is at work on the area. -/
def State.copyBusy (s : State) : Bool := s.pc.save.isSome || s.pc.restore.isSome || s.saveAreaBusy

/-- PRESET_SAVE, R190: the blank test is a read of the store, and the reply waits for it (notes/assumptions/10.md). -/
def execPresetSave (s : State) : Host.Outcome State Fault Refusal :=
  hostRequest .presetSave (fun s => s.request 0x75 [(s.copyBusy, .busy)] fun s =>
    (s.hold 0x75).readSaveSector 64) s

/-- The restore begins and asks for page 0. -/
def State.startRestore (s : State) : State :=
  let counts : RestoreCounts :=
    { blank := 0, invalid := 0, bad := 0, windowed := 0, present := 0, full := 0, installed := 0 }
  State.readRestorePage
    { s with pc := { s.pc with restore := some { next := 0, dueAt := s.clock, waiting := false, counts := counts } } }

/-- PRESET_RESTORE, R192. -/
def execPresetRestore (s : State) : Host.Outcome State Fault Refusal :=
  hostRequest .presetRestore (fun s => s.request 0x76 [(s.pc.frozen, .state), (s.copyBusy, .busy)] fun s =>
    s.startRestore.answer 0x76 .ok []) s

/-- RESTORE_PAGE_READ, R192: the interval of 5 ms has ended and the next page is asked for. -/
def execRestorePageRead (s : State) : Host.Outcome State Fault Refusal :=
  match s.pc.restore with
  | some run => if run.waiting then .next s else .next (s.reach run.dueAt).readRestorePage.settled
  | none => .next s

/-! ## Errors and the scrubber, R185, R186 -/

/-- The latch is emptied and the more indicator cleared. -/
def State.emptyLatch (s : State) : State := { s with pc := { s.pc with latch := none, more := false } }

/-- PRESET_ERROR, R186. -/
def execPresetError (s : State) : Host.Outcome State Fault Refusal :=
  hostRequest .presetError (fun s => s.emptyLatch.answer 0x77 .ok s.presetErrorBody) s

/-- The record at the scrub position is checked, the position advances, and the next interval begins. -/
def State.scrub (s : State) : State :=
  let u := s.scrubRecord
  State.nextScrub { u with pc := u.pc.advanceScrub }

/-- SCRUB_CHECK, R185. -/
def execScrubCheck (s : State) : Host.Outcome State Fault Refusal :=
  match s.pc.scrubAt with
  | some m => .next (s.reach m).scrub
  | none => .next s

end Sys2Proof.Machine
end

