-- ==== Sys2Proof/Machine/DiagCmds.lean ====
section
/-! DEFINITION. The meanings of the requests to the Line Diagnostics Unit and of the events of its bus, chapter 11. -/

namespace Sys2Proof.Machine

open Sys2Proof

/-! ## Runs, R199, R202, R204 -/

def State.diagStartChecks (s : State) (antennas : List Nat) (steps : Nat) : List (Bool × Status) :=
  [(steps == 0 || decide (15 < steps) || antennas.any (fun a => !within 1 24 a) || !(antennas.any fun a => (s.ant a).isSome), .range),
   (s.ld.run != .idle, .busy), (s.safetyHalt, .state)]

/-- DIAG_START, R199. -/
def execDiagStart (antennas : List Nat) (steps : Nat) (s : State) : Host.Outcome State Fault Refusal :=
  hostRequest (.diagStart antennas steps) (fun s => s.request 0x78 (s.diagStartChecks antennas steps) fun s =>
    (s.startRun antennas steps).answer 0x78 .ok []) s

/-- DIAG_STOP, R202. -/
def execDiagStop (s : State) : Host.Outcome State Fault Refusal :=
  hostRequest .diagStop (fun s => s.request 0x79 [(s.ld.run != .active, .state)] fun s =>
    (s.endRun .stopped).answer 0x79 .ok []) s

/-- DIAG_QUERY, R204. -/
def execDiagQuery (s : State) : Host.Outcome State Fault Refusal := hostRequest .diagQuery (fun s => s.report 0x7A [] s.diagBody) s

/-! ## FAULT_CLEAR, R195 -/

/-- A test switch, slew drive or reverser of the antenna holds a fault. -/
def State.driveFaulted (s : State) (a : Nat) : Bool :=
  [testSwitch a, slewDrive a, reverserOf a].any fun m => (s.mover m).fault.isSome

def State.faultClearChecks (s : State) (a flags : Nat) : List (Bool × Status) :=
  [(decide (s.params.antCount < a) || (a != 0 && decide (255 < flags)), .range),
   (a != 0 && ((flags.testBit FaultFlag.drive.bit && s.driveFaulted a) ||
     (flags.testBit FaultFlag.route.bit && decide (2 ≤ (s.rowsNotOpen a).length))), .state)]

/-- The flags named leave the fault set. -/
def State.removeFaults (s : State) (a flags : Nat) : State :=
  (s.setFaultSet a (s.faultSet a &&& ~~~ BitVec.ofNat 8 flags)).postOnce .permits

/-- Antenna 0 names the bus. The reply carries the fault set of an antenna after the removal. -/
def State.clearFaults (s : State) (a flags : Nat) : State :=
  if a = 0 then (s.setDiag { s.ld with busFault := none }).answer 0x7B .ok []
  else
    let u := s.removeFaults a flags
    u.answer 0x7B .ok (u8 (u.faultSet a).toNat)

/-- FAULT_CLEAR, R195. -/
def execFaultClear (ant flags : Nat) (s : State) : Host.Outcome State Fault Refusal :=
  hostRequest (.faultClear ant flags) (fun s => s.request 0x7B (s.faultClearChecks ant flags) fun s => s.clearFaults ant flags) s

/-! ## The bus, R197 -/

/-- BUS_RESULT, R197. -/
def execBusResult (tag : Nat) (result : BusResult) (s : State) : Host.Outcome State Fault Refusal :=
  .next (s.takeBusResult tag result).settled

/-- MEASUREMENT_TIMEOUT, R197. -/
def execMeasurementTimeout (s : State) : Host.Outcome State Fault Refusal :=
  match s.ld.measurement with
  | some m => .next (s.reach (m.sentAt + 10000)).measurementLost.settled
  | none => .next s

end Sys2Proof.Machine
end

