-- ==== Sys2Proof/Machine/Dispatch.lean ====
section
/-! DEFINITION. Which meaning each command has: one arm per constructor, in the order of spec/opcode_table.json. -/

namespace Sys2Proof.Machine

open Sys2Proof

def exec (i : Instr) (s : State) : Host.Outcome State Fault Refusal :=
  match i with
  | .coldReset => Sys2Proof.Machine.execColdReset s
  | .restart => Sys2Proof.Machine.execRestart s
  | .echo data => Sys2Proof.Machine.execEcho data s
  | .ident => Sys2Proof.Machine.execIdent s
  | .alertQuery => Sys2Proof.Machine.execAlertQuery s
  | .alertClear flags => Sys2Proof.Machine.execAlertClear flags s
  | .alertMask mask => Sys2Proof.Machine.execAlertMask mask s
  | .unknownKindRequest kind => Sys2Proof.Machine.execUnknownKindRequest kind s
  | .hostFrameDiscard octets => Sys2Proof.Machine.execHostFrameDiscard octets s
  | .hostReceiveTimeout => Sys2Proof.Machine.execHostReceiveTimeout s
  | .hostFrameQueued kind body => Sys2Proof.Machine.execHostFrameQueued kind body s
  | .hallSet params => Sys2Proof.Machine.execHallSet params s
  | .hallQuery => Sys2Proof.Machine.execHallQuery s
  | .txDefine tx fields => Sys2Proof.Machine.execTxDefine tx fields s
  | .txQuery tx => Sys2Proof.Machine.execTxQuery tx s
  | .antDefine ant fields => Sys2Proof.Machine.execAntDefine ant fields s
  | .antQuery ant => Sys2Proof.Machine.execAntQuery ant s
  | .licenceWrite first total final lines => Sys2Proof.Machine.execLicenceWrite first total final lines s
  | .licenceQuery first => Sys2Proof.Machine.execLicenceQuery first s
  | .licenceLock => Sys2Proof.Machine.execLicenceLock s
  | .configSave => Sys2Proof.Machine.execConfigSave s
  | .configLoad => Sys2Proof.Machine.execConfigLoad s
  | .timeSet day second => Sys2Proof.Machine.execTimeSet day second s
  | .timeQuery => Sys2Proof.Machine.execTimeQuery s
  | .storeRead address length => Sys2Proof.Machine.execStoreRead address length s
  | .storeProgram address data => Sys2Proof.Machine.execStoreProgram address data s
  | .storeErase sector => Sys2Proof.Machine.execStoreErase sector s
  | .storeStatus => Sys2Proof.Machine.execStoreStatus s
  | .bookOpen book season firstDay lastDay => Sys2Proof.Machine.execBookOpen book season firstDay lastDay s
  | .entryAdd book record => Sys2Proof.Machine.execEntryAdd book record s
  | .bookSeal book count crc => Sys2Proof.Machine.execBookSeal book count crc s
  | .bookVerify book => Sys2Proof.Machine.execBookVerify book s
  | .bookQuery book => Sys2Proof.Machine.execBookQuery book s
  | .findingsQuery book => Sys2Proof.Machine.execFindingsQuery book s
  | .entryRead book position => Sys2Proof.Machine.execEntryRead book position s
  | .bookErase book => Sys2Proof.Machine.execBookErase book s
  | .handoverSet book day second => Sys2Proof.Machine.execHandoverSet book day second s
  | .handoverCancel book => Sys2Proof.Machine.execHandoverCancel book s
  | .execStart => Sys2Proof.Machine.execExecStart s
  | .execStop => Sys2Proof.Machine.execExecStop s
  | .execHold => Sys2Proof.Machine.execExecHold s
  | .execRelease => Sys2Proof.Machine.execExecRelease s
  | .dutyQuery tx => Sys2Proof.Machine.execDutyQuery tx s
  | .txManual tx => Sys2Proof.Machine.execTxManual tx s
  | .txAuto tx => Sys2Proof.Machine.execTxAuto tx s
  | .occurrenceSkip tx entryId day => Sys2Proof.Machine.execOccurrenceSkip tx entryId day s
  | .move mover position => Sys2Proof.Machine.execMove mover position s
  | .moverQuery mover => Sys2Proof.Machine.execMoverQuery mover s
  | .antennaStatus ant => Sys2Proof.Machine.execAntennaStatus ant s
  | .moverClear mover => Sys2Proof.Machine.execMoverClear mover s
  | .survey => Sys2Proof.Machine.execSurvey s
  | .safetyDefine input kind level rows => Sys2Proof.Machine.execSafetyDefine input kind level rows s
  | .permitQuery => Sys2Proof.Machine.execPermitQuery s
  | .txOrderTunePreset tx freq => Sys2Proof.Machine.execTxOrderTunePreset tx freq s
  | .txOrderTuneAuto tx freq => Sys2Proof.Machine.execTxOrderTuneAuto tx freq s
  | .txOrderRfOn tx power feed => Sys2Proof.Machine.execTxOrderRfOn tx power feed s
  | .txOrderRfOff tx => Sys2Proof.Machine.execTxOrderRfOff tx s
  | .txOrderMute tx => Sys2Proof.Machine.execTxOrderMute tx s
  | .txOrderPower tx power => Sys2Proof.Machine.execTxOrderPower tx power s
  | .txOrderFeed tx feed => Sys2Proof.Machine.execTxOrderFeed tx feed s
  | .txOrderClearTrip tx => Sys2Proof.Machine.execTxOrderClearTrip tx s
  | .txStatus tx => Sys2Proof.Machine.execTxStatus tx s
  | .protSet settings => Sys2Proof.Machine.execProtSet settings s
  | .protQuery tx => Sys2Proof.Machine.execProtQuery tx s
  | .lockoutClear tx => Sys2Proof.Machine.execLockoutClear tx s
  | .presetRead tx set way => Sys2Proof.Machine.execPresetRead tx set way s
  | .presetWrite tx set way fields => Sys2Proof.Machine.execPresetWrite tx set way fields s
  | .presetFlush scope tx ant channel => Sys2Proof.Machine.execPresetFlush scope tx ant channel s
  | .presetFreeze state => Sys2Proof.Machine.execPresetFreeze state s
  | .presetWindow window enabled base exponent => Sys2Proof.Machine.execPresetWindow window enabled base exponent s
  | .presetSave => Sys2Proof.Machine.execPresetSave s
  | .presetRestore => Sys2Proof.Machine.execPresetRestore s
  | .presetError => Sys2Proof.Machine.execPresetError s
  | .diagStart antennas steps => Sys2Proof.Machine.execDiagStart antennas steps s
  | .diagStop => Sys2Proof.Machine.execDiagStop s
  | .diagQuery => Sys2Proof.Machine.execDiagQuery s
  | .faultClear ant flags => Sys2Proof.Machine.execFaultClear ant flags s
  | .timePulse => Sys2Proof.Machine.execTimePulse s
  | .oscillatorMark => Sys2Proof.Machine.execOscillatorMark s
  | .windowClose => Sys2Proof.Machine.execWindowClose s
  | .holdoverEntry => Sys2Proof.Machine.execHoldoverEntry s
  | .pendingExpiry => Sys2Proof.Machine.execPendingExpiry s
  | .operationEnd passed => Sys2Proof.Machine.execOperationEnd passed s
  | .operationOverrun => Sys2Proof.Machine.execOperationOverrun s
  | .progressGuardEnd => Sys2Proof.Machine.execProgressGuardEnd s
  | .verifyEnd => Sys2Proof.Machine.execVerifyEnd s
  | .reindexEnd => Sys2Proof.Machine.execReindexEnd s
  | .contactChange mover position made => Sys2Proof.Machine.execContactChange mover position made s
  | .settleEnd mover => Sys2Proof.Machine.execSettleEnd mover s
  | .validateEnd mover => Sys2Proof.Machine.execValidateEnd mover s
  | .travelTimeout mover => Sys2Proof.Machine.execTravelTimeout mover s
  | .watchEnd mover => Sys2Proof.Machine.execWatchEnd mover s
  | .moverReadEnd mover => Sys2Proof.Machine.execMoverReadEnd mover s
  | .rowCold row => Sys2Proof.Machine.execRowCold row s
  | .safetyInputEdge input level => Sys2Proof.Machine.execSafetyInputEdge input level s
  | .releaseWindowEnd input => Sys2Proof.Machine.execReleaseWindowEnd input s
  | .safetyResetAlert => Sys2Proof.Machine.execSafetyResetAlert s
  | .arcInput ant => Sys2Proof.Machine.execArcInput ant s
  | .arcHoldEnd ant => Sys2Proof.Machine.execArcHoldEnd ant s
  | .txReport tx report => Sys2Proof.Machine.execTxReport tx report s
  | .txFrameDiscard tx octets => Sys2Proof.Machine.execTxFrameDiscard tx octets s
  | .txLinkTimeout tx => Sys2Proof.Machine.execTxLinkTimeout tx s
  | .reportStale tx => Sys2Proof.Machine.execReportStale tx s
  | .orderDeadline tx => Sys2Proof.Machine.execOrderDeadline tx s
  | .tuneTimeout tx => Sys2Proof.Machine.execTuneTimeout tx s
  | .rampFail tx => Sys2Proof.Machine.execRampFail tx s
  | .offTimeout tx => Sys2Proof.Machine.execOffTimeout tx s
  | .recoveryWaitEnd tx => Sys2Proof.Machine.execRecoveryWaitEnd tx s
  | .scrubCheck => Sys2Proof.Machine.execScrubCheck s
  | .restorePageRead => Sys2Proof.Machine.execRestorePageRead s
  | .busResult tag result => Sys2Proof.Machine.execBusResult tag result s
  | .measurementTimeout => Sys2Proof.Machine.execMeasurementTimeout s
  | .hostStartOctet => Sys2Proof.Machine.execHostStartOctet s
  | .huntStopBitError => Sys2Proof.Machine.execHuntStopBitError s
  | .txLinkSyncFound tx => Sys2Proof.Machine.execTxLinkSyncFound tx s
  | .verifierRead => Sys2Proof.Machine.execVerifierRead s

end Sys2Proof.Machine
end

