-- ==== Sys2Proof/Machine/Idle.lean ====
section
/-! DEFINITION. What the part does when no command is waiting: the waiting frame comes to the head of the receive buffer (R207), or
one millisecond passes (notes/assumptions/1.md and 3.md). -/

namespace Sys2Proof.Machine

open Sys2Proof

/-- The receive buffer without its oldest waiting frame. -/
def State.frameTaken (s : State) (rest : List WaitingFrame) (serving : Bool) : State :=
  { s with lc := { s.lc with waiting := rest, serving := serving } }

/-- The clock advances by one millisecond and nothing else changes. -/
def State.tick (s : State) : State := { s with clock := s.clock + 1 }

/-- The waiting frame is handled once no reply is held; otherwise time passes. -/
def idle (s : State) : Host.Outcome State Fault Refusal :=
  match s.lc.held, s.lc.waiting with
  | none, .request c :: rest => exec c (s.frameTaken rest true)
  | none, .malformed kind status :: rest => .next ((s.frameTaken rest false).answer kind status [])
  | _, _ => .next s.tick

/-- The state with a command at the front of its queue. -/
def State.enqueueFront (s : State) (c : Instr) : State := { s with pending := c :: s.pending }

end Sys2Proof.Machine
end

