-- ==== Sys2Proof/Safety.lean ====
section
/-! DEFINITION. What a safe state is, in the manual's own terms: the array in its canonical form, the Time Base's fields as its state
says (R18, R24); when a host request is handled at once (R207); and what the hand-overs between blocks never touch. -/

namespace Sys2Proof.Machine

open Sys2Proof

/-- The array is in its canonical form (R30; notes/assumptions/4.md). -/
def State.arrayWf (s : State) : Prop := memWf s.ss.array = true

/-- The Time Base holds an instant exactly while the time is valid, and PENDING holds an armed value (R18, R24). -/
def State.timeWf (s : State) : Prop :=
  (s.tb.instant.isSome = true ↔ s.timeValid = true) ∧ (s.tb.state = .pending → s.tb.pendingSet.isSome = true)

/-- A request is handled at once: nothing is being handled and nothing waits (R207). -/
def State.ready (s : State) : Prop := s.lc.serving = false ∧ s.lc.held = none ∧ s.lc.waiting = []

/-- The state once a request frame is complete: the receiver is in HUNT (R206). -/
def State.received (s : State) : State := { s with lc := { s.lc with receiver := .hunt } }

/-- The store has nothing in flight and nobody waits for it (R35, R41). -/
def Store.idle (x : Store) : Prop :=
  x.state = .ready ∧ x.operation = none ∧ x.item = none ∧ x.work = [] ∧ x.readWait = [] ∧ x.offerWait = []

/-! ## The sizes of the tables -/

def Matrix.sizes (x : Matrix) : List Nat := [x.movers.length, x.rowFaults.length, x.claims.length]

def Executor.sizes (x : Executor) : List Nat := [x.duties.length, x.changeovers.length]

def PresetCache.sizes (x : PresetCache) : List Nat := x.windows.length :: x.directories.map List.length

def Diagnostics.sizes (x : Diagnostics) : List Nat := [x.faults.length, x.lastChecked.length]

/-- The lengths of the tables that are numbered by transmitter, antenna, mover, safety input or window. -/
def State.sizes (s : State) : List Nat :=
  [s.ht.txs.length, s.ht.ants.length, s.pu.rows.length, s.pu.inputs.length, s.pu.arcHolds.length, s.tq.length, s.pt.txs.length,
   s.pt.arcs.length] ++ s.mc.sizes ++ s.se.sizes ++ s.ld.sizes ++ s.pc.sizes

/-- Every table has the length its chapter gives: 12 transmitters, 24 antennas, 372 movers, 8 safety inputs, 4 windows, and 12
directories of 64 sets. -/
def State.sized (s : State) : Prop :=
  s.sizes = [12, 24, 12, 8, 24, 12, 12, 24, 372, 12, 24, 12, 12, 24, 24, 4] ++ List.replicate 12 64

/-- A transmitter that is the host's to order: MANUAL duty, a record, and no order outstanding or queued (R142, R159). -/
structure State.FreeForOrder (s : State) (t : Nat) (r : TxRecord) : Prop where
  ready : s.ready
  sized : s.sized
  number : 1 ≤ t ∧ t ≤ 12 ∧ t ≤ s.params.txCount
  manual : (s.duty t).mode = .manual
  record : s.tx t = some r
  outstanding : (s.seq t).outstanding = none
  queue : (s.seq t).queue = []

/-- The order a host request of transmitter `t` has on the link once its frame has gone out now (R143, R144). -/
def State.hostOrder (s : State) (t : Nat) (o : Order) : Outstanding :=
  { order := o, number := ((s.seq t).counter + 1) % 256, owner := .host, sentAt := s.clock }

/-- What an ASSERTED line of row `t` rests on: a standing request (R127), and each group of R124 with the switches and drives as R99
and R113 have them. -/
structure State.Permitted (s : State) (t : Nat) : Prop where
  request : ((s.seq t).state = .tuning ∧ (s.seq t).tuneMode = .auto) ∨ (s.seq t).state = .rampUp ∨ (s.seq t).state = .onAir ∨
    (s.seq t).state = .rampDown
  route : ∃ m ∈ s.rowMovers t, s.isClosed m = true ∧ ∀ k ∈ s.rowMovers t, k ≠ m → s.isOpen k = true
  atRest : ∀ m ∈ s.rowMovers t, s.atRest m = true
  rowFault : s.rowFault t = []
  column : ∀ a, 1 ≤ a → a ≤ s.params.antCount → t ≤ s.params.txCount → s.isClosed (crosspoint t a) = true →
    (∀ m ∈ s.columnMovers a, m ≠ crosspoint t a → s.isOpen m = true) ∧ s.isOpen (testSwitch a) = true ∧
    s.atRest (slewDrive a) = true ∧ s.atRest (reverserOf a) = true ∧ s.faultSet a = 0 ∧ s.arcHold a = none
  safety : ∀ i ∈ s.pu.inputs, i.covers t = true → i.state = .inactive
  link : (s.seq t).link ≠ .lost
  lockout : (s.prot t).lockout = false

/-- The status table is exclusive (R114, R115): no occupant holds its antenna's reservation, and an antenna with a test claim has
neither occupant nor reservation. -/
def State.Exclusive (s : State) : Prop :=
  ∀ a, (∀ t, (s.claim a).occupant = some t → (s.claim a).reservation ≠ some t) ∧
    ((s.claim a).testClaim = true → (s.claim a).occupant = none ∧ (s.claim a).reservation = none)

/-- The key of a saved record image, as it was saved and as it reads once checked: it is in range, and its set is set `n` (R177,
R192; notes/assumptions/19.md). -/
def SavedKeyFits (saved checked : PresetRecord) (n : Nat) : Prop :=
  saved.antenna ≤ 31 ∧ saved.channel ≤ 8191 ∧ 1 ≤ checked.antenna ∧ checked.antenna ≤ 24 ∧ checked.channel ≤ 4760 ∧
    (checked.channel + 5 * checked.antenna) % 64 = n

/-! ## What hand-overs never touch -/

/-- The parts of the state that no hand-over between blocks changes: what waits, the clock, the hall tables, the Time Base, the
array, the safety inputs and arc holds, the protection settings, the freeze and windows, and the Link Controller but for its
alert flags, its reply and the request it handles; and the lengths of the tables. -/
structure Kept where
  pending : List Instr
  clock : Nat
  straps : Nat
  freeCount : Nat
  ht : HallTables
  tb : TimeBase
  array : List Host.Cell
  inputs : List SafetyInput
  arcHolds : List (Option Nat)
  resetAlertAt : Option Nat
  settings : ProtSettings
  windows : List PresetWindow
  frozen : Bool
  scrub : Nat × Nat × Nat × Option Nat
  lc : LinkController
  sizes : List Nat

/-- The alert flags, the reply and the request being handled are left out of what is compared. -/
def LinkController.lasting (l : LinkController) : LinkController := { l with alerts := 0, reply := none, held := none }

def State.kept (s : State) : Kept :=
  { pending := s.pending, clock := s.clock, straps := s.straps, freeCount := s.freeCount, ht := s.ht, tb := s.tb,
    array := s.ss.array, inputs := s.pu.inputs, arcHolds := s.pu.arcHolds, resetAlertAt := s.pu.resetAlertAt,
    settings := s.pt.settings, windows := s.pc.windows, frozen := s.pc.frozen,
    scrub := (s.pc.scrubTx, s.pc.scrubSet, s.pc.scrubWay, s.pc.scrubAt), lc := s.lc.lasting, sizes := s.sizes }

/-- `t` comes from `s` by hand-overs: what they never touch is the same, alert flags (R212) and fault flags (R194) stay set, and no
reply is sent unless a request is being handled. -/
structure Handed (s t : State) : Prop where
  kept : t.kept = s.kept
  alerts : ∀ k, s.lc.alerts.getLsbD k = true → t.lc.alerts.getLsbD k = true
  faults : ∀ a k, (s.faultSet a).getLsbD k = true → (t.faultSet a).getLsbD k = true
  reply : s.lc.held = none → t.lc.reply = s.lc.reply ∧ t.lc.held = none

end Sys2Proof.Machine

namespace Sys2Proof

/-- The commands that only report (R6, R12, R28, R46, R61, R97, R116, R122, R135, R160, R175, R204, R210). -/
def Instr.isQuery : Instr → Bool
  | .echo _ => true
  | .ident => true
  | .alertQuery => true
  | .unknownKindRequest _ => true
  | .hallQuery => true
  | .txQuery _ => true
  | .antQuery _ => true
  | .licenceQuery _ => true
  | .timeQuery => true
  | .storeStatus => true
  | .bookQuery _ => true
  | .findingsQuery _ => true
  | .dutyQuery _ => true
  | .moverQuery _ => true
  | .antennaStatus _ => true
  | .permitQuery => true
  | .txStatus _ => true
  | .protQuery _ => true
  | .diagQuery => true
  | _ => false

/-- The kind code of a request, the table of 12.5; none for an event and for a request of an unknown kind. -/
def Instr.requestKind : Instr → Option Nat
  | .restart => some 0x06
  | .echo _ => some 0x01
  | .ident => some 0x02
  | .alertQuery => some 0x03
  | .alertClear _ => some 0x04
  | .alertMask _ => some 0x05
  | .hallSet _ => some 0x10
  | .hallQuery => some 0x11
  | .txDefine _ _ => some 0x12
  | .txQuery _ => some 0x13
  | .antDefine _ _ => some 0x14
  | .antQuery _ => some 0x15
  | .licenceWrite _ _ _ _ => some 0x16
  | .licenceQuery _ => some 0x17
  | .licenceLock => some 0x18
  | .configSave => some 0x19
  | .configLoad => some 0x1A
  | .timeSet _ _ => some 0x20
  | .timeQuery => some 0x21
  | .storeRead _ _ => some 0x28
  | .storeProgram _ _ => some 0x29
  | .storeErase _ => some 0x2A
  | .storeStatus => some 0x2B
  | .bookOpen _ _ _ _ => some 0x30
  | .entryAdd _ _ => some 0x31
  | .bookSeal _ _ _ => some 0x32
  | .bookVerify _ => some 0x33
  | .bookQuery _ => some 0x34
  | .findingsQuery _ => some 0x35
  | .entryRead _ _ => some 0x36
  | .bookErase _ => some 0x37
  | .handoverSet _ _ _ => some 0x38
  | .handoverCancel _ => some 0x39
  | .execStart => some 0x40
  | .execStop => some 0x41
  | .execHold => some 0x42
  | .execRelease => some 0x43
  | .dutyQuery _ => some 0x44
  | .txManual _ => some 0x45
  | .txAuto _ => some 0x46
  | .occurrenceSkip _ _ _ => some 0x47
  | .move _ _ => some 0x50
  | .moverQuery _ => some 0x51
  | .antennaStatus _ => some 0x52
  | .moverClear _ => some 0x53
  | .survey => some 0x54
  | .safetyDefine _ _ _ _ => some 0x58
  | .permitQuery => some 0x59
  | .txOrderTunePreset _ _ => some 0x60
  | .txOrderTuneAuto _ _ => some 0x60
  | .txOrderRfOn _ _ _ => some 0x60
  | .txOrderRfOff _ => some 0x60
  | .txOrderMute _ => some 0x60
  | .txOrderPower _ _ => some 0x60
  | .txOrderFeed _ _ => some 0x60
  | .txOrderClearTrip _ => some 0x60
  | .txStatus _ => some 0x61
  | .protSet _ => some 0x68
  | .protQuery _ => some 0x69
  | .lockoutClear _ => some 0x6A
  | .presetRead _ _ _ => some 0x70
  | .presetWrite _ _ _ _ => some 0x71
  | .presetFlush _ _ _ _ => some 0x72
  | .presetFreeze _ => some 0x73
  | .presetWindow _ _ _ _ => some 0x74
  | .presetSave => some 0x75
  | .presetRestore => some 0x76
  | .presetError => some 0x77
  | .diagStart _ _ => some 0x78
  | .diagStop => some 0x79
  | .diagQuery => some 0x7A
  | .faultClear _ _ => some 0x7B
  | _ => none

/-- Requests whose rule makes a change part of the refusal, or whose status waits for a read of the store (R15, R39, R43, R61, R76,
R159, R188, R190). -/
def Instr.refusalActs : Instr → Bool
  | .configLoad => true
  | .txOrderTunePreset _ _ => true
  | .presetWrite _ _ _ _ => true
  | .presetSave => true
  | .entryRead _ _ => true
  | .storeRead _ _ => true
  | .occurrenceSkip _ _ _ => true
  | _ => false

/-- The commands that change the hall tables (R1, R4, R9 to R11, R14, R16, R17). -/
def Instr.changesHall : Instr → Bool
  | .coldReset => true
  | .restart => true
  | .hallSet _ => true
  | .txDefine _ _ => true
  | .antDefine _ _ => true
  | .licenceWrite _ _ _ _ => true
  | .licenceLock => true
  | .configLoad => true
  | _ => false

/-- The commands at which the content of the array changes (R33 to R37, R47, R48). -/
def Instr.changesArray : Instr → Bool
  | .coldReset => true
  | .restart => true
  | .operationEnd _ => true
  | .operationOverrun => true
  | _ => false

/-- The commands that change the Time Base (R18 to R29). -/
def Instr.changesTime : Instr → Bool
  | .coldReset => true
  | .timeSet _ _ => true
  | .timePulse => true
  | .oscillatorMark => true
  | .windowClose => true
  | .holdoverEntry => true
  | .pendingExpiry => true
  | _ => false

end Sys2Proof
end

