-- ==== Sys2Proof/Certificates/Slice0/Obligations.lean ====
section
/-! DEFINITION. The statements for the provers: what holds of the whole part at every command, and what each command does. A
statement of a request is made in a ready state (R207), where it is handled at once; `s.received` is the state its checks see. -/

open Sys2Proof Sys2Proof.Machine

/-! ## The queue and the clock -/

/-- The command at the front of the queue is the one that is run. -/
def Obligations.step_runs_the_command_at_the_front : Prop :=
  ∀ (c : Instr) (rest : List Instr) (s : State), step { s with pending := c :: rest } = exec c { s with pending := rest }

/-- R207 for a waiting frame; the tick of an empty queue is the model's own (notes/assumptions/1.md, 3.md). -/
def Obligations.empty_queue_handles_a_waiting_frame_or_ticks : Prop :=
  ∀ s : State, s.pending = [] →
    (∀ c rest, s.lc.held = none → s.lc.waiting = .request c :: rest →
      step s = exec c { s with lc := { s.lc with waiting := rest, serving := true } }) ∧
    (∀ kind status rest, s.lc.held = none → s.lc.waiting = .malformed kind status :: rest →
      step s = .next (State.answer { s with lc := { s.lc with waiting := rest, serving := false } } kind status [])) ∧
    (s.lc.held ≠ none ∨ s.lc.waiting = [] → step s = .next { s with clock := s.clock + 1 })

/-! ## The whole part -/

/-- No command stops the machine, whatever the state; the queue is left alone and time does not run backward. -/
def Obligations.every_command_completes : Prop :=
  ∀ (c : Instr) (s : State), ∃ t, exec c s = .next t ∧ t.pending = s.pending ∧ s.clock ≤ t.clock

/-- The invariants hold of the part right after reset. What chapters 1 to 12 give for cold reset, block by block (R16, R29, R47,
R136, R161, R176, R193, R205, R211); the executor is STOPPED and every duty AUTO by 5.1 and 5.2 (R68, R73). The model's own choices
are the values that rest on a blank array at power up: the counts, the empty licence and the open lock (notes/assumptions/4.md,
6.md), and the scan that is DONE at once (8.md). -/
def Obligations.reset_meets_the_invariants_and_the_chapters_values : Prop :=
  (State.reset.arrayWf ∧ State.reset.timeWf ∧ State.reset.sized ∧ State.reset.tb.elapsed ≤ 4294967295 ∧ State.reset.ready) ∧
  (let s := State.reset
   s.ht.params.txCount = 0 ∧ s.ht.params.antCount = 0 ∧ s.ht.licence = [] ∧ s.ht.locked = false ∧ s.ht.staging = none ∧
   s.tb.state = .invalid ∧ s.tb.instant = none ∧ s.tb.pendingSet = none ∧ s.tb.chain = [] ∧ s.tb.lastPulse = none ∧
   s.tb.elapsed = 0 ∧ s.tb.ignored = 0 ∧ s.tb.expected = s.clock + 1000 ∧
   s.ss.state = .ready ∧ s.ss.work = [] ∧ s.ss.lastHostOp = none ∧
   s.se.state = .stopped ∧ (∀ t, s.change t = none ∧ (s.duty t).mode = .auto) ∧
   (∀ r, (s.permit r).line = false ∧ (s.permit r).lastFall = none ∧ (s.permit r).drops = 0) ∧
   (∀ t, (s.seq t).state = .unknown ∧ (s.seq t).link = .down ∧ (s.seq t).counter = 0 ∧ (s.seq t).outstanding = none) ∧
   (∀ t, (s.prot t).lockout = false ∧ (s.prot t).counted = 0 ∧ (s.prot t).uncounted = 0) ∧
   s.pc.frozen = false ∧ s.pc.latch = none ∧ s.ld.run = .idle ∧ s.ld.busFault = none ∧
   s.lc.receiver = .hunt ∧ s.lc.waiting = [] ∧ s.lc.alerts = 0 ∧ s.lc.mask = 0xFFFF)

/-- The array keeps its canonical form, so equal contents are equal data (R30). Every table keeps its length. -/
def Obligations.array_and_tables_keep_their_form : Prop :=
  (∀ s t : State, s.arrayWf → step s = .next t → t.arrayWf) ∧
  (∀ s t : State, s.sized → step s = .next t → t.sized)

/-- The hall instant exists exactly while the time is valid, and PENDING holds an armed value (R18, R24). R18: the elapsed count
stops at 4294967295, never steps back, and advances by one at most. -/
def Obligations.time_base_stays_well_formed : Prop :=
  (∀ s t : State, s.timeWf → step s = .next t → t.timeWf) ∧
  (∀ (c : Instr) (s t : State), c ≠ .coldReset → s.tb.elapsed ≤ 4294967295 → exec c s = .next t →
     s.tb.elapsed ≤ t.tb.elapsed ∧ t.tb.elapsed ≤ s.tb.elapsed + 1 ∧ t.tb.elapsed ≤ 4294967295)

/-- R212: a flag that is set stays set until ALERT_CLEAR, RESTART or a cold reset. R194 to R196: a fault flag leaves by
FAULT_CLEAR on its antenna, by a change of ant_count or a cold reset, and, for UNCHECKED, by a result on the bus. -/
def Obligations.set_flags_leave_only_where_the_rules_say : Prop :=
  (∀ (c : Instr) (s t : State), c ≠ .restart → c ≠ .coldReset → (∀ f, c ≠ .alertClear f) → exec c s = .next t →
     ∀ k, s.lc.alerts.getLsbD k = true → t.lc.alerts.getLsbD k = true) ∧
  (∀ (c : Instr) (s t : State) (a k : Nat), c ≠ .coldReset → c ≠ .configLoad → (∀ p, c ≠ .hallSet p) → (∀ f, c ≠ .faultClear a f) →
     ((∀ tag r, c ≠ .busResult tag r) ∨ k ≠ FaultFlag.unchecked.bit) → exec c s = .next t →
     (s.faultSet a).getLsbD k = true → (t.faultSet a).getLsbD k = true)

/-- The hall tables change only at the commands of chapter 1 and at the resets. R11: while the lock is LOCKED, nothing but a cold
reset changes the licence or the lock. The array changes only where an operation ends or is cut short, and the Time Base only at
its own commands. The protection settings, the preset windows, the freeze, the alert mask and the safety definitions change only
at the command that sets them, at CONFIG_LOAD and at cold reset. -/
def Obligations.blocks_change_only_at_their_own_commands : Prop :=
  (∀ (c : Instr) (s t : State), c.changesHall = false → exec c s = .next t → t.ht = s.ht) ∧
  (∀ (c : Instr) (s t : State), c ≠ .coldReset → s.ht.locked = true → exec c s = .next t →
     t.ht.locked = true ∧ t.ht.licence = s.ht.licence) ∧
  (∀ (c : Instr) (s t : State), exec c s = .next t →
     (c.changesArray = false → t.ss.array = s.ss.array) ∧ (c.changesTime = false → t.tb = s.tb)) ∧
  (∀ (c : Instr) (s t : State), c ≠ .coldReset → c ≠ .configLoad → exec c s = .next t →
     ((∀ p, c ≠ .protSet p) → t.pt.settings = s.pt.settings) ∧
     ((∀ w e b k, c ≠ .presetWindow w e b k) → t.pc.windows = s.pc.windows) ∧
     ((∀ x, c ≠ .presetFreeze x) → t.pc.frozen = s.pc.frozen) ∧
     ((∀ m, c ≠ .alertMask m) → t.lc.mask = s.lc.mask) ∧
     ((∀ n k l r, c ≠ .safetyDefine n k l r) → ∀ n, (t.input n).kind = (s.input n).kind ∧ (t.input n).level = (s.input n).level ∧
       (t.input n).rows = (s.input n).rows))

/-- R208: a request that can be handled at once is answered, and a refusal changes nothing but the reply. -/
def Obligations.request_is_carried_out_or_refused_without_effect : Prop :=
  ∀ (c : Instr) (k : Nat) (s : State), c.requestKind = some k → c.refusalActs = false → s.ready →
    ∃ t r, exec c s = .next t ∧ t.lc.reply = some r ∧ r.kind = k ∧ t.lc.held = none ∧
      (r.status ≠ .ok → t = s.received.answer k r.status [])

/-- R207: a request whose frame is complete while another is handled or waits joins the buffer, or is an overflow. -/
def Obligations.request_waits_while_another_is_handled : Prop :=
  ∀ (c : Instr) (k : Nat) (s : State), c.requestKind = some k → s.lc.serving = false → (s.lc.held ≠ none ∨ s.lc.waiting ≠ []) →
    exec c s = .next (
      if (if s.lc.held.isSome then 1 else 0) + s.lc.waiting.length < 2 then
        { s with lc := { s.lc with receiver := .hunt, waiting := s.lc.waiting ++ [.request c] } }
      else
        State.alert { s with lc := { s.lc with receiver := .hunt, counters :=
          { s.lc.counters with overflow := satSucc 65535 s.lc.counters.overflow } } } .linkErr)

/-- The commands that only report change nothing but the reply (R6, R12, R28, R46, R61, R97, R116, R122, R135, R160, R175, R204).
R6, R12, R28, R46: the reports of the hall, the licence, the time and the store. R61: BOOK_QUERY is served in every state,
FINDINGS_QUERY outside the scan, and ENTRY_READ returns a record of the load buffer. R97, R116, R122, R135, R160, R175, R204: the
reports of the executor, the matrix, the permits, the sequencers, the protection and the diagnostics, in range. -/
def Obligations.reports_are_answered_and_change_nothing : Prop :=
  (∀ (c : Instr) (s : State), c.isQuery = true → s.ready →
     ∃ r, exec c s = .next { s with lc := { s.lc with receiver := .hunt, held := none, reply := some r } }) ∧
  (∀ s : State, s.ready →
     exec .hallQuery s = .next (s.received.answer 0x11 .ok s.hallBody) ∧
     (∀ n, 1 ≤ n → n ≤ s.params.txCount →
       exec (.txQuery n) s = .next (s.received.answer 0x13 .ok (opt (nth s.ht.txs none n) TxRecord.octets))) ∧
     (∀ a, 1 ≤ a → a ≤ s.params.antCount →
       exec (.antQuery a) s = .next (s.received.answer 0x15 .ok (opt (nth s.ht.ants none a) AntRecord.octets))) ∧
     (∀ first, first ≠ 0 → (first ≤ s.ht.licence.length ∨ s.ht.licence = []) →
       exec (.licenceQuery first) s = .next (s.received.answer 0x17 .ok (s.licenceBody first))) ∧
     exec .timeQuery s = .next (s.received.answer 0x21 .ok s.timeBody) ∧
     exec .storeStatus s = .next (s.received.answer 0x2B .ok s.storeBody)) ∧
  (∀ (b : Nat) (s : State), s.ready → b ≤ 1 →
     exec (.bookQuery b) s = .next (s.received.answer 0x34 .ok (s.bookBody b)) ∧
     (s.sb.scanRunning = false → exec (.findingsQuery b) s = .next (s.received.answer 0x35 .ok (s.findingsBody b))) ∧
     (∀ position r, s.sb.scanRunning = false → (s.book b).state = .loading → (s.book b).storedCount < position →
       position ≤ (s.book b).entriesAdded → s.recordAt b position = some r → s.notices = [] →
       exec (.entryRead b position) s = .next (s.received.answer 0x36 .ok r))) ∧
  (∀ s : State, s.ready →
     (∀ t, 1 ≤ t → t ≤ s.params.txCount → exec (.dutyQuery t) s = .next (s.received.answer 0x44 .ok (s.dutyBody t)) ∧
       exec (.txStatus t) s = .next (s.received.answer 0x61 .ok (s.sequencerBody t))) ∧
     (∀ m, 1 ≤ m → m ≤ 372 → exec (.moverQuery m) s = .next (s.received.answer 0x51 .ok (s.moverBody m))) ∧
     (∀ a, 1 ≤ a → a ≤ s.params.antCount → exec (.antennaStatus a) s = .next (s.received.answer 0x52 .ok (s.antennaBody a))) ∧
     exec .permitQuery s = .next (s.received.answer 0x59 .ok s.permitBody) ∧
     (∀ t, t ≤ s.params.txCount → exec (.protQuery t) s = .next (s.received.answer 0x69 .ok (s.protectionBody t))) ∧
     exec .diagQuery s = .next (s.received.answer 0x7A .ok s.diagBody))

/-! ## Resets -/

/-- R16, R29, R211: what a cold reset leaves of the Time Base, the hall tables, the array and the Link Controller. R17, R29, R211:
RESTART answers OK, and keeps the tables, the time, the array but for an operation cut short, the settings and the mask; the
buffer is empty. R16, R205: a good configuration record gives its parameters, its two tables within its counts, its settings, input
definitions and windows, and the fault sets hold exactly UNCHECKED for its antennas before the survey begins; without one they are the
defaults. R211, 12.4: at a cold reset the alert flags are empty, the mask enables all 16 and the counters are 0; RESTART clears
the flags and keeps the mask and the counters; either way no hand-over waits, so that only the survey and the book scan that follow can
set a flag. -/
def Obligations.resets_begin_anew_or_keep_what_the_rules_say : Prop :=
  (∀ s : State, ∃ t v : State, exec .coldReset s = .next t ∧ t = v.resetMatrix.startScan.settled ∧
     v.notices = [] ∧ v.lc.alerts = 0 ∧ t.lc.mask = 0xFFFF ∧ t.lc.counters = { crc := 0, timeout := 0, overflow := 0, stopBit := 0 } ∧
     t.lc.receiver = .hunt ∧ t.lc.waiting = [] ∧ t.ss.array = s.cutShort.ss.array ∧ t.tb = TimeBase.reset s.clock ∧
     t.ht.staging = none ∧ t.ht.locked = readLock s.cutShort.ss.array ∧ t.ht.licence = (readLicence s.cutShort.ss.array).2 ∧
     t.ht.licenceSource = (readLicence s.cutShort.ss.array).1 ∧
     (∀ c, readConfig s.cutShort.ss.array = (.loaded, some c) →
       t.ht.params = c.params ∧ t.ht.configSource = .loaded ∧ t.pt.settings = c.settings ∧ t.pc.windows = c.windows ∧
       (∀ n, nth t.ht.txs none n = if n ≤ c.params.txCount then nth c.txs none n else none) ∧
       (∀ a, nth t.ht.ants none a = if a ≤ c.params.antCount then
         (nth c.ants none a).map fun r => { r with neighbours := r.neighbours.filter fun b => decide (b ≤ c.params.antCount) }
         else none) ∧
       (s.sized → ∀ n, n < 8 → ∃ d, c.inputs[n]? = some d ∧ (t.input (n + 1)).kind = d.kind ∧ (t.input (n + 1)).level = d.level ∧
         (t.input (n + 1)).rows = d.rows) ∧
       (∀ a, v.faultSet a = if (t.ant a).isSome then FaultFlag.unchecked.mask else 0) ∧
       (∀ a, (t.ant a).isSome = true → (t.faultSet a).getLsbD FaultFlag.unchecked.bit = true)) ∧
     (∀ source, readConfig s.cutShort.ss.array = (source, none) →
       t.ht.params = HallParams.defaults ∧ t.ht.configSource = source ∧ t.ht.txs = List.replicate 12 none ∧
       t.ht.ants = List.replicate 24 none ∧ t.pt.settings = ProtSettings.defaults ∧
       t.pc.windows = List.replicate 4 { enabled := false, base := 0, exponent := 0 } ∧ (∀ a, v.faultSet a = 0)) ∧
     t.pc.frozen = false ∧ t.lc.lasting = (LinkController.reset s.straps).lasting ∧ t.lc.reply = none) ∧
  (∀ s : State, s.ready → ∃ t v : State, exec .restart s = .next t ∧ t = v.resetMatrix.startScan.settled ∧
     v.notices = [] ∧ v.lc.alerts = 0 ∧ t.lc.mask = s.lc.mask ∧ t.lc.counters = s.lc.counters ∧ t.lc.receiver = .hunt ∧ t.lc.waiting = [] ∧
     t.lc.reply = some { kind := 0x06, status := .ok, body := [] } ∧
     t.lc.lasting = { s.lc with receiver := .hunt, waiting := [], serving := false }.lasting ∧
     t.ht = { s.ht with staging := none } ∧ t.tb = s.tb ∧ t.ss.array = s.cutShort.ss.array ∧
     t.pt.settings = s.pt.settings ∧ t.pc.windows = s.pc.windows ∧ t.pc.frozen = s.pc.frozen ∧ t.clock = s.clock)

/-! ## Chapter 12: the link and the alerts -/

/-- R210, R208: ECHO, IDENT, ALERT_QUERY and a kind outside the table. R210: ALERT_CLEAR removes exactly the flags named,
ALERT_MASK replaces the mask; nothing else changes. -/
def Obligations.link_messages_answer_and_write_the_alert_words : Prop :=
  (∀ s : State, s.ready →
     (∀ data, exec (.echo data) s = .next (
       if 1 ≤ data.length ∧ data.length ≤ 240 then s.received.answer 0x01 .ok data else s.received.answer 0x01 .range [])) ∧
     exec .ident s = .next (s.received.answer 0x02 .ok s.identBody) ∧
     exec .alertQuery s = .next (s.received.answer 0x03 .ok (u16 s.lc.alerts.toNat ++ u16 s.lc.mask.toNat ++
       flag (s.lc.alerts &&& s.lc.mask != 0) ++ u16 s.lc.counters.crc ++ u16 s.lc.counters.timeout ++
       u16 s.lc.counters.overflow ++ u16 s.lc.counters.stopBit)) ∧
     (∀ kind, exec (.unknownKindRequest kind) s = .next (s.received.answer kind .unknownKind []))) ∧
  (∀ (w : Nat) (s : State), s.ready → w ≤ 65535 →
     exec (.alertClear w) s = .next { s with lc := { s.lc with
       receiver := .hunt, held := none, alerts := s.lc.alerts &&& ~~~ BitVec.ofNat 16 w
       reply := some { kind := 0x04, status := .ok, body := u16 (s.lc.alerts &&& ~~~ BitVec.ofNat 16 w).toNat } } } ∧
     exec (.alertMask w) s = .next { s with lc := { s.lc with
       receiver := .hunt, held := none, mask := BitVec.ofNat 16 w, reply := some { kind := 0x05, status := .ok, body := [] } } })

/-- R206: in HUNT octets other than 0x5A are passed over, a 0x5A starts a frame and its receive timer, and a bad stop bit is counted
without a flag. In TAKING a LEN of 0 or above 250 is a CRC discard at once; a frame takes LEN and two CRC octets more, whatever their
values; one whose CRC-16 does not match is a CRC discard; a bad stop bit and the end of the receive timer discard it too; each discard
is counted, sets LINK_ERR and leaves HUNT, and the octets after it are taken from there; octets change the Link Controller alone. A
frame whose CRC-16 matches goes to the receive buffer. That octets given to HOST_FRAME_DISCARD do so, and that HOST_START_OCTET and
HUNT_STOP_BIT_ERROR are one such octet each, in TAKING too, is the model's choice (notes/assumptions/3.md). R207, R208: a complete
frame waits as the request it spells, or as the refusal its form earns, while fewer than two are held, and is an overflow otherwise. -/
def Obligations.receiver_counts_discards_and_takes_frames : Prop :=
  (∀ (s : State) (r : HostReceiver), s.lc.receiver = .hunt →
     r = .taking [0x5A] s.clock (if s.params.hostTimeoutMs = 0 then none else some (s.clock + s.params.hostTimeoutMs)) →
     exec .hostStartOctet s = .next { s with lc := { s.lc with receiver := r } } ∧
     (∀ b, b ≠ 0x5A → exec (.hostFrameDiscard [.value b]) s = .next s) ∧
     exec .huntStopBitError s = .next { s with lc := { s.lc with counters :=
       { s.lc.counters with stopBit := satSucc 65535 s.lc.counters.stopBit } } }) ∧
  (∀ (s : State) (m : Nat) (d : Option Nat) (n : Byte) (rest octets : List Byte), s.lc.receiver = .taking [0x5A] m d →
     octets = n :: rest →
     (rest = [] → (n = 0 ∨ 250 < n.toNat) → exec (.hostFrameDiscard (octets.map .value)) s = .next (State.alert { s with lc :=
       { s.lc with receiver := .hunt, counters := { s.lc.counters with crc := satSucc 65535 s.lc.counters.crc } } } .linkErr)) ∧
     (1 ≤ n.toNat → n.toNat ≤ 250 → octets.length < n.toNat + 3 →
       exec (.hostFrameDiscard (octets.map .value)) s =
         .next { s with lc := { s.lc with receiver := .taking (0x5A :: octets) m d } }) ∧
     (1 ≤ n.toNat → n.toNat ≤ 250 → octets.length = n.toNat + 3 →
       ((crc16 (octets.take (octets.length - 2))).toNat ≠ wordAt octets (octets.length - 2) →
         exec (.hostFrameDiscard (octets.map .value)) s = .next (State.alert { s with lc := { s.lc with
           receiver := .hunt, counters := { s.lc.counters with crc := satSucc 65535 s.lc.counters.crc } } } .linkErr)) ∧
       ((crc16 (octets.take (octets.length - 2))).toNat = wordAt octets (octets.length - 2) →
         exec (.hostFrameDiscard (octets.map .value)) s =
           exec (.hostFrameQueued (octetAt octets 1) ((octets.take (octets.length - 2)).drop 2)) s))) ∧
  (∀ (s : State) (octets : List Byte) (m : Nat) (d : Option Nat), s.lc.receiver = .taking octets m d →
     exec (.hostFrameDiscard [.badStopBit]) s = .next (State.alert { s with lc := { s.lc with
       receiver := .hunt, counters := { s.lc.counters with stopBit := satSucc 65535 s.lc.counters.stopBit } } } .linkErr) ∧
     (∀ e, d = some e → exec .hostReceiveTimeout s = .next (State.alert { s with
       clock := max s.clock e
       lc := { s.lc with receiver := .hunt, counters := { s.lc.counters with timeout := satSucc 65535 s.lc.counters.timeout } } }
       .linkErr)) ∧
     (d = none → exec .hostReceiveTimeout s = .next s)) ∧
  (∀ (s : State) (xs ys : List LineOctet), exec .hostStartOctet s = exec (.hostFrameDiscard [.value 0x5A]) s ∧
     exec .huntStopBitError s = exec (.hostFrameDiscard [.badStopBit]) s ∧
     ∃ l, exec (.hostFrameDiscard xs) s = .next { s with lc := l } ∧
       exec (.hostFrameDiscard (xs ++ ys)) s = exec (.hostFrameDiscard ys) { s with lc := l }) ∧
  (∀ (kind : Nat) (body : List Byte) (s : State) (held : Nat), held = (if s.lc.held.isSome then 1 else 0) + s.lc.waiting.length →
     (held < 2 → ∀ c, decodeRequest kind body = .ok c → exec (.hostFrameQueued kind body) s =
       .next { s with lc := { s.lc with receiver := .hunt, waiting := s.lc.waiting ++ [.request c] } }) ∧
     (held < 2 → ∀ status, decodeRequest kind body = .error status → exec (.hostFrameQueued kind body) s =
       .next { s with lc := { s.lc with receiver := .hunt, waiting := s.lc.waiting ++ [.malformed kind status] } }) ∧
     (2 ≤ held → exec (.hostFrameQueued kind body) s = .next (State.alert { s with lc := { s.lc with receiver := .hunt, counters :=
       { s.lc.counters with overflow := satSucc 65535 s.lc.counters.overflow } } } .linkErr)))

/-! ## Chapter 1: hall tables and the licence -/

/-- R4: an accepted HALL_SET replaces the parameters; slots above the counts lose their records, neighbour lists the numbers above
ant_count, and the licence and the lock stay. -/
def Obligations.hall_set_replaces_the_parameters : Prop :=
  ∀ (p : HallParams) (s : State), s.ready → HallParams.inRange p = true → s.se.state = .stopped →
    (∀ n, p.txCount < n → n ≤ 12 → (s.tx n).isSome = true → (s.seq n).state = .off ∨ (s.seq n).state = .unknown) →
    (∀ a, p.antCount < a → a ≤ 24 → (s.claim a).occupant = none ∧ (s.claim a).reservation = none ∧ (s.claim a).testClaim = false) →
    ∃ t, exec (.hallSet p) s = .next t ∧ t.lc.reply = some { kind := 0x10, status := .ok, body := [] } ∧ t.ht.params = p ∧
      (∀ n, nth t.ht.txs none n = if n ≤ p.txCount then nth s.ht.txs none n else none) ∧
      (∀ a, nth t.ht.ants none a = if a ≤ p.antCount then
        (nth s.ht.ants none a).map fun r => { r with neighbours := r.neighbours.filter fun b => decide (b ≤ p.antCount) }
        else none) ∧
      t.ht.licence = s.ht.licence ∧ t.ht.locked = s.ht.locked ∧ t.ht.staging = s.ht.staging ∧ t.tb = s.tb ∧
      t.ss.array = s.ss.array

/-- R1: an accepted TX_DEFINE replaces the slot's record as a whole and changes nothing else. R2, R3: an accepted ANT_DEFINE
replaces the slot's record, and the antenna has UNCHECKED in its fault set. -/
def Obligations.tx_and_ant_define_replace_one_record : Prop :=
  (∀ (n : Nat) (f : TxFields) (s : State), s.ready → 1 ≤ n → n ≤ s.params.txCount → TxFields.inRange f = true →
     (s.duty n).mode = .manual → ((s.seq n).state = .off ∨ (s.seq n).state = .unknown) →
     exec (.txDefine n f) s = .next (State.answer
       { s.received with ht := { s.ht with txs := setNth s.ht.txs n (some (TxFields.record f)) } } 0x12 .ok [])) ∧
  (∀ (a : Nat) (f : AntFields) (s : State), s.ready → s.sized → s.params.antCount ≤ 24 → 1 ≤ a → a ≤ s.params.antCount →
     AntFields.inRange f a s.params.antCount = true →
     (s.claim a).occupant = none → (s.claim a).reservation = none → (s.claim a).testClaim = false →
     ∃ t, exec (.antDefine a f) s = .next t ∧ t.lc.reply = some { kind := 0x14, status := .ok, body := [] } ∧
       t.ht = { s.ht with ants := setNth s.ht.ants a (some (AntFields.record f)) } ∧
       (t.faultSet a).getLsbD FaultFlag.unchecked.bit = true ∧ t.tb = s.tb ∧ t.ss.array = s.ss.array)

/-- R9, R10, R11: a first part that is not the last is staged, a licence in one part is in force at once, and the lock is set at
once. -/
def Obligations.licence_is_staged_then_in_force_then_locked : Prop :=
  ∀ (total : Nat) (lines : List LicenceLine) (s : State), s.ready → s.ht.locked = false → s.ss.work.length < 8 →
    (∀ l ∈ lines, LicenceLine.inRange l = true) → total ≤ 32 → lines.length ≤ 20 →
    (lines ≠ [] → lines.length < total → exec (.licenceWrite 1 total 0 lines) s = .next (State.settled (State.answer
      { s.received with ht := { s.ht with staging := some { total := total, lines := lines } } } 0x16 .ok []))) ∧
    (lines.length = total → s.itemPending ItemKind.isLicenceWrite = false → ∃ t, exec (.licenceWrite 1 total 1 lines) s = .next t ∧
      t.lc.reply = some { kind := 0x16, status := .ok, body := [] } ∧ t.ht = { s.ht with licence := lines, staging := none }) ∧
    (∃ t, exec .licenceLock s = .next t ∧ t.lc.reply = some { kind := 0x18, status := .ok, body := [] } ∧
      t.ht = { s.ht with locked := true, staging := none })

/-- R13: an accepted CONFIG_SAVE at a READY store with an empty list starts the erase of sector 80, with the erase of 81 and the
programs of the record behind it, the configuration write of 3.6 (R41); the tables and the configuration source are unchanged
(R15). The octets of the record and its split into pages are the model's choice (notes/assumptions/13.md). R14, R15: CONFIG_LOAD with a good
record puts its parameters and its two tables, within its counts, in the place of the old ones, hands over its protection settings,
input definitions and windows, adds UNCHECKED to each antenna it defines, and is LOADED; the licence and its lock are not touched.
Without a good record it is UNAVAILABLE, and only the source changes. -/
def Obligations.config_is_saved_and_loaded : Prop :=
  (∀ s : State, s.ready → s.ss.state = .ready → s.ss.operation = none → s.ss.item = none → s.ss.work = [] →
     ∃ u : State, exec .configSave s = .next (State.settled (u.answer 0x19 .ok [])) ∧
       u.ss.state = .erasing 80 ∧ u.ss.operation = some { op := .erase 80, owner := .item .configWrite, startedAt := s.clock, guardEnd := none } ∧
       (∃ programs, u.ss.item = some { kind := .configWrite, ops := .erase 81 :: programs } ∧
         programs = pagePrograms 32 configAddress s.configRecord.octets) ∧
       u.ht = s.ht ∧ u.ss.array = s.ss.array) ∧
  (∀ s : State, s.ready → s.configHeld = false → s.itemPending ItemKind.isConfigWrite = false →
     (∀ c, readConfig s.ss.array = (.loaded, some c) → (∀ p ∈ s.inputsDiffering c, (s.input p.1).state = .inactive) →
       ∃ t, exec .configLoad s = .next t ∧ t.lc.reply = some { kind := 0x1A, status := .ok, body := [] } ∧
         t.ht = { s.ht with params := c.params, txs := t.ht.txs, ants := t.ht.ants, configSource := .loaded } ∧
         (∀ n, nth t.ht.txs none n = if n ≤ c.params.txCount then nth c.txs none n else none) ∧
         (∀ a, nth t.ht.ants none a = if a ≤ c.params.antCount then
           (nth c.ants none a).map fun r => { r with neighbours := r.neighbours.filter fun b => decide (b ≤ c.params.antCount) }
           else none) ∧
         t.pt.settings = c.settings ∧ t.tb = s.tb ∧ t.ss.array = s.ss.array ∧
         (s.sized → t.pc.windows = c.windows ∧
           (∀ n, n < 8 → ∃ d, c.inputs[n]? = some d ∧ (t.input (n + 1)).kind = d.kind ∧ (t.input (n + 1)).level = d.level ∧
             (t.input (n + 1)).rows = d.rows) ∧
           (∀ a, (t.ant a).isSome = true → (t.faultSet a).getLsbD FaultFlag.unchecked.bit = true)) ∧
         (∀ a k, a ≤ c.params.antCount → (s.faultSet a).getLsbD k = true → (t.faultSet a).getLsbD k = true)) ∧
     (∀ source, readConfig s.ss.array = (source, none) → exec .configLoad s = .next (State.answer
       { s.received with ht := { s.ht with configSource := source } } 0x1A .unavailable [])))

/-! ## Chapter 2: the Time Base -/

/-- R24: an accepted TIME_SET arms the value with the moment of the request, INVALID becomes PENDING, and nothing else changes.
R24: in PENDING, the first pulse applies the armed value and enters LOCKED; 1.5 s without one apply it, enter HOLDOVER and set
alert TIME. The second event's step is FIRST. -/
def Obligations.armed_value_is_held_and_applied : Prop :=
  (∀ (day second : Nat) (s : State), s.ready → day ≤ 65535 → second ≤ 86399 → ¬(day = 65535 ∧ second = 86399) →
     exec (.timeSet day second) s = .next { s with
       tb := { s.tb with
         state := if s.tb.state = .invalid then .pending else s.tb.state
         pendingSet := some { instant := day * 86400 + second, moment := s.clock } }
       lc := { s.lc with receiver := .hunt, held := none, reply := some { kind := 0x20, status := .ok, body := [] } } }) ∧
  (∀ (s : State) (p : PendingSet), s.tb.state = .pending → s.tb.pendingSet = some p →
     exec .timePulse s = .next (State.settled { s with
       notices := s.notices ++ [.secondEvent p.instant .first]
       tb := { s.tb with state := .locked, instant := some p.instant, expected := s.clock + 1000, openWindow := none,
                         pendingSet := none, chain := [], lastPulse := some s.clock,
                         elapsed := satSucc 4294967295 s.tb.elapsed } }) ∧
     (s.clock ≤ p.moment + 1500 → exec .pendingExpiry s = .next (State.settled (State.alert { s with
       clock := p.moment + 1500
       notices := s.notices ++ [.secondEvent p.instant .first]
       tb := { s.tb with state := .holdover, instant := some p.instant, expected := p.moment + 2500, openWindow := none,
                         pendingSet := none, chain := [], elapsed := satSucc 4294967295 s.tb.elapsed } } .time))))

/-- R19, R20, R25, R26: in LOCKED, a pulse from 100 ms before E to 100 ms after it is the second mark. E is one second on, the
chain is empty, and the second event carries the new instant, with the signed step of an armed value. R18, R22: in HOLDOVER a
pulse inside the window before E is the second mark, one inside the window of the E already marked only moves E, and both return
to LOCKED; in INVALID a pulse has no effect. -/
def Obligations.pulses_mark_and_phase_the_second : Prop :=
  (∀ (s : State) (i new : Nat) (step : TimeStep), s.tb.state = .locked → s.tb.instant = some i →
     s.tb.expected ≤ s.clock + 100 → s.clock ≤ s.tb.expected + 100 →
     new = (match s.tb.pendingSet with | some p => p.instant | none => i + 1) → new ≠ 65535 * 86400 + 86399 →
     step = (if new = i + 1 then .none else .seconds ((new : Int) - (i + 1))) →
     exec .timePulse s = .next (State.settled { s with
       notices := s.notices ++ [.secondEvent new step]
       tb := { s.tb with instant := some new, expected := s.clock + 1000, openWindow := none, pendingSet := none, chain := [],
                         lastPulse := some s.clock, elapsed := satSucc 4294967295 s.tb.elapsed } })) ∧
  (∀ s : State,
     (s.tb.state = .invalid → exec .timePulse s = .next s.settled) ∧
     (∀ i, s.tb.state = .holdover → s.tb.instant = some i → s.tb.pendingSet = none → i + 1 ≠ 65535 * 86400 + 86399 →
       s.tb.expected ≤ s.clock + 100 → s.clock ≤ s.tb.expected + 100 →
       exec .timePulse s = .next (State.settled { s with
         notices := s.notices ++ [.secondEvent (i + 1) .none]
         tb := { s.tb with state := .locked, instant := some (i + 1), expected := s.clock + 1000, openWindow := none, chain := [],
                           lastPulse := some s.clock, elapsed := satSucc 4294967295 s.tb.elapsed } })) ∧
     (∀ e, s.tb.state = .holdover → s.tb.openWindow = some e → s.clock ≤ e + 100 →
       (s.clock + 100 < s.tb.expected ∨ s.tb.expected + 100 < s.clock) →
       exec .timePulse s = .next (State.settled { s with
         tb := { s.tb with state := .locked, expected := s.clock + 1000, openWindow := none, chain := [],
                           lastPulse := some s.clock } })))

/-- R20, R23: in LOCKED, a pulse outside the acceptance window marks no second and leaves the instant and the elapsed count as
they are. It adds one to the ignored pulses, up to 65535, and is offered to the chain: the third of a chain moves E to one second
after the pulse, and any other pulse leaves E as it is. -/
def Obligations.ignored_pulse_is_counted_and_offered_to_the_chain : Prop :=
  ∀ (s : State) (chain : List Nat), s.tb.state = .locked → s.tb.chain = chain → chain.length ≤ 2 →
    (s.clock + 100 < s.tb.expected ∨ s.tb.expected + 100 < s.clock) →
    ∃ t, exec .timePulse s = .next t ∧
      t.tb.state = .locked ∧ t.tb.instant = s.tb.instant ∧ t.tb.elapsed = s.tb.elapsed ∧ t.tb.pendingSet = s.tb.pendingSet ∧
      t.tb.lastPulse = s.tb.lastPulse ∧ t.tb.ignored = satSucc 65535 s.tb.ignored ∧
      (chain = [] → t.tb.chain = [s.clock] ∧ t.tb.expected = s.tb.expected) ∧
      (∀ before last, chain = before ++ [last] →
        (last + 900 ≤ s.clock ∧ s.clock ≤ last + 1100 →
          (chain.length = 1 → t.tb.chain = [last, s.clock] ∧ t.tb.expected = s.tb.expected) ∧
          (chain.length = 2 → t.tb.chain = [] ∧ t.tb.expected = s.clock + 1000)) ∧
        (¬(last + 900 ≤ s.clock ∧ s.clock ≤ last + 1100) → t.tb.chain = [s.clock] ∧ t.tb.expected = s.tb.expected))

/-- R19: outside LOCKED the oscillator marks at E, and in LOCKED the close of a window without a pulse marks 100 ms after E;
either way the next E is one second on, and with valid time the instant advances and the second event is delivered. R21: 1.5 s
after the last accepted pulse LOCKED becomes HOLDOVER with alert TIME; E and the instant are not disturbed. R27: the mark that
would begin day 65535 second 86399 ends the time: INVALID, no instant, no armed value, an empty chain, alert TIME and no second
event. -/
def Obligations.seconds_are_marked_without_a_pulse : Prop :=
  (∀ (s : State) (i : Nat), i + 1 ≠ 65535 * 86400 + 86399 →
     (s.tb.state = .invalid ∨ s.tb.state = .pending → s.clock ≤ s.tb.expected →
       exec .oscillatorMark s = .next (State.settled { s with
         clock := s.tb.expected
         tb := { s.tb with expected := s.tb.expected + 1000, openWindow := none, elapsed := satSucc 4294967295 s.tb.elapsed } })) ∧
     (s.tb.state = .holdover → s.tb.instant = some i → s.tb.pendingSet = none → s.clock ≤ s.tb.expected →
       exec .oscillatorMark s = .next (State.settled { s with
         clock := s.tb.expected
         notices := s.notices ++ [.secondEvent (i + 1) .none]
         tb := { s.tb with instant := some (i + 1), expected := s.tb.expected + 1000, openWindow := some s.tb.expected,
                           elapsed := satSucc 4294967295 s.tb.elapsed } })) ∧
     (s.tb.state = .locked → s.tb.instant = some i → s.tb.pendingSet = none → s.clock ≤ s.tb.expected + 100 →
       exec .windowClose s = .next (State.settled { s with
         clock := s.tb.expected + 100
         notices := s.notices ++ [.secondEvent (i + 1) .none]
         tb := { s.tb with instant := some (i + 1), expected := s.tb.expected + 1000,
                           elapsed := satSucc 4294967295 s.tb.elapsed } }))) ∧
  (∀ (s : State) (m : Nat), s.tb.state = .locked → s.tb.lastPulse = some m → s.clock ≤ m + 1500 →
     exec .holdoverEntry s = .next (State.alert { s with
       clock := m + 1500, tb := { s.tb with state := .holdover, openWindow := none } } .time)) ∧
  (∀ s : State, s.tb.state = .locked → s.tb.instant = some (65535 * 86400 + 86398) → s.tb.pendingSet = none →
     s.clock ≤ s.tb.expected + 100 →
     exec .windowClose s = .next (State.settled (State.alert { s with
       clock := s.tb.expected + 100
       tb := { s.tb with state := .invalid, instant := none, openWindow := none, chain := [], expected := s.tb.expected + 1000
                         elapsed := satSucc 4294967295 s.tb.elapsed } } .time)))

/-! ## Chapter 3: the Season Store -/

/-- R32, R43: with no operation in flight a STORE_READ is served at once; its reply carries the octets and nothing else changes.
R38, R39: beside an operation that it does not touch, it suspends it: the operation goes on once the read is served, the suspension
count rises by one and a progress guard of 20 ms begins; under a running guard it waits, and at the operation's own octets it is BUSY.
R44, R45: a host program in the host area, or an erase there or in the preset save area, starts at READY and is the last host
operation; the array is unchanged until it ends. -/
def Obligations.host_store_requests_read_and_start : Prop :=
  (∀ (address length : Nat) (s : State), s.ready → s.notices = [] → s.ss.operation = none →
     1 ≤ length → length ≤ 200 → address ≤ 524287 → (address + length - 1) / 4096 = address / 4096 →
     exec (.storeRead address length) s = .next (s.received.answer 0x28 .ok
       ((List.range length).map fun k => memRead s.ss.array (address + k)))) ∧
  (∀ (address length : Nat) (s : State) (o : Operation), s.ready → s.notices = [] → s.ss.operation = some o →
     1 ≤ length → length ≤ 200 → address ≤ 524287 → (address + length - 1) / 4096 = address / 4096 →
     (o.op.touches address length = false → o.guardEnd = none → s.ss.state ≠ .suspended → s.ss.readWait = [] →
       exec (.storeRead address length) s = .next (State.answer { s.received with ss := { s.ss with
         state := o.op.state, suspensions := satSucc 65535 s.ss.suspensions
         operation := some { o with guardEnd := some (s.clock + 20) } } } 0x28 .ok
         ((List.range length).map fun k => memRead s.ss.array (address + k)))) ∧
     (o.op.touches address length = false → o.guardEnd ≠ none → s.ss.state ≠ .suspended →
       exec (.storeRead address length) s = .next { s with
         lc := { s.lc with receiver := .hunt, held := some 0x28 }
         ss := { s.ss with readWait := s.ss.readWait ++ [{ reader := .hostRead address length, held := false }] } }) ∧
     (o.op.touches address length = true → exec (.storeRead address length) s = .next (s.received.answer 0x28 .busy []))) ∧
  (∀ (s : State), s.ready → s.ss.state = .ready →
     (∀ address data, 1 ≤ data.length → data.length ≤ 200 → address ≤ 524287 → (address + data.length - 1) / 256 = address / 256 →
       82 ≤ address / 4096 → address / 4096 ≤ 126 → (∀ k, k < data.length → memRead s.ss.array (address + k) = 0xFF) → s.arrayWf →
       exec (.storeProgram address data) s = .next (State.answer { s.received with ss := { s.ss with
         state := .programming (address / 256)
         operation := some { op := .program address data, owner := .host, startedAt := s.clock, guardEnd := none }
         lastHostOp := some { erase := false, target := address / 256, outcome := .inProgress } } } 0x29 .ok [])) ∧
     (∀ sector, (82 ≤ sector ∧ sector ≤ 126) ∨ (64 ≤ sector ∧ sector ≤ 79 ∧ s.pc.save = none ∧ s.pc.restore = none) →
       exec (.storeErase sector) s = .next (State.answer { s.received with ss := { s.ss with
         state := .erasing sector
         operation := some { op := .erase sector, owner := .host, startedAt := s.clock, guardEnd := none }
         lastHostOp := some { erase := true, target := sector, outcome := .inProgress } } } 0x2A .ok [])))

/-- R33, R34, R35: at a passed completion check a program's range holds the data and an erased sector is blank; at a failed one
STORE_FAULT is set; and in either case no octet outside the page range or sector of the operation changes. R37: an overrun leaves
only the operation's sector undefined and sets STORE_FAULT. R38, R39: at the end of the progress guard, waiting reads are served by
one more suspension, and once the last of them has been handed over the operation goes on, the suspension count rises and a new guard
of 20 ms begins; with none waiting the guard is over. -/
def Obligations.operation_ends_change_only_their_own_range : Prop :=
  (∀ (s : State) (o : Operation), s.arrayWf → s.ss.operation = some o →
     (∀ passed, ∃ t, exec (.operationEnd passed) s = .next t ∧ (passed = false → t.lc.alerts.getLsbD Alert.storeFault.bit = true) ∧
       (o.owner = .host → t.lc.alerts.getLsbD Alert.storeDone.bit = true) ∧
       (∀ k, o.op = .erase k → ∀ x, x / 4096 ≠ k → memRead t.ss.array x = memRead s.ss.array x) ∧
       (∀ a data, o.op = .program a data → ∀ x, (x < a ∨ a + data.length ≤ x) → memRead t.ss.array x = memRead s.ss.array x)) ∧
     (∃ t, exec (.operationEnd true) s = .next t ∧
       (∀ k, o.op = .erase k → ∀ x, x / 4096 = k → memRead t.ss.array x = 0xFF) ∧
       (∀ a data, o.op = .program a data → ∀ k (h : k < data.length), memRead t.ss.array (a + k) = data[k]))) ∧
  (∀ (s : State) (o : Operation), s.arrayWf → s.ss.operation = some o →
     ∃ t, exec .operationOverrun s = .next t ∧ t.clock = max s.clock (o.startedAt + o.op.maxMs) ∧
       t.lc.alerts.getLsbD Alert.storeFault.bit = true ∧
       (∀ x, x / 4096 ≠ o.op.sector → memRead t.ss.array x = memRead s.ss.array x)) ∧
  (∀ (s : State) (o : Operation) (m : Nat), s.ss.operation = some o → o.guardEnd = some m → s.clock ≤ m →
     (s.notices = [] → s.ss.readWait = [] → exec .progressGuardEnd s =
       .next { s with clock := m, ss := { s.ss with operation := some { o with guardEnd := none } } }) ∧
     ((∃ w ∈ s.ss.readWait, w.held = false) → ∃ u : State, exec .progressGuardEnd s = .next u.settled ∧ u.clock = m ∧
       u.ss.state = .suspended ∧ u.ss.readWait = s.ss.readWait.filter (fun w => w.held) ∧
       u.notices = s.notices ++ ((s.ss.readWait.filter fun w => !w.held).map fun w => .served w.reader) ++ [.resumed] ∧
       u.ss.array = s.ss.array) ∧
     (∀ address length, s.notices = [] → s.ss.readWait = [{ reader := .hostRead address length, held := false }] →
       s.lc.held ≠ none → exec .progressGuardEnd s = .next (State.answer { s with
         clock := m
         ss := { s.ss with state := o.op.state, suspensions := satSucc 65535 s.ss.suspensions, readWait := []
                           operation := some { o with guardEnd := some (m + 20) } } } 0x28 .ok
         ((List.range length).map fun k => memRead s.ss.array (address + k)))))

/-! ## Chapter 4: the season books -/

/-- R51, R50: an accepted BOOK_OPEN makes an EMPTY book LOADING with the season and window given, and its OPEN mark is due. R52:
an accepted ENTRY_ADD whose record fits joins the filling page, and a record that does not fit begins the next page in the other
slot while the full page is offered. The entries added rise by one. R54: BOOK_SEAL with the count of the entries added makes the
book SEALED with that count and CRC, and its SEAL mark is due, after the filling page has been offered as the last page if it holds
records. A wrong count is refused with RANGE. The octets of a mark are the model's choice (notes/assumptions/12.md). R62: an accepted BOOK_ERASE offers the erases of the book's 32 sectors, lowest first, and the book is ERASING with its
record discarded. -/
def Obligations.book_is_opened_filled_and_sealed : Prop :=
  (∀ (b season first last : Nat) (s : State), s.ready → b ≤ 1 → season ≤ 65535 → first ≤ last → last ≤ 65535 →
     s.sb.scanRunning = false → (s.book b).state = .empty → (s.book (1 - b)).state ≠ .loading → s.ss.work.length < 8 →
     exec (.bookOpen b season first last) s = .next (State.settled (State.answer (State.markDue
       (s.received.setBook b { Book.empty with state := .loading, season := some season, firstDay := first, lastDay := last
                                               missing := (s.book b).missing })
       b .opening (u16 season ++ u16 first ++ u16 last)) 0x30 .ok []))) ∧
  (∀ (b : Nat) (record : List Byte) (s : State) (x : Book), s.ready → b ≤ 1 → recordMalformed record = false →
     entryInRange record = true → s.sb.scanRunning = false → x = s.book b → x.state = .loading → x.entriesAdded < 2048 →
     (x.filling.2.2.flatten.length + record.length ≤ 256 →
       exec (.entryAdd b record) s = .next (State.settled (State.answer (s.received.setBook b
         (Book.setSlot { x with entriesAdded := x.entriesAdded + 1 } x.filling.1 (.filling x.filling.2.1 (x.filling.2.2 ++ [record]))))
         0x31 .ok []))) ∧
     (256 < x.filling.2.2.flatten.length + record.length → (x.slot (1 - x.filling.1)).isWaiting = false → s.ss.work.length < 8 →
       exec (.entryAdd b record) s = .next (State.settled (State.answer (State.offerLoadPage (s.received.setBook b
         (Book.setSlot (Book.setSlot { x with entriesAdded := x.entriesAdded + 1 } x.filling.1 (.waiting x.filling.2.1 x.filling.2.2))
           (1 - x.filling.1) (.filling (x.filling.2.1 + 1) [record]))) b x.filling.1 x.filling.2.1 x.filling.2.2) 0x31 .ok [])))) ∧
  (∀ (b count crc : Nat) (s : State), s.ready → b ≤ 1 → count ≤ 65535 → crc ≤ 4294967295 → s.sb.scanRunning = false →
     (s.book b).state = .loading →
     (count ≠ (s.book b).entriesAdded → exec (.bookSeal b count crc) s = .next (s.received.answer 0x32 .range [])) ∧
     (count = (s.book b).entriesAdded → (s.book b).filling.2.2 = [] → s.ss.work.length < 8 →
       exec (.bookSeal b count crc) s = .next (State.settled (State.answer (State.markDue
         (s.received.setBook b { s.book b with state := .sealed, sealed := some (count, crc) }) b .seal (u16 count ++ u32 crc))
         0x32 .ok []))) ∧
     (∀ (v : State) slot page records, count = (s.book b).entriesAdded → (s.book b).filling = (slot, page, records) → records ≠ [] →
       s.ss.work.length < 7 →
       v = State.offerLoadPage (s.received.setBook b (Book.setSlot (s.book b) slot (.waiting page records))) b slot page records →
       exec (.bookSeal b count crc) s = .next (State.settled (State.answer (State.markDue
         (v.setBook b { v.book b with state := .sealed, sealed := some (count, crc) }) b .seal (u16 count ++ u32 crc))
         0x32 .ok [])))) ∧
  (∀ (b : Nat) (s : State) (x : BookState), s.ready → b ≤ 1 → s.sb.scanRunning = false → x = (s.book b).state →
     x ≠ .active → x ≠ .loading → x ≠ .verifying → x ≠ .erasing → s.ss.work.length < 8 → (s.book b).pendingHandover = none →
     exec (.bookErase b) s = .next (State.settled (State.answer (State.setBook
       (s.received.offer (.bookErase b) ((List.range 32).map fun k => .erase (b * 32 + k))).1 b
       { Book.empty with state := .erasing }) 0x37 .ok [])))

/-- R55, R59: BOOK_VERIFY makes a SEALED or FAILED book VERIFYING with its findings emptied and starts the verifier; VERIFY_END
makes a book without findings STANDBY with a run index and a VERIFIED mark due, and any other FAILED, with alert BOOK. The outcome
that BOOK_VERIFY leaves as it stands is the model's choice (notes/assumptions/25.md), and so is one page for each VERIFIER_READ
(14.md). R32, R56, R67: the verifier asks the store for its next page of a book in VERIFYING, STANDBY or ACTIVE and waits for it, and
reads no other book; the end of a re-index ends the scan, and while the time is not valid nothing else. -/
def Obligations.verifier_reads_and_its_ends_are_taken : Prop :=
  (∀ (b : Nat) (s : State), b ≤ 1 →
     (s.ready → s.sb.scanRunning = false → ((s.book b).state = .sealed ∨ (s.book b).state = .failed) →
       (s.book (1 - b)).state ≠ .verifying → s.itemPending (fun k => k.loads b) = false → (s.book b).waitingMarks = [] →
       exec (.bookVerify b) s = .next (State.settled (State.answer (State.startVerifier (s.received.setBook b
         { s.book b with state := .verifying, findings := { (s.book b).findings with list := [], more := false, total := 0 } })
         b false) 0x33 .ok []))) ∧
     (∀ v, s.sb.verifier = some v → v.book = b → v.finished = true → v.reindex = false →
       ((s.book b).findings.total = 0 → exec .verifyEnd s = .next (State.settled (State.alert (State.markDue
         ((s.setVerifier none).setBook b { s.book b with state := .standby, runIndex := some (s.indexOf b)
                                                         findings := { (s.book b).findings with outcome := .standby } })
         b .verified []) .book))) ∧
       ((s.book b).findings.total ≠ 0 → exec .verifyEnd s = .next (State.settled (State.alert
         ((s.setVerifier none).setBook b { s.book b with state := .failed
                                                         findings := { (s.book b).findings with outcome := .failed } }) .book))))) ∧
  (∀ (s : State) (v : Verifier), s.sb.verifier = some v →
     ((s.book v.book).state.verifiable = true ↔
       (s.book v.book).state = .verifying ∨ (s.book v.book).state = .standby ∨ (s.book v.book).state = .active) ∧
     ((s.book v.book).state.verifiable = false → exec .verifierRead s = .next s.settled) ∧
     (v.finished = false → v.waiting = false → (s.book v.book).state.verifiable = true → exec .verifierRead s = .next (State.settled
       ((s.setVerifier (some { v with waiting := true })).requestRead .verifier (pageAddress v.book v.page) 256))) ∧
     (v.finished = true → v.reindex = true → s.timeValid = false →
       exec .reindexEnd s = .next (State.settled { s with sb := { s.sb with scanRunning := false, verifier := none } })))

/-- R63: an accepted HANDOVER_SET puts the instant into the lowest-numbered blank slot as the pending handover, and its mark is
due. The octets of the mark are the model's choice (notes/assumptions/12.md). -/
def Obligations.handover_set_uses_the_lowest_blank_slot : Prop :=
  ∀ (b day second now n : Nat) (s : State), s.ready → b ≤ 1 → second ≤ 86399 → s.sb.scanRunning = false →
    (s.book b).state = .standby → s.handoverPending = false → 1 ≤ n → n ≤ 4 → nth (s.book b).slots .torn n = .blank →
    (∀ k, 1 ≤ k → k < n → nth (s.book b).slots .torn k ≠ .blank) → s.now = some now →
    now + 10 ≤ day * 86400 + second → (s.book b).firstDay ≤ day → day ≤ (s.book b).lastDay → day ≤ 65535 →
    (∀ a, s.activeSince = some a → a < day * 86400 + second) → s.ss.work.length < 8 →
    exec (.handoverSet b day second) s = .next (State.settled (State.answer (State.markDue (s.received.setBook b
      { s.book b with slots := setNth (s.book b).slots n (.used (day * 86400 + second) false)
                      pendingHandover := some { slot := n, instant := day * 86400 + second } })
      b (.slotInstant n) (instantOctets (day * 86400 + second))) 0x38 .ok []))

/-- R64: the checks of HANDOVER_CANCEL in their order, and its effect: the cancelled mark of the pending handover's slot is due,
the book has no pending handover, and the slot stays used. -/
def Obligations.handover_cancel_withdraws_the_pending_handover : Prop :=
  ∀ (b : Nat) (s : State), s.ready →
    (1 < b → exec (.handoverCancel b) s = .next (s.received.answer 0x39 .range [])) ∧
    (b ≤ 1 → s.sb.scanRunning = true → exec (.handoverCancel b) s = .next (s.received.answer 0x39 .busy [])) ∧
    (b ≤ 1 → s.sb.scanRunning = false → (s.book b).pendingHandover = none →
      exec (.handoverCancel b) s = .next (s.received.answer 0x39 .state [])) ∧
    (∀ h, b ≤ 1 → s.sb.scanRunning = false → (s.book b).pendingHandover = some h → 8 ≤ s.ss.work.length →
      exec (.handoverCancel b) s = .next (s.received.answer 0x39 .busy [])) ∧
    (∀ h i c, b ≤ 1 → s.sb.scanRunning = false → (s.book b).pendingHandover = some h → s.ss.work.length < 8 →
      nth (s.book b).slots .torn h.slot = .used i c →
      exec (.handoverCancel b) s = .next (State.settled (State.answer (State.markDue (s.received.setBook b
        { s.book b with slots := setNth (s.book b).slots h.slot (.used i true), pendingHandover := none })
        b (.slotCancelled h.slot) []) 0x39 .ok [])))

/-! ## Chapter 5: the Schedule Executor -/

/-- R69, R71: EXEC_START with a runnable ACTIVE book and a valid time makes the executor RUNNING, EXEC_HOLD makes RUNNING HELD and
nothing else, and EXEC_RELEASE drops every expired plan, then begins the due ones, and makes HELD RUNNING; without a valid time and without a rebuild it does no more (18.md). -/
def Obligations.executor_starts_holds_and_is_released : Prop :=
  ∀ s : State, s.ready →
    (∀ b now, s.se.state = .stopped → s.now = some now → s.activeBook = some b → (s.book b).runIndex ≠ none →
      s.sb.scanRunning = false → s.mc.surveyed = true → (now / 86400 ≤ (s.book b).lastDay ∨ s.handoverPending = true) →
      exec .execStart s = .next (State.settled (State.answer { s.received with se := { s.se with state := .running } } 0x40 .ok []))) ∧
    (s.timeValid = false → exec .execStart s = .next (s.received.answer 0x40 .noTime [])) ∧
    (s.se.state = .running → exec .execHold s = .next (State.answer
      { s.received with se := { s.se with state := .held } } 0x42 .ok [])) ∧
    (s.se.state = .held → s.timeValid = false → s.se.rebuild = false → exec .execRelease s = .next (State.settled (State.answer
      { s.received with se := { s.se with state := .running } } 0x43 .ok []))) ∧
    (∀ now, s.se.state = .held → s.now = some now → s.se.rebuild = false → ∃ u, exec .execRelease s = .next (State.settled
      (State.answer (State.executorPass { u with se := { u.se with state := .running } } now false) 0x43 .ok [])) ∧
      u = (upTo 12).foldl (fun v t => v.beginDue now t) ((upTo 12).foldl (fun v t => v.dropExpired now t) s.received))

/-- R70: EXEC_STOP drops every PLANNED record and gives up every held route; begun changeovers and current entries run on. R76: an
occurrence of the ACTIVE book that is still to come and has no changeover record joins the skip list, once, when its entry has been
read (R32). -/
def Obligations.exec_stop_and_occurrence_skip_take_effect : Prop :=
  (∀ s : State, s.ready → s.sized → s.se.state ≠ .stopped → ∃ u : State, exec .execStop s = .next (State.settled (u.answer 0x41 .ok [])) ∧
     u.se.state = .stopped ∧
     (∀ t c, u.change t = some c → c.phase ≠ .planned ∧ s.change t = some c) ∧
     (∀ t c, s.change t = some c → c.phase ≠ .planned → u.change t = some c) ∧
     (∀ t, (u.duty t).heldRoute = none ∧ (u.duty t).current = (s.duty t).current ∧ (u.duty t).mode = (s.duty t).mode)) ∧
  (∀ (t entryId day : Nat) (o : Occurrence) (s : State), s.ready → 1 ≤ t → t ≤ s.params.txCount → day ≤ 65535 →
     s.activeBook ≠ none → s.namedOccurrence t entryId day = some o →
     (∀ h, (s.duty t).handledThrough = some h → h < o.startAt) → s.occurrenceCurrent t entryId day = false →
     s.change t = none → s.se.skip.length < 16 → s.notices = [] → s.ss.operation = none →
     exec (.occurrenceSkip t entryId day) s = .next (State.answer { s.received with se := { s.se with
       skip := if s.se.skip.any (fun i => i.tx == t && i.entryId == entryId && i.day == day) then s.se.skip
         else s.se.skip ++ [{ tx := t, entryId := entryId, day := day, endAt := o.endAt }] } } 0x47 .ok []))

/-- R74: TX_MANUAL gives an AUTO transmitter to the host: no current entry, no held route, no PLANNED record; the sequencer and
the movers stay as they stand, but for what R155 then makes of a wait in RECOVERY_WAIT. For a transmitter in MANUAL duty it changes
nothing. R75, R157: TX_AUTO gives a MANUAL transmitter to the executor with handled_through none; one on air by R73 is adopted as a
current entry that ends now, with its route, its frequency, its commanded power, its drives and its feed, where a reverser not
confirmed REV counts as FWD by the model's choice (notes/assumptions/35.md); one in FAULT enters OFF and takes a CLEAR_TRIP order. -/
def Obligations.transmitter_duty_moves_between_host_and_executor : Prop :=
  (∀ (t : Nat) (s : State), s.ready → s.sized → 1 ≤ t → t ≤ 12 → t ≤ s.params.txCount →
     (∀ c, s.change t = some c → c.phase = .planned) →
     ((s.duty t).mode = .manual → exec (.txManual t) s = .next (State.settled (s.received.answer 0x45 .ok []))) ∧
     ((s.duty t).mode = .auto → ∃ u : State, exec (.txManual t) s = .next (State.settled (u.answer 0x45 .ok [])) ∧
       (u.duty t).mode = .manual ∧ (u.duty t).current = none ∧ (u.duty t).heldRoute = none ∧ u.change t = none ∧
       (∀ r, r ≠ t → u.duty r = s.duty r ∧ u.change r = s.change r) ∧ u.tq = s.tq ∧ u.mc.movers = s.mc.movers ∧ u.pt = s.pt)) ∧
  (∀ (t : Nat) (s : State), s.ready → s.sized → 1 ≤ t → t ≤ 12 → t ≤ s.params.txCount → (s.duty t).mode = .manual →
     ((s.seq t).state ≠ .fault → s.onAirNow t = false → exec (.txAuto t) s = .next (State.settled (State.answer
       (s.received.setDuty t { s.duty t with mode := .auto, handledThrough := none }) 0x46 .ok []))) ∧
     (∀ a v now freq, s.onAirNow t = true → s.routeAntenna t = some a → (s.mover (slewDrive a)).confirmedAt = some (.slew v) →
       s.now = some now → (s.seq t).tunedFreq = some freq → exec (.txAuto t) s = .next (State.settled (State.answer
         (s.received.setDuty t { s.duty t with
           mode := .auto, handledThrough := none
           current := some { entryId := 0, day := none, startAt := none, endAt := now, antenna := some a, onAlternate := false
                             freq := freq, power := (s.prot t).commanded, slew := v
                             reversed := (s.mover (reverserOf a)).confirmedAt == some .rev, feed := (s.seq t).lastFeed
                             alternate := none } }) 0x46 .ok []))) ∧
     ((s.seq t).state = .fault → (s.seq t).outstanding = none → (s.seq t).queue = [] →
       ∃ u : State, exec (.txAuto t) s = .next (State.settled (u.answer 0x46 .ok [])) ∧ (u.duty t).mode = .auto ∧
         (u.duty t).handledThrough = none ∧ (u.seq t).state = .off ∧
         (u.seq t).outstanding = some { order := .clearTrip, number := ((s.seq t).counter + 1) % 256, owner := .sequencer,
                                        sentAt := s.clock }))

/-! ## Chapter 6: the Matrix Controller -/

/-- R108, R120: an accepted MOVE of a mover at REST away from where it is confirmed becomes a queued request of the host at
priority 3 with the next age stamp, and the arbiter is asked. R121, R118: MOVER_CLEAR of a faulted mover at REST outside a faulted
row clears its fault, makes it UNKNOWN and reads it over settle + validate. R117, R113: SURVEY makes the survey RUNNING over the
whole matrix with the complete flag clear, and no column has an occupant. -/
def Obligations.matrix_requests_are_taken : Prop :=
  (∀ (m code : Nat) (p : Position) (s : State), s.ready → s.present m = true → s.moveTarget m code = some p → s.surveyRunning = false →
     (s.mover m).fault = none → s.moveAllowed m = true → (s.mover m).phase = .rest → (s.mover m).confirmedAt ≠ some p →
     exec (.move m code) s = .next (State.settled (State.answer (State.postOnce (State.setMover
       { s.received with mc := { s.mc with ageCounter := s.mc.ageCounter + 1 } } m
       { s.mover m with phase := .queued, target := some p, requester := some .host, priority := 3, age := s.mc.ageCounter,
                        joined := [] }) .arbiter) 0x50 .ok []))) ∧
  (∀ (m : Nat) (s : State) (x : Mover), s.ready → s.sized → x = s.mover m → s.present m = true → s.surveyRunning = false →
     x.phase = .rest → x.fault ≠ none → x.requester = none → x.joined = [] → s.rowFaulted m = false → x.contacts.length < 2 →
     ∃ u : State, exec (.moverClear m) s = .next (State.settled (u.answer 0x53 .ok [])) ∧
       u.mover m = { x with confirmed := none, fault := none, watch := none, followOn := none, target := none, requester := none,
                            priority := 0, age := 0, run := none, timer := none, window := none,
                            reading := some { endsAt := s.clock + (s.params.settle + s.params.validate) * 4,
                                              steady := x.contacts.head?, fresh := false } } ∧
       (∀ k, k ≠ m → u.mover k = s.mover k) ∧ u.mc.claims = s.mc.claims ∧ u.mc.rowFaults = s.mc.rowFaults) ∧
  (∀ s : State, s.ready → s.surveyRunning = false → (∀ x ∈ s.mc.movers, x.phase = .rest) → (∀ c ∈ s.mc.claims, c.testClaim = false) →
     s.se.state = .stopped → (∀ t, 1 ≤ t → t ≤ s.params.txCount → (s.permit t).cold = true) →
     ∃ u : State, exec .survey s = .next (State.settled (u.answer 0x54 .ok [])) ∧
       u.mc.survey = .running none false ∧ u.mc.surveyed = false ∧ (∀ a, (u.claim a).occupant = none) ∧
       (∀ a, (u.claim a).reservation = (s.claim a).reservation))

/-- R101: in MOVING the target contact makes and SETTLING begins; its end with the contact made begins VALIDATING; the end of that
confirms the mover at its target, at REST. R105, R118: a watch ends in a glitch when the contact has been made again for the
validate time, and otherwise in fault LOST; a read ends with the position made since its begin as the confirmed one. A watch is judged
by the validate parameter in force at its end (R5 leaves a window that has begun as it is), and ends with a read: the model's choices
(notes/assumptions/27.md). -/
def Obligations.contacts_windows_watches_and_reads_end_as_found : Prop :=
  (∀ (m : Nat) (p : Position) (s : State) (x : Mover), s.sized → s.present m = true → x = s.mover m → x.fault = none →
     x.target = some p → x.followOn = none → (kindOf m).hasPosition p = true → s.params.settle ≠ 0 → s.params.validate ≠ 0 →
     (x.phase = .moving → x.contacts = [] →
       ∃ u : State, exec (.contactChange m p true) s = .next u.settled ∧ (∀ k, k ≠ m → u.mover k = s.mover k) ∧
         u.mover m = { x with contacts := [p], phase := .settling, window := some (s.clock + s.params.settle * 4)
                              reading := x.reading.map fun r => { r with steady := none } }) ∧
     (∀ w, x.phase = .settling → x.window = some w → s.clock ≤ w → p ∈ x.contacts →
       ∃ u : State, exec (.settleEnd m) s = .next u.settled ∧ u.clock = w ∧ (∀ k, k ≠ m → u.mover k = s.mover k) ∧
         u.mover m = { x with phase := .validating, window := some (w + s.params.validate * 4) }) ∧
     (∀ w, x.phase = .validating → x.window = some w → s.clock ≤ w → x.requester = some .host → x.joined = [] →
       ∃ u : State, exec (.validateEnd m) s = .next u.settled ∧ u.clock = w ∧ (∀ k, k ≠ m → u.mover k = s.mover k) ∧
         u.mover m = { x with confirmed := some p, phase := .rest, target := none, requester := none, priority := 0, age := 0,
                              run := none, timer := none, window := none })) ∧
  (∀ (m : Nat) (s : State) (x : Mover), s.sized → s.present m = true → x = s.mover m → x.requester = none → x.joined = [] → x.followOn = none →
     (∀ w, x.watch = some w → s.clock ≤ w.endsAt →
       (∀ k, w.madeSince = some k → k + s.params.validate * 4 ≤ w.endsAt → exec (.watchEnd m) s = .next (State.settled (State.postOnce
         (State.setMover { s with clock := w.endsAt } m { x with watch := none }) .matrix))) ∧
       ((∀ k, w.madeSince = some k → w.endsAt < k + s.params.validate * 4) →
         ∃ u : State, exec (.watchEnd m) s = .next u.settled ∧ u.mover m = { Mover.reset x.contacts with fault := some .lost } ∧
           u.lc.alerts.getLsbD Alert.mover.bit = true)) ∧
     (∀ r, x.reading = some r → s.clock ≤ r.endsAt → x.phase = .rest → exec (.moverReadEnd m) s = .next (State.settled (State.postOnce
       (State.postOnce (State.setMover { s with clock := r.endsAt } m { x with reading := none, confirmed := r.steady, watch := none })
         .matrix) .survey))))

/-- R102 to R104: the travel timer and two contacts made together fault the mover, at REST with no run order and no confirmed
position; alert MOVER is set, and a switch of a row gives the row fault. The target is kept at a TIMEOUT alone. -/
def Obligations.timeout_and_conflict_fault_the_mover : Prop :=
  ∀ (m : Nat) (s : State) (x : Mover), s.sized → s.present m = true → x = s.mover m →
    (∀ d, x.inMotion = true → x.timer = some d → s.clock ≤ d →
      ∃ u : State, exec (.travelTimeout m) s = .next u.settled ∧ u.clock = d ∧ (∀ k, k ≠ m → u.mover k = s.mover k) ∧
        u.mover m = { Mover.reset x.contacts with fault := some .timeout, target := x.target } ∧
        u.lc.alerts.getLsbD Alert.mover.bit = true ∧ (∀ t, rowOfMover m = some t → u.rowFault t ≠ [])) ∧
    (∀ p q, x.contacts = [q] → p ≠ q → (kindOf m).hasPosition p = true →
      ∃ u : State, exec (.contactChange m p true) s = .next u.settled ∧ (∀ k, k ≠ m → u.mover k = s.mover k) ∧
        u.mover m = { Mover.reset [q, p] with fault := some .conflict } ∧
        u.lc.alerts.getLsbD Alert.mover.bit = true ∧ (∀ t, rowOfMover m = some t → u.rowFault t ≠ []))

/-! ## Chapter 7: permits and safety inputs -/

/-- R124 to R127: once a line has been computed again, it is ASSERTED exactly when its request stands and every condition holds,
group by group as `State.Permitted` spells them out, and it rises and falls with the row not cold. R128: a row whose line has been OFF for cold_ds while its link is not UP or its
report shows RF off is found cold. R133: an arc on a present antenna begins its hold anew at arc_hold_ds, and PU hands it over
with the occupant; the end of a hold has the rows tested again. An arc above ant_count is disregarded. -/
def Obligations.lines_coldness_and_arcs_follow_the_permit_rules : Prop :=
  (∀ (r : Nat) (s : State), s.sized → 1 ≤ r → r ≤ 12 →
     ((s.updateLine r).permit r).line = ((s.seq r).requesting && s.conditionsHold r) ∧
     (s.params.antCount ≤ 24 → (((s.updateLine r).permit r).line = true ↔ s.Permitted r)) ∧
     (((s.updateLine r).permit r).line ≠ (s.permit r).line → ((s.updateLine r).permit r).cold = false) ∧
     (∀ k, k ≠ r → (s.updateLine r).permit k = s.permit k)) ∧
  (∀ (r : Nat) (s : State) (m : Nat), s.sized → 1 ≤ r → r ≤ 12 → (s.permit r).line = false → (s.permit r).cold = false →
     s.reportsOff r = true → m = (s.permit r).offSince + s.params.coldDs * 100 → s.clock ≤ m →
     exec (.rowCold r) s = .next (State.settled (State.postOnce { s with clock := m } .permits)) ∧
     ((State.updateCold { s with clock := m } r).permit r).cold = true) ∧
  (∀ (a : Nat) (s : State),
     (1 ≤ a → a ≤ s.params.antCount → exec (.arcInput a) s = .next (State.settled (State.post (State.postOnce
       (s.setArcHold a (some (s.clock + s.params.arcHoldDs * 100))) .permits) (.arc a (s.claim a).occupant)))) ∧
     (s.params.antCount < a → exec (.arcInput a) s = .next s) ∧
     (∀ d, s.arcHold a = some d → s.clock ≤ d → exec (.arcHoldEnd a) s = .next (State.settled (State.postOnce
       (State.setArcHold { s with clock := d } a none) .permits))))

/-- R134: an accepted SAFETY_DEFINE replaces the definition of an INACTIVE input, and an input then at its active level is
activated with alert SAFETY; an input that is not INACTIVE is refused. R130, R131, R132: an edge to the active level activates an
INACTIVE input with alert SAFETY and returns a RELEASING one without an activation; an edge to the inactive level begins the
release of an ACTIVE one over settle + validate, and its end makes it INACTIVE. R136: when settle + validate has passed since a
reset, the inputs that are still ACTIVE set alert SAFETY, and nothing else changes. -/
def Obligations.safety_inputs_are_defined_and_follow_their_levels : Prop :=
  (∀ (n kind level : Nat) (k : SafetyKind) (l : Level) (rows : List Nat) (s : State) (i : SafetyInput), s.ready → 1 ≤ n → n ≤ 8 →
     s.pu.inputs.length = 8 → i = s.input n → safetyKindOf kind = some k → levelOf level = some l → (∀ r ∈ rows, 1 ≤ r ∧ r ≤ 12) →
     (i.state = .inactive → ∃ t, exec (.safetyDefine n kind level rows) s = .next t ∧
       t.lc.reply = some { kind := 0x58, status := .ok, body := [] } ∧
       t.pu.inputs = setNth s.pu.inputs n { i with
         kind := k, level := l, rows := (upTo 12).filter fun r => rows.contains r
         state := if i.sensed = l then .active else .inactive
         activations := if i.sensed = l then satSucc 65535 i.activations else i.activations } ∧
       (i.sensed = l → t.lc.alerts.getLsbD Alert.safety.bit = true)) ∧
     (i.state ≠ .inactive → exec (.safetyDefine n kind level rows) s = .next (s.received.answer 0x58 .state []))) ∧
  (∀ (n : Nat) (level : Level) (s : State) (i : SafetyInput), 1 ≤ n → n ≤ 8 → s.pu.inputs.length = 8 → i = s.input n →
     (i.sensed ≠ level → ∃ t, exec (.safetyInputEdge n level) s = .next t ∧
       (i.state = .inactive → level = i.level → t.pu.inputs = setNth s.pu.inputs n { i with
         sensed := level, state := .active, activations := satSucc 65535 i.activations } ∧
         t.lc.alerts.getLsbD Alert.safety.bit = true) ∧
       (i.state = .active → level ≠ i.level → t.pu.inputs = setNth s.pu.inputs n { i with
         sensed := level, state := .releasing, window := some (s.clock + (s.params.settle + s.params.validate) * 4) }) ∧
       (i.state = .releasing → level = i.level → t.pu.inputs = setNth s.pu.inputs n { i with
         sensed := level, state := .active, window := none })) ∧
     (∀ w, i.state = .releasing → i.window = some w → s.clock ≤ w → ∃ t, exec (.releaseWindowEnd n) s = .next t ∧ t.clock = w ∧
       t.pu.inputs = setNth s.pu.inputs n { i with state := .inactive, window := none })) ∧
  (∀ (s : State) (m : Nat), s.pu.resetAlertAt = some m → s.clock ≤ m →
     ((∃ i ∈ s.pu.inputs, i.state = .active) → exec .safetyResetAlert s =
       .next (State.alert { s with clock := m, pu := { s.pu with resetAlertAt := none } } .safety)) ∧
     ((∀ i ∈ s.pu.inputs, i.state ≠ .active) → exec .safetyResetAlert s =
       .next { s with clock := m, pu := { s.pu with resetAlertAt := none } }))

/-! ## Chapter 8: the transmitter sequencers -/

/-- R143, R144, R159, R162: RF_ON in TUNED, with the row on no antenna, enters RAMP_UP with the ordered power as limit, and
TUNE_AUTO in OFF or TUNED enters TUNING with tune mode AUTO; while the line is OFF both wait in the send queue. -/
def Obligations.gated_orders_wait_for_the_line : Prop :=
  ∀ (t : Nat) (r : TxRecord) (s : State), s.FreeForOrder t r → (s.permit t).line = false →
    (∀ power feed, (s.seq t).state = .tuned → 1 ≤ power → power ≤ 1000 → power ≤ r.ratingKw → 1 ≤ feed → feed ≤ 16 →
      s.routeAntenna t = none → ∃ u : State, exec (.txOrderRfOn t power feed) s = .next (u.orderTaken t .rfOn).settled ∧
        (u.seq t).state = .rampUp ∧ (u.seq t).timer = some (s.clock + (2 * r.rampUpDs + 10) * 100) ∧
        (u.seq t).queue = [{ order := .rfOn power r.rampUpDs feed, owner := .host }] ∧ (u.seq t).outstanding = none ∧
        (u.prot t).limit = some power ∧ (u.prot t).floor = (power + 3) / 4 ∧ (u.prot t).commanded = power ∧
        (u.prot t).folded = false ∧ (u.prot t).ratio = none ∧ (∀ k, k ≠ t → u.seq k = s.seq k ∧ u.prot k = s.prot k)) ∧
    (∀ freq, ((s.seq t).state = .off ∨ (s.seq t).state = .tuned) → freqOk freq = true → r.freqLow ≤ freq → freq ≤ r.freqHigh →
      ∃ u : State, exec (.txOrderTuneAuto t freq) s = .next (u.orderTaken t .tuneAuto).settled ∧
        (u.seq t).state = .tuning ∧ (u.seq t).tuneMode = .auto ∧ (u.seq t).timer = some (s.clock + 2 * r.autotuneDs * 100) ∧
        (u.seq t).queue = [{ order := .tuneAuto freq r.tuneKw, owner := .host }] ∧ (u.seq t).feedback = none ∧
        (u.prot t).commanded = r.tuneKw ∧ (∀ k, k ≠ t → u.seq k = s.seq k ∧ u.prot k = s.prot k))

/-- R142 to R144, R146, R152, R157, R159: RF_OFF, MUTE, POWER, FEED and CLEAR_TRIP go out at once with the next order number when
none is outstanding, and set the state, the timer and the commanded power that 8.4 and 9.1 give. -/
def Obligations.host_orders_go_out_at_once : Prop :=
  ∀ (t : Nat) (r : TxRecord) (s : State) (st : SeqState), s.FreeForOrder t r → (s.seq t).deferred = [] → st = (s.seq t).state →
    (st = .rampUp ∨ st = .onAir ∨ st = .muted ∨ st = .recoveryWait → ∃ u : State,
      exec (.txOrderRfOff t) s = .next (u.orderTaken t .rfOff).settled ∧ (u.seq t).state = .rampDown ∧
      (u.seq t).timer = some (s.clock + (2 * r.rampDownDs + 10) * 100) ∧
      (u.seq t).outstanding = some (s.hostOrder t (.rfOff r.rampDownDs)) ∧ (u.seq t).counter = ((s.seq t).counter + 1) % 256 ∧
      (u.prot t).commanded = 0 ∧ (u.prot t).working = (s.prot t).working) ∧
    (st = .rampUp ∨ st = .onAir → ∃ u : State,
      exec (.txOrderMute t) s = .next (u.orderTaken t .mute).settled ∧ (u.seq t).state = .muted ∧
      (u.seq t).mute = some { origin := .host, accepted := false, notice := none } ∧
      (u.seq t).outstanding = some (s.hostOrder t .mute) ∧ (u.seq t).counter = ((s.seq t).counter + 1) % 256 ∧
      (u.prot t).commanded = 0) ∧
    (∀ power, st = .rampUp ∨ st = .onAir → 1 ≤ power → power ≤ 1000 → power ≤ r.ratingKw → s.routeAntenna t = none → ∃ u : State,
      exec (.txOrderPower t power) s = .next (u.orderTaken t .power).settled ∧ (u.seq t).state = st ∧
      (u.seq t).outstanding = some (s.hostOrder t (.power power)) ∧ (u.prot t).limit = some power ∧
      (u.prot t).floor = (power + 3) / 4 ∧ (u.prot t).commanded = power ∧ (u.prot t).working = power ∧ (u.prot t).folded = false) ∧
    (∀ feed, st.takesFeed = true → 1 ≤ feed → feed ≤ 16 → ∃ u : State,
      exec (.txOrderFeed t feed) s = .next (u.orderTaken t .feed).settled ∧ (u.seq t).state = st ∧ (u.seq t).lastFeed = feed ∧
      (u.seq t).outstanding = some (s.hostOrder t (.feed feed)) ∧ u.prot t = s.prot t) ∧
    (st = .fault → ∃ u : State,
      exec (.txOrderClearTrip t) s = .next (u.orderTaken t .clearTrip).settled ∧ (u.seq t).state = .off ∧
      (u.seq t).outstanding = some (s.hostOrder t .clearTrip) ∧ (u.seq t).counter = ((s.seq t).counter + 1) % 256)

/-- R150, R159: TUNE_PRESET with the row routed to an antenna takes the servo positions that the lookup finds and enters TUNING
with tune mode PRESET, and the key becomes the feedback; a miss, or no antenna, is UNAVAILABLE and leaves the sequencer as it is, its last
order outcome too, which is the model's choice (notes/assumptions/33.md). -/
def Obligations.tune_preset_takes_what_the_lookup_finds : Prop :=
  ∀ (t freq : Nat) (r : TxRecord) (s : State), s.FreeForOrder t r → ((s.seq t).state = .off ∨ (s.seq t).state = .tuned) →
    freqOk freq = true → r.freqLow ≤ freq → freq ≤ r.freqHigh →
    (∀ a p, s.routeAntenna t = some a → (s.lookup t a (channelOf freq)).2 = some p →
      ∃ u : State, exec (.txOrderTunePreset t freq) s = .next (u.orderTaken t .tunePreset).settled ∧
        (u.seq t).state = .tuning ∧ (u.seq t).tuneMode = .preset ∧ (u.seq t).timer = some (s.clock + 2 * r.presetDs * 100) ∧
        (u.seq t).outstanding = some (s.hostOrder t (.tunePreset freq p.s1 p.s2 p.s3 p.s4)) ∧
        (u.seq t).feedback = some (a, channelOf freq) ∧ u.pc = (s.lookup t a (channelOf freq)).1.pc) ∧
    (∀ a, s.routeAntenna t = some a → (s.lookup t a (channelOf freq)).2 = none → exec (.txOrderTunePreset t freq) s = .next
      (State.settled ((s.received.lookup t a (channelOf freq)).1.answer 0x60 .unavailable []))) ∧
    (s.routeAntenna t = none → s.notices = [] → exec (.txOrderTunePreset t freq) s = .next (s.received.answer 0x60 .unavailable []))

/-- R139, R141, R143, R149: the first valid report after a reset makes the link UP, is held with the moment it arrived and gives
the order counter its last order number; in UNKNOWN one that shows OFF, TUNED or FAULT enters OFF. Above tx_count it is
disregarded. R145: the report that carries the number of the outstanding order and ACCEPTED ends it ACCEPTED; in TUNED it changes
no state. -/
def Obligations.reports_bring_the_link_up_and_answer_orders : Prop :=
  (∀ (t : Nat) (r : Report) (s : State), s.sized → 1 ≤ t → t ≤ 12 →
     (t ≤ s.params.txCount → (s.seq t).state = .unknown → (s.seq t).report = none → (s.seq t).outstanding = none →
       (r.txState = .off ∨ r.txState = .tuned ∨ r.txState = .fault) →
       ∃ u : State, exec (.txReport t r) s = .next u.settled ∧ (u.seq t).link = .up ∧ (u.seq t).state = .off ∧
         (u.seq t).report = some { report := r, arrived := s.clock } ∧ (u.seq t).counter = r.lastNumber ∧
         (u.seq t).counters.good = satSucc 65535 (s.seq t).counters.good ∧ (∀ k, k ≠ t → u.seq k = s.seq k) ∧
         (∀ k, (u.prot k).commanded = (s.prot k).commanded ∧ (u.prot k).ratio = (s.prot k).ratio)) ∧
     (s.params.txCount < t → exec (.txReport t r) s = .next s)) ∧
  (∀ (t : Nat) (r : Report) (s : State) (o : Outstanding), s.sized → 1 ≤ t → t ≤ 12 → t ≤ s.params.txCount →
     (s.seq t).outstanding = some o → r.lastNumber = o.number → r.lastAnswer = .accepted → (s.seq t).state = .tuned →
     (s.seq t).mute = none → (s.seq t).queue = [] → r.txState = .tuned →
     ∃ u : State, exec (.txReport t r) s = .next u.settled ∧ (u.seq t).outstanding = none ∧ (u.seq t).state = .tuned ∧
       (u.seq t).lastOrder = some { kind := o.order.kind, number := some o.number, owner := o.owner, outcome := .accepted } ∧
       (u.seq t).counter = (s.seq t).counter)

/-- R138, R137: two sync octets in HUNT are counted and leave the receiver in SYNC. From there a length octet of 0 or above 60 is a
length error; a frame that is not complete leaves the receiver in TAKING; one with a wrong CRC-16 is a CRC error, one with another
kind or a wrong body length a format error, each counted, back in HUNT and with no other effect; so is a presence octet above 1, which
is the model's deduction (notes/assumptions/3.md); and one that passes every check is taken as a report, which octets given to
TX_FRAME_DISCARD are by the model's choice (notes/assumptions/3.md). A link above tx_count counts nothing. R139, R158: tx_link_ds after the last report an UP link is LOST with
alert TXLINK; a sequencer outside UNKNOWN, FAULT and LOCKOUT enters LINK_LOST, with no order left and no timer, mute or feedback.
R141, R164: once the held report is older than tx_stale_ds the restore run is none, and nothing else changes. -/
def Obligations.links_count_frames_grow_stale_and_are_lost : Prop :=
  (∀ (t : Nat) (s : State), 1 ≤ t →
     (t ≤ s.params.txCount → ((s.seq t).receiver = .hunt ∨ (s.seq t).receiver = .huntSync) →
       exec (.txLinkSyncFound t) s = .next (s.setSeq t { s.seq t with receiver := .sync, counters :=
         { (s.seq t).counters with syncs := satSucc 65535 (s.seq t).counters.syncs } })) ∧
     (s.params.txCount < t → (∀ octets, exec (.txFrameDiscard t octets) s = .next s) ∧ exec (.txLinkSyncFound t) s = .next s)) ∧
  (∀ (t : Nat) (s : State) (n : Byte) (rest : List Byte) (octets body : List Byte), s.sized → 1 ≤ t → t ≤ 12 → t ≤ s.params.txCount →
     (s.seq t).receiver = .sync → octets = n :: rest → body = (octets.take (octets.length - 2)).drop 2 →
     (rest = [] → n ≠ 0xB4 → (n = 0 ∨ 60 < n.toNat) →
       exec (.txFrameDiscard t octets) s = .next (s.setSeq t { s.seq t with receiver := .hunt, counters :=
         { (s.seq t).counters with length := satSucc 65535 (s.seq t).counters.length } })) ∧
     (1 ≤ n.toNat → n.toNat ≤ 60 → octets.length < n.toNat + 3 →
       exec (.txFrameDiscard t octets) s = .next (s.setSeq t { s.seq t with receiver := .taking octets })) ∧
     (1 ≤ n.toNat → n.toNat ≤ 60 → octets.length = n.toNat + 3 →
       ((crc16 (octets.take (octets.length - 2))).toNat ≠ wordAt octets (octets.length - 2) →
         exec (.txFrameDiscard t octets) s = .next (s.setSeq t { s.seq t with receiver := .hunt, counters :=
           { (s.seq t).counters with crc := satSucc 65535 (s.seq t).counters.crc } })) ∧
       ((crc16 (octets.take (octets.length - 2))).toNat = wordAt octets (octets.length - 2) →
         (octetAt octets 1 ≠ 0x50 ∨ ¬(body.length = 12 ∧ octetAt body 11 = 0 ∨ body.length = 22 ∧ octetAt body 11 = 1) →
           exec (.txFrameDiscard t octets) s = .next (s.setSeq t { s.seq t with receiver := .hunt, counters :=
             { (s.seq t).counters with format := satSucc 65535 (s.seq t).counters.format } })) ∧
         (octetAt octets 1 = 0x50 → (body.length = 12 ∧ octetAt body 11 = 0 ∨ body.length = 22 ∧ octetAt body 11 = 1) →
           exec (.txFrameDiscard t octets) s = exec (.txReport t (reportOf body)) s)))) ∧
  (∀ (t : Nat) (h : HeldReport) (s : State) (st : SeqState), s.sized → 1 ≤ t → t ≤ 12 → (s.seq t).link = .up → (s.seq t).report = some h →
     s.clock ≤ h.arrived + s.params.txLinkDs * 100 → st = (s.seq t).state →
     ∃ u : State, exec (.txLinkTimeout t) s = .next u.settled ∧ u.clock = h.arrived + s.params.txLinkDs * 100 ∧
       (u.seq t).link = .lost ∧ u.lc.alerts.getLsbD Alert.txLink.bit = true ∧
       (st ≠ .unknown → st ≠ .fault → st ≠ .lockout → (u.seq t).state = .linkLost ∧ (u.seq t).outstanding = none ∧
         (u.seq t).queue = [] ∧ (u.seq t).deferred = [] ∧ (u.seq t).timer = none ∧ (u.seq t).mute = none ∧ (u.seq t).feedback = none) ∧
       ((st = .unknown ∨ st = .fault ∨ st = .lockout) → (u.seq t).state = st)) ∧
  (∀ (t : Nat) (h : HeldReport) (s : State), (s.seq t).report = some h → s.clock ≤ h.arrived + s.params.txStaleDs * 100 + 1 →
     exec (.reportStale t) s = .next (State.setProt { s with clock := h.arrived + s.params.txStaleDs * 100 + 1 } t
       { s.prot t with restoreRun := none }))

/-- R145, R150, R152, R157: the deadline of an order that is not a quench's, and the timers of TUNING and RAMP_DOWN, enter FAULT
with their causes and alert TXLINK; after a deadline no order is left but a quench's. R151, R154, R168, R169: a RAMP_UP that outlasts its timer is a counted trip RAMP_FAIL with
alert TRIP: the transmitter mutes with origin TRIP and a recovery notice, or is in LOCKOUT. -/
def Obligations.timers_and_deadlines_fault_or_trip : Prop :=
  (∀ (t : Nat) (s : State), s.sized → 1 ≤ t → t ≤ 12 →
     (∀ o, (s.seq t).outstanding = some o → o.owner ≠ .quench → s.clock ≤ o.sentAt + s.params.orderDs * 100 →
       ∃ u : State, exec (.orderDeadline t) s = .next u.settled ∧ u.clock = o.sentAt + s.params.orderDs * 100 ∧
         (u.seq t).state = .fault ∧ (u.seq t).faultCause = some .orderTimeout ∧ (u.seq t).deferred = [] ∧
         (∀ x ∈ (u.seq t).queue, x.owner = .quench) ∧
         .orderEnded t o.order.kind o.owner .timeout ∈ u.notices ∧ u.lc.alerts.getLsbD Alert.txLink.bit = true) ∧
     (∀ d, (s.seq t).state = .tuning → (s.seq t).timer = some d → s.clock ≤ d →
       ∃ u : State, exec (.tuneTimeout t) s = .next u.settled ∧ u.clock = d ∧ (u.seq t).state = .fault ∧
         (u.seq t).faultCause = some .tuneTimeout ∧ u.lc.alerts.getLsbD Alert.txLink.bit = true) ∧
     (∀ d, (s.seq t).state = .rampDown → (s.seq t).timer = some d → s.clock ≤ d →
       ∃ u : State, exec (.offTimeout t) s = .next u.settled ∧ u.clock = d ∧ (u.seq t).state = .fault ∧
         (u.seq t).faultCause = some .offTimeout ∧ u.lc.alerts.getLsbD Alert.txLink.bit = true)) ∧
  (∀ (t d : Nat) (s : State), s.sized → 1 ≤ t → t ≤ 12 → (s.seq t).state = .rampUp → (s.seq t).timer = some d → s.clock ≤ d →
     (s.prot t).lockout = false →
     ∃ u : State, exec (.rampFail t) s = .next u.settled ∧ u.clock = d ∧ u.lc.alerts.getLsbD Alert.trip.bit = true ∧
       (u.prot t).counted = satSucc 65535 (s.prot t).counted ∧ (u.prot t).uncounted = (s.prot t).uncounted ∧
       (u.prot t).commanded = 0 ∧
       ((u.prot t).lockout = false → (u.seq t).state = .muted ∧
         (u.seq t).mute = some { origin := .trip, accepted := false, notice := some (u.prot t).restart } ∧
         (u.prot t).lastTrip = some { cause := .rampFail, code := 0, elapsed := s.tb.elapsed, counted := true, outcome := .recovery }) ∧
       ((u.prot t).lockout = true → (u.seq t).state = .lockout ∧ u.lc.alerts.getLsbD Alert.lockout.bit = true ∧
         (u.prot t).lastTrip = some { cause := .rampFail, code := 0, elapsed := s.tb.elapsed, counted := true, outcome := .lockout }))

/-- R155: when RECOVERY_WAIT is over, a transmitter in MANUAL duty takes RF_OFF and enters RAMP_DOWN; one in AUTO duty with a
current entry takes RF_ON with the restart power when the permit conditions hold, and waits on when they do not. -/
def Obligations.recovery_wait_ends_in_restart_or_rf_off : Prop :=
  ∀ (t d : Nat) (s : State), s.sized → 1 ≤ t → t ≤ 12 → (s.seq t).state = .recoveryWait → (s.seq t).timer = some d → s.clock ≤ d →
    ((s.duty t).mode = .manual → ∃ u : State, exec (.recoveryWaitEnd t) s = .next u.settled ∧ u.clock = d ∧ (u.seq t).state = .rampDown) ∧
    (∀ e, (s.duty t).mode = .auto → s.change t = none → (s.duty t).current = some e → s.conditionsHold t = true →
      (∀ p, (s.seq t).restart = some p → p ≠ 0 →
        ∃ u : State, exec (.recoveryWaitEnd t) s = .next u.settled ∧ u.clock = d ∧ (u.seq t).state = .rampUp ∧
          (u.prot t).commanded = p ∧ (u.prot t).lastFold = some d ∧ (u.seq t).lastFeed = e.feed)) ∧
    (∀ e, (s.duty t).mode = .auto → s.change t = none → (s.duty t).current = some e → s.conditionsHold t = false →
      exec (.recoveryWaitEnd t) s = .next (State.settled { s with clock := d }))

/-! ## Chapter 9: protection -/

/-- R164, R165: in ON_AIR a report with enough forward power is evaluated: q is min(999, floor(100 × Pr / Pf)), recorded with the
moment; below warn_pm with FOLDED clear, WARN is clear and no decision follows. -/
def Obligations.fresh_report_is_evaluated_on_air : Prop :=
  ∀ (t q : Nat) (r : Report) (s : State), s.sized → 1 ≤ t → t ≤ 12 → t ≤ s.params.txCount → (s.seq t).state = .onAir →
    (s.seq t).outstanding = none → (s.seq t).feedback = none → r.txState = .on → r.tripCode = 0 → 1 ≤ r.pf →
    (s.prot t).commanded * 10 ≤ r.pf * 20 → q = min 999 (100 * r.pr / r.pf) → q < s.pt.settings.warnPm → (s.prot t).folded = false →
    ∃ u : State, exec (.txReport t r) s = .next u.settled ∧ (u.seq t).state = .onAir ∧ (u.prot t).ratio = some q ∧
      (u.prot t).evaluatedAt = some s.clock ∧ (u.prot t).warn = false ∧ (u.prot t).commanded = (s.prot t).commanded ∧
      (u.prot t).history = (s.prot t).history ∧ (∀ k, k ≠ t → u.prot k = s.prot k)

/-- R165: the decision table, and the restore run, which becomes none in every row but the last. -/
def Obligations.ratio_decisions_follow_the_table : Prop :=
  ∀ (t q : Nat) (s v : State) (p : ProtSettings) (x : Protection), p = s.pt.settings → x = s.prot t → p.warnPm < p.foldPm →
    p.foldPm < p.tripPm → v = s.setProt t { x with restoreRun := none } →
    (p.tripPm ≤ q → s.ratioDecision t q = v.tripWith t .vswr 0 .protection) ∧
    (p.foldPm ≤ q → q < p.tripPm → (∀ m, x.lastFold = some m → m + p.foldIntervalDs * 100 ≤ s.clock) →
      s.ratioDecision t q = v.foldStep t) ∧
    (∀ m, p.foldPm ≤ q → q < p.tripPm → x.lastFold = some m → s.clock < m + p.foldIntervalDs * 100 → s.ratioDecision t q = v) ∧
    (p.warnPm ≤ q → q < p.foldPm → s.ratioDecision t q = v) ∧
    (q < p.warnPm → x.folded = true → s.ratioDecision t q = s.restoreRunStep t) ∧
    (q < p.warnPm → x.folded = false → s.ratioDecision t q = s)

/-- R166, R167, R143, R144: a fold step to floor(p × 813 / 1024) at or above the floor, and a restore step to
min(limit, ceil(p × 1024 / 813)) once the run has lasted restore_interval_s, are each sent at once as a POWER order of the Protection
Unit with the next number; a fold below the floor trips. -/
def Obligations.fold_and_restore_steps_change_the_power : Prop :=
  ∀ (t : Nat) (s : State) (x : Protection), s.sized → 1 ≤ t → t ≤ 12 → x = s.prot t → (s.seq t).state = .onAir →
    (s.seq t).outstanding = none → (s.seq t).queue = [] → 1 ≤ x.floor →
    (x.commanded * 813 / 1024 < x.floor → s.foldStep t = s.tripWith t .foldFloor 0 .protection) ∧
    (x.floor ≤ x.commanded * 813 / 1024 →
      ((s.foldStep t).prot t).commanded = x.commanded * 813 / 1024 ∧ ((s.foldStep t).prot t).folded = true ∧
      ((s.foldStep t).prot t).lastFold = some s.clock ∧ ((s.foldStep t).seq t).state = .onAir ∧
      ((s.foldStep t).seq t).outstanding = some { order := .power (x.commanded * 813 / 1024)
                                                  number := ((s.seq t).counter + 1) % 256, owner := .protection, sentAt := s.clock }) ∧
    (x.restoreRun = none → s.restoreRunStep t = s.setProt t { x with restoreRun := some s.clock }) ∧
    (∀ m limit, x.restoreRun = some m → x.limit = some limit → 1 ≤ limit → 1 ≤ x.commanded →
      (s.clock < m + s.pt.settings.restoreIntervalS * 1000 → s.restoreRunStep t = s) ∧
      (m + s.pt.settings.restoreIntervalS * 1000 ≤ s.clock →
        ((s.restoreRunStep t).prot t).commanded = min limit ((x.commanded * 1024 + 812) / 813) ∧
        ((s.restoreRunStep t).seq t).state = .onAir ∧
        ((s.restoreRunStep t).seq t).outstanding = some { order := .power (min limit ((x.commanded * 1024 + 812) / 813))
                                                          number := ((s.seq t).counter + 1) % 256, owner := .protection
                                                          sentAt := s.clock } ∧
        (limit ≤ (x.commanded * 1024 + 812) / 813 →
          ((s.restoreRunStep t).prot t).folded = false ∧ ((s.restoreRunStep t).prot t).restoreRun = none) ∧
        ((x.commanded * 1024 + 812) / 813 < limit →
          ((s.restoreRunStep t).prot t).folded = x.folded ∧ ((s.restoreRunStep t).prot t).restoreRun = some s.clock)))

/-- R168 to R170: a counted trip outside LOCKOUT puts the elapsed count into a history of three at most, and three within the
window make the transmitter LOCKOUT; otherwise the restart power is folded once from the working power, not below the floor, and by the
model's choice also where that exceeds a limit lowered since (notes/assumptions/33.md). -/
def Obligations.counted_trip_recovers_or_locks_out : Prop :=
  ∀ (x : Protection) (cause : TripCause) (code now w l : Nat) (h : List Nat), cause.counted = true → x.lockout = false →
    x.limit = some l → h = (if x.history.length < 3 then x.history else x.history.drop 1) ++ [now] → x.history.length ≤ 3 →
    (∀ a b, h = [a, b, now] → now - a ≤ w → (x.trip cause code now w).2 = .lockout ∧
      (x.trip cause code now w).1.lockout = true ∧ (x.trip cause code now w).1.history = h ∧
      (x.trip cause code now w).1.counted = satSucc 65535 x.counted) ∧
    (h.length ≤ 2 ∨ (∃ a b, h = [a, b, now] ∧ w < now - a) → (x.trip cause code now w).2 = .recovery ∧
      (x.trip cause code now w).1.lockout = false ∧ (x.trip cause code now w).1.history = h ∧
      (x.trip cause code now w).1.restart = max x.floor (x.working * 813 / 1024) ∧ (x.trip cause code now w).1.folded = true ∧
      (x.trip cause code now w).1.lastTrip = some { cause := cause, code := code, elapsed := now, counted := true, outcome := .recovery })

/-- R174: an accepted PROT_SET replaces the whole set and changes nothing else; warn_pm < fold_pm < trip_pm is required. R172,
R156: LOCKOUT_CLEAR empties the trip history; a lockout ends, the sequencer leaves LOCKOUT for OFF, or for LINK_LOST when its link
is LOST, and the reply says so. Without a lockout nothing else changes. -/
def Obligations.prot_set_and_lockout_clear_take_effect : Prop :=
  (∀ (p : ProtSettings) (s : State), s.ready →
     (ProtSettings.inRange p = true → exec (.protSet p) s = .next (State.answer
       { s.received with pt := { s.pt with settings := p } } 0x68 .ok []) ∧ p.warnPm < p.foldPm ∧ p.foldPm < p.tripPm) ∧
     (ProtSettings.inRange p = false → exec (.protSet p) s = .next (s.received.answer 0x68 .range []))) ∧
  (∀ (t : Nat) (s : State), s.ready → s.sized → 1 ≤ t → t ≤ 12 → t ≤ s.params.txCount →
     ((s.prot t).lockout = false → exec (.lockoutClear t) s = .next (State.settled (State.answer
       (s.received.setProt t { s.prot t with history := [] }) 0x6A .ok (u8 0)))) ∧
     ((s.prot t).lockout = true → (s.seq t).state = .lockout →
       ∃ u : State, exec (.lockoutClear t) s = .next (State.settled (u.answer 0x6A .ok (u8 1))) ∧ (u.prot t).lockout = false ∧
         (u.prot t).history = [] ∧ (u.seq t).state = (if (s.seq t).link = .lost then .linkLost else .off) ∧
         (u.seq t).link = (s.seq t).link ∧ (∀ k, k ≠ t → u.seq k = s.seq k ∧ u.prot k = s.prot k)))

/-! ## Chapter 10: the Preset Cache -/

/-- R177, R178: a record with its own check code is good; with any one bit of its data or of its check code wrong it is corrected
to what it was, and with any two wrong it is found double. -/
def Obligations.check_code_repairs_one_bit_and_detects_two : Prop :=
  ∀ r : PresetRecord, r.antenna < 32 → r.channel < 8192 → r.s1 < 4096 → r.s2 < 4096 → r.s3 < 4096 → r.s4 < 4096 →
    r.quality < 1024 → r.check = r.code →
    r.checked = (.good, r) ∧
    (∀ i, i < 76 → (r.withDataWord (r.dataWord ^^^ 2 ^ i)).checked = (.corrected, r)) ∧
    (∀ k, k < 8 → PresetRecord.checked { r with check := r.check ^^^ BitVec.ofNat 16 (2 ^ k) } = (.corrected, r)) ∧
    (∀ i j, i < j → j < 76 → (r.withDataWord (r.dataWord ^^^ 2 ^ i ^^^ 2 ^ j)).checked.1 = .double) ∧
    (∀ i k, i < 76 → k < 8 → (PresetRecord.checked { r.withDataWord (r.dataWord ^^^ 2 ^ i) with
      check := r.check ^^^ BitVec.ofNat 16 (2 ^ k) }).1 = .double) ∧
    (∀ k l, k < l → l < 8 →
      (PresetRecord.checked { r with check := r.check ^^^ BitVec.ofNat 16 (2 ^ k) ^^^ BitVec.ofNat 16 (2 ^ l) }).1 = .double)

/-- R187, R178: PRESET_READ tells one record, its check outcome and the set's LRU mark. A corrected record is written back, a
double one is invalidated with alert PRESET and offered to the latch, and no other set, and no LRU mark, changes. -/
def Obligations.preset_read_checks_the_record : Prop :=
  ∀ (t n way : Nat) (s : State) (x : PresetSet) (r : PresetRecord), s.ready → s.sized → x = s.presetSet t n → r = x.way way →
    (t = 0 ∨ 12 < t ∨ 63 < n ∨ 1 < way → exec (.presetRead t n way) s = .next (s.received.answer 0x70 .range [])) ∧
    (1 ≤ t → t ≤ 12 → n ≤ 63 → way ≤ 1 →
      (r.valid = false → exec (.presetRead t n way) s = .next (s.received.answer 0x70 .ok (presetBody r .none x.lru))) ∧
      (r.valid = true → r.checked.1 = .good →
        exec (.presetRead t n way) s = .next (s.received.answer 0x70 .ok (presetBody r .good x.lru))) ∧
      (r.valid = true → r.checked.1 = .corrected → ∃ u, exec (.presetRead t n way) s = .next u ∧
        u.lc.reply = some { kind := 0x70, status := .ok, body := presetBody r.checked.2 .corrected x.lru } ∧
        u.presetSet t n = x.setWay way r.checked.2 ∧ u.pc.corrected = satSucc 65535 s.pc.corrected ∧
        u.lc.alerts = s.lc.alerts ∧ (∀ k m, k ≠ t ∨ m ≠ n → u.presetSet k m = s.presetSet k m)) ∧
      (r.valid = true → r.checked.1 = .double → ∃ u, exec (.presetRead t n way) s = .next u ∧
        u.lc.reply = some { kind := 0x70, status := .ok, body := presetBody { r with valid := false } .double x.lru } ∧
        u.presetSet t n = x.setWay way { r with valid := false } ∧ u.pc.double = satSucc 65535 s.pc.double ∧
        u.lc.alerts.getLsbD Alert.preset.bit = true ∧ (∀ k m, k ≠ t ∨ m ≠ n → u.presetSet k m = s.presetSet k m) ∧
        (s.pc.latch = none → u.pc.latch = some { kind := .double, tx := t, setNo := n, way := way, source := .host,
                                                 elapsed := s.tb.elapsed }) ∧
        (∀ l, s.pc.latch = some l → u.pc.latch = some l ∧ u.pc.more = true)))

/-- R188: the checks of PRESET_WRITE in their order, the read of the other way, and the record written whatever stood there
before, with the LRU mark unchanged and no body in the reply. -/
def Obligations.preset_write_replaces_one_way : Prop :=
  ∀ (t n way : Nat) (f : PresetFields) (s u : State) (inRange : Prop), s.ready → s.sized →
    (inRange ↔ 1 ≤ t ∧ t ≤ 12 ∧ n ≤ 63 ∧ way ≤ 1 ∧ 1 ≤ f.antenna ∧ f.antenna ≤ 24 ∧ f.channel ≤ 4760 ∧ f.s1 ≤ 4095 ∧ f.s2 ≤ 4095 ∧
      f.s3 ≤ 4095 ∧ f.s4 ≤ 4095 ∧ f.quality ≤ 999 ∧ (f.channel + 5 * f.antenna) % 64 = n ∧
      ∀ w ∈ s.pc.windows, ¬(w.enabled = true ∧ w.base ≤ f.channel ∧ f.channel < w.base + 2 ^ w.exponent)) →
    u = (s.received.checkWay t n (1 - way) .host).1 →
    (¬inRange → exec (.presetWrite t n way f) s = .next (s.received.answer 0x71 .range [])) ∧
    (inRange → ((u.presetSet t n).way (1 - way)).valid = true → ((u.presetSet t n).way (1 - way)).antenna = f.antenna →
      ((u.presetSet t n).way (1 - way)).channel = f.channel →
      exec (.presetWrite t n way f) s = .next (u.answer 0x71 .conflict [])) ∧
    (∀ r : PresetRecord, r.valid = true → r.antenna = f.antenna → r.channel = f.channel → r.s1 = f.s1 → r.s2 = f.s2 → r.s3 = f.s3 →
      r.s4 = f.s4 → r.quality = f.quality → r.check = r.code → inRange →
      ¬(((u.presetSet t n).way (1 - way)).valid = true ∧ ((u.presetSet t n).way (1 - way)).antenna = f.antenna ∧
        ((u.presetSet t n).way (1 - way)).channel = f.channel) →
      ∃ v, exec (.presetWrite t n way f) s = .next v ∧ v = State.answer (u.setPresetSet t n ((u.presetSet t n).setWay way r)) 0x71 .ok [] ∧
        v.lc.reply = some { kind := 0x71, status := .ok, body := [] } ∧ (v.presetSet t n).way way = r ∧
        (v.presetSet t n).way (1 - way) = (u.presetSet t n).way (1 - way) ∧ (v.presetSet t n).lru = (s.presetSet t n).lru ∧
        v.ss = s.ss ∧ v.pc.save = s.pc.save)

/-- R189: the range of PRESET_FLUSH, and what each scope invalidates; the reply counts the records that were valid and are no
longer; orders, the executor's plans and the pages a save has offered are left as they are. For one key the records that the read of its set
invalidates are counted too, the model's choice (notes/assumptions/28.md). -/
def Obligations.preset_flush_invalidates_by_scope : Prop :=
  ∀ (scope t a c : Nat) (s : State), s.ready → s.sized →
    (2 < scope ∨ (scope ≤ 1 ∧ (t = 0 ∨ 12 < t)) ∨ (scope = 0 ∧ (a = 0 ∨ 24 < a ∨ 4760 < c)) →
      exec (.presetFlush scope t a c) s = .next (s.received.answer 0x72 .range [])) ∧
    (∀ u : State, scope = 0 → 1 ≤ t → t ≤ 12 → 1 ≤ a → a ≤ 24 → c ≤ 4760 → u = s.received.readSet t ((c + 5 * a) % 64) .host →
      ∃ v, exec (.presetFlush scope t a c) s = .next v ∧
        v.lc.reply = some { kind := 0x72, status := .ok, body := u16 (s.validRecords - v.validRecords) } ∧
        (v.presetSet t ((c + 5 * a) % 64)).lru = (u.presetSet t ((c + 5 * a) % 64)).lru ∧
        (∀ way, way ≤ 1 → (v.presetSet t ((c + 5 * a) % 64)).way way =
          (if (u.presetSet t ((c + 5 * a) % 64)).find a c = some way
            then { (u.presetSet t ((c + 5 * a) % 64)).way way with valid := false }
            else (u.presetSet t ((c + 5 * a) % 64)).way way)) ∧
        (∀ k m, k ≠ t ∨ m ≠ (c + 5 * a) % 64 → v.presetSet k m = u.presetSet k m) ∧
        v.tq = s.tq ∧ v.se = s.se ∧ v.ss = s.ss ∧ v.pc.save = s.pc.save) ∧
    ((scope = 1 ∧ 1 ≤ t ∧ t ≤ 12) ∨ scope = 2 →
      ∃ v, exec (.presetFlush scope t a c) s = .next v ∧
        v.lc.reply = some { kind := 0x72, status := .ok, body := u16 (s.validRecords - v.validRecords) } ∧
        (∀ k m, scope = 2 ∨ k = t → v.presetSet k m =
          { way0 := { (s.presetSet k m).way0 with valid := false }, way1 := { (s.presetSet k m).way1 with valid := false }, lru := 0 }) ∧
        (∀ k m, scope = 1 → k ≠ t → v.presetSet k m = s.presetSet k m) ∧
        v.tq = s.tq ∧ v.se = s.se ∧ v.ss = s.ss ∧ v.pc.save = s.pc.save)

/-- R182, R192, R179, R186: PRESET_FREEZE sets the freeze, and ON ends a restore FROZEN, with the page it waits for given up;
PRESET_WINDOW replaces one window, and an enabled one invalidates the records it covers; PRESET_ERROR reports, and empties the
latch. -/
def Obligations.freeze_windows_and_error_latch_are_set : Prop :=
  ∀ s : State, s.ready →
    (s.pc.restore = none → ∀ b : Bool, exec (.presetFreeze (if b then 0 else 1)) s = .next (State.answer
      { s.received with pc := { s.pc with frozen := b } } 0x73 .ok [])) ∧
    (∀ run, s.pc.restore = some run →
      exec (.presetFreeze 1) s = .next (State.answer { s.received with pc := { s.pc with frozen := false } } 0x73 .ok []) ∧
      exec (.presetFreeze 0) s = .next (State.answer { s.received with
        pc := { s.pc with frozen := true, restore := none
                          lastRestore := some { outcome := .frozen, pages := run.next, counts := run.counts } }
        ss := { s.ss with readWait := s.ss.readWait.filter fun w => w.reader != .restorePage } } 0x73 .ok [])) ∧
    (∀ w e b k, (w = 0 ∨ 4 < w ∨ 4760 < b ∨ 12 < k) →
      exec (.presetWindow w e b k) s = .next (s.received.answer 0x74 .range [])) ∧
    (∀ (w b k : Nat) (e : Bool), 1 ≤ w → w ≤ 4 → b ≤ 4760 → k ≤ 12 →
      ∃ u, exec (.presetWindow w (if e then 1 else 0) b k) s = .next u ∧
        u.lc.reply = some { kind := 0x74, status := .ok, body := u16 (s.validRecords - u.validRecords) } ∧
        u.pc.windows = setNth s.pc.windows w { enabled := e, base := b, exponent := k } ∧
        (∀ t n way, (e = true ∧ b ≤ ((s.presetSet t n).way way).channel ∧ ((s.presetSet t n).way way).channel < b + 2 ^ k →
            (u.presetSet t n).way way = { (s.presetSet t n).way way with valid := false }) ∧
          (¬(e = true ∧ b ≤ ((s.presetSet t n).way way).channel ∧ ((s.presetSet t n).way way).channel < b + 2 ^ k) →
            (u.presetSet t n).way way = (s.presetSet t n).way way) ∧
          (u.presetSet t n).lru = (s.presetSet t n).lru)) ∧
    exec .presetError s = .next (State.answer { s.received with pc := { s.pc with latch := none, more := false } } 0x77 .ok
      s.presetErrorBody)

/-- R190 to R192: PRESET_SAVE over a blank area at an idle store offers pages until the work list is full, and is refused
NOT_BLANK over any other; PRESET_RESTORE begins with the read of page 0; a page read at a store without an operation takes the
page's 16 images in turn, a blank page as 16 BLANK ones; the next is due 5 ms later, and after page 95 the restore ends DONE. An image
is BLANK, INVALID, BAD, WINDOWED, PRESENT, FULL or INSTALLED by the first row of R192 that fits; a saved image with one wrong bit
counts as corrected, and only an installed one changes the set, beyond what the checks of R178 change. -/
def Obligations.save_offers_pages_and_restore_takes_them : Prop :=
  (∀ s : State, s.notices = [] → s.ss.operation = none →
    (s.ready → s.arrayWf → s.ss.idle → s.pc.save = none → s.pc.restore = none →
      (∀ x, saveAddress ≤ x → x < saveAddress + 65536 → memRead s.ss.array x = 0xFF) →
      ∃ u, exec .presetSave s = .next u ∧ u.lc.reply = some { kind := 0x75, status := .ok, body := [] } ∧
        u.pc.save = some { next := 9, done := 0 } ∧ u.ss.work.length = 8 ∧ u.ss.state = .programming 1024 ∧
        u.ss.array = s.ss.array) ∧
    (s.ready → s.pc.save = none → s.pc.restore = none → s.arrayWf →
      (∃ x, saveAddress ≤ x ∧ x < saveAddress + 65536 ∧ memRead s.ss.array x ≠ 0xFF) →
      exec .presetSave s = .next (s.received.answer 0x75 .notBlank [])) ∧
    (s.ready → s.pc.frozen = true → exec .presetRestore s = .next (s.received.answer 0x76 .state [])) ∧
    (s.ready → s.pc.frozen = false → s.pc.save = none → s.pc.restore = none →
      ∃ c : RestoreCounts, c = { blank := 0, invalid := 0, bad := 0, windowed := 0, present := 0, full := 0, installed := 0 } ∧
        exec .presetRestore s = .next (State.settled (State.answer (State.post { s.received with pc := { s.pc with
          restore := some { next := 0, dueAt := s.clock, waiting := true, counts := c } } } (.served .restorePage)) 0x76 .ok []))) ∧
    (∀ run, s.pc.restore = some run → run.waiting = false → run.next < 95 → s.clock ≤ run.dueAt →
      (∀ k, k < 256 → memRead s.ss.array (saveAddress + run.next * 256 + k) = 0xFF) →
      exec .restorePageRead s = .next { s with clock := run.dueAt, pc := { s.pc with
        restore := some { next := run.next + 1, dueAt := run.dueAt + 5, waiting := false
                          counts := { run.counts with blank := run.counts.blank + 16 } } } }) ∧
    (∀ (run : RestoreRun) (v : State) (c : RestoreCounts), s.pc.restore = some run → run.waiting = false → s.clock ≤ run.dueAt →
      s.ss.readWait = [] →
      (List.range 16).foldl (fun p k => State.restoreImage p.1 (run.next / 8 + 1) (run.next % 8 * 8 + k / 2)
          (memReadAll s.ss.array (saveAddress + run.next * 256 + k * 16) 16) p.2)
        ({ s with clock := run.dueAt, pc := { s.pc with restore := some { run with waiting := true } } }, run.counts) = (v, c) →
      (run.next < 95 → exec .restorePageRead s = .next { v with pc := { v.pc with
        restore := some { next := run.next + 1, dueAt := run.dueAt + 5, waiting := false, counts := c } } }) ∧
      (run.next = 95 → exec .restorePageRead s = .next { v with pc := { v.pc with
        restore := none, lastRestore := some { outcome := .done, pages := 96, counts := c } } }))) ∧
  (∀ (s v : State) (t n : Nat) (bs : List Byte) (c : RestoreCounts) (r w : PresetRecord) (x : PresetSet),
    s.sized → 1 ≤ t → t ≤ 12 → n < 64 → r = imageRecord bs → w = r.checked.2 →
    v = s.readSet t n .fill → x = v.presetSet t n →
    ((∀ b ∈ bs, b = 0xFF) → s.restoreImage t n bs c = (s, { c with blank := c.blank + 1 })) ∧
    ((∃ b ∈ bs, b ≠ 0xFF) →
      (octetAt bs 0 ≠ 1 → s.restoreImage t n bs c = (s, { c with invalid := c.invalid + 1 })) ∧
      (octetAt bs 0 = 1 →
        (r.checked.1 = .double ∨ ¬SavedKeyFits r w n → s.restoreImage t n bs c = (s, { c with bad := c.bad + 1 })) ∧
        (r.checked.1 ≠ .double → SavedKeyFits r w n →
          ((∃ z ∈ s.pc.windows, z.covers w.channel = true) →
            s.restoreImage t n bs c = (s, { c with windowed := c.windowed + 1 })) ∧
          ((∀ z ∈ s.pc.windows, z.covers w.channel = false) →
            (x.way0.holds w.antenna w.channel = true ∨ x.way1.holds w.antenna w.channel = true →
              s.restoreImage t n bs c = (v, { c with present := c.present + 1 })) ∧
            (x.way0.holds w.antenna w.channel = false → x.way1.holds w.antenna w.channel = false →
              (x.way0.valid = true → x.way1.valid = true → s.restoreImage t n bs c = (v, { c with full := c.full + 1 })) ∧
              (x.way0.valid = false ∨ x.way1.valid = false →
                ∃ u : State, s.restoreImage t n bs c = (u, { c with installed := c.installed + 1 }) ∧
                  (∀ y, y = newRecord w.antenna w.channel w.s1 w.s2 w.s3 w.s4 w.quality →
                    (x.way0.valid = false → u.presetSet t n = { x with way0 := y, lru := 1 }) ∧
                    (x.way0.valid = true → u.presetSet t n = { x with way1 := y, lru := 0 })) ∧
                  (∀ k m, k ≠ t ∨ m ≠ n → u.presetSet k m = v.presetSet k m) ∧ u.lc = v.lc)))))))

/-- R185, R178: a scrub check advances the position through the ways, sets and transmitters, begins the next interval and changes
no LRU mark. An invalid record is passed over. A valid one is checked: a good one stays, a corrected one is written back and counted
without an alert, and a double one is invalidated, counted and offered to the latch with source SCRUB and alert PRESET. At way 1 with
both ways valid way 0 is read too, and two good records of one key are both invalidated as a duplicate, with source SCRUB. -/
def Obligations.scrub_checks_one_record_and_advances : Prop :=
  ∀ (m : Nat) (s : State) (x : PresetSet) (r : PresetRecord), s.sized → s.pc.scrubAt = some m → s.clock ≤ m → s.pc.scrubWay ≤ 1 →
    x = s.presetSet s.pc.scrubTx s.pc.scrubSet → r = x.way s.pc.scrubWay →
    ∃ u, exec .scrubCheck s = .next u ∧ u.clock = m ∧
      u.pc.scrubAt = (if s.params.scrubMs = 0 then none else some (m + s.params.scrubMs)) ∧
      (s.pc.scrubWay = 0 → u.pc.scrubTx = s.pc.scrubTx ∧ u.pc.scrubSet = s.pc.scrubSet ∧ u.pc.scrubWay = 1) ∧
      (s.pc.scrubWay = 1 → s.pc.scrubSet < 63 →
        u.pc.scrubTx = s.pc.scrubTx ∧ u.pc.scrubSet = s.pc.scrubSet + 1 ∧ u.pc.scrubWay = 0) ∧
      (s.pc.scrubWay = 1 → s.pc.scrubSet = 63 →
        u.pc.scrubTx = (if s.pc.scrubTx < 12 then s.pc.scrubTx + 1 else 1) ∧ u.pc.scrubSet = 0 ∧ u.pc.scrubWay = 0) ∧
      (∀ t n, (u.presetSet t n).lru = (s.presetSet t n).lru) ∧
      (∀ t n, t ≠ s.pc.scrubTx ∨ n ≠ s.pc.scrubSet → u.presetSet t n = s.presetSet t n) ∧
      (r.valid = false → u.pc.directories = s.pc.directories ∧ u.lc = s.lc ∧ u.pc.latch = s.pc.latch) ∧
      (r.valid = true →
        (s.pc.scrubWay = 1 → x.way0.valid = true →
          x.way0.checked.1 = .good ∧ r.checked.2.holds x.way0.antenna x.way0.channel = false) →
        (r.checked.1 = .good → u.pc.directories = s.pc.directories ∧ u.lc = s.lc ∧ u.pc.latch = s.pc.latch) ∧
        (r.checked.1 = .corrected → u.presetSet s.pc.scrubTx s.pc.scrubSet = x.setWay s.pc.scrubWay r.checked.2 ∧
          u.pc.corrected = satSucc 65535 s.pc.corrected ∧ u.lc = s.lc ∧ u.pc.latch = s.pc.latch)) ∧
      (r.valid = true → r.checked.1 = .double →
        u.presetSet s.pc.scrubTx s.pc.scrubSet = x.setWay s.pc.scrubWay { r with valid := false } ∧
        u.pc.double = satSucc 65535 s.pc.double ∧ u.lc.alerts.getLsbD Alert.preset.bit = true ∧
        (s.pc.latch = none → u.pc.latch = some { kind := .double, tx := s.pc.scrubTx, setNo := s.pc.scrubSet, way := s.pc.scrubWay,
                                                 source := .scrub, elapsed := s.tb.elapsed }) ∧
        (∀ l, s.pc.latch = some l → u.pc.latch = some l ∧ u.pc.more = true)) ∧
      (s.pc.scrubWay = 1 → r.valid = true → x.way0.valid = true → r.checked.1 = .good → x.way0.checked.1 = .good →
        r.holds x.way0.antenna x.way0.channel = true →
        u.presetSet s.pc.scrubTx s.pc.scrubSet =
          { x with way0 := { x.way0 with valid := false }, way1 := { r with valid := false } } ∧
        u.pc.duplicate = satSucc 65535 s.pc.duplicate ∧ u.lc.alerts.getLsbD Alert.preset.bit = true ∧
        (s.pc.latch = none → u.pc.latch = some { kind := .duplicate, tx := s.pc.scrubTx, setNo := s.pc.scrubSet, way := 1,
                                                 source := .scrub, elapsed := s.tb.elapsed }) ∧
        (∀ l, s.pc.latch = some l → u.pc.latch = some l ∧ u.pc.more = true))

/-! ## Chapter 11: line diagnostics -/

/-- R199, R202: DIAG_START makes the run ACTIVE with the defined antennas of the set NOT_REACHED, or ends it at once BUS_FAULT
while the bus fault is set; DIAG_STOP makes an ACTIVE run ENDING with outcome STOPPED: with no current antenna nothing else changes but
a self-check's result being discarded; a current antenna becomes ABORTED, a step in progress DISCARDED, and its test switch is ordered
OPEN at priority 2. R198: a run that has yielded waits for the bus, so that it ends with no antenna ABORTED, by the model's deduction
(notes/assumptions/34.md); its test switch, if not confirmed OPEN, is ordered OPEN. -/
def Obligations.diagnostic_run_starts_and_stops : Prop :=
  ∀ s : State, s.ready →
    (∀ (antennas : List Nat) (steps : Nat) (plan : List PlanEntry) (d : Diagnostics), 1 ≤ steps → steps ≤ 15 →
      (∀ a ∈ antennas, 1 ≤ a ∧ a ≤ 24) → (∃ a ∈ antennas, s.ant a ≠ none) → s.safetyHalt = false →
      plan = ((upTo 24).filter fun a => antennas.contains a && (s.ant a).isSome).map PlanEntry.blank →
      d = { s.ld with steps := BitVec.ofNat 4 steps, plan := plan } →
      (s.ld.run ≠ .idle → exec (.diagStart antennas steps) s = .next (s.received.answer 0x78 .busy [])) ∧
      (s.ld.run = .idle → s.ld.busFault = none → exec (.diagStart antennas steps) s = .next (State.settled (State.answer
        (State.postOnce { s.received with ld := { d with
          run := .active, outcome := none
          position := some { index := 0, phase := .waitBus, step := .insul, neighbour := 0 } } } .diag) 0x78 .ok []))) ∧
      (s.ld.run = .idle → s.ld.busFault ≠ none → s.ld.closedSwitch = none →
        exec (.diagStart antennas steps) s = .next (State.settled (State.answer (State.postOnce { s.received with ld := { d with
          run := .ending, outcome := some .busFault, position := none } } .diag) 0x78 .ok [])))) ∧
    (s.ld.run ≠ .active → exec .diagStop s = .next (s.received.answer 0x79 .state [])) ∧
    (∀ p, s.ld.run = .active → s.ld.position = some p → p.phase.connected = false → s.ld.closedSwitch = none →
      exec .diagStop s = .next (State.settled (State.answer (State.postOnce { s.received with ld := { s.ld with
        run := .ending, outcome := some .stopped, position := none
        measurement := if p.phase = .selfCheck then s.ld.measurement.map fun m => { m with discard := true } else s.ld.measurement } }
        .diag) 0x79 .ok []))) ∧
    (∀ (p : RunPosition) (a : Nat) (x : Mover) (d : Diagnostics), s.sized → s.ld.run = .active → s.ld.position = some p →
      s.ld.closedSwitch = some a → (p.phase = .yielding ∨ p.phase = .yielded) → x = s.mover (testSwitch a) →
      d = { s.ld with run := .ending, outcome := some .stopped, position := none } →
      (∃ u : State, exec .diagStop s = .next (State.settled (u.answer 0x79 .ok [])) ∧ u.ld = d ∧
        (∀ k, k ≠ testSwitch a → u.mover k = s.mover k) ∧
        (1 ≤ a → a ≤ 24 → s.present (testSwitch a) = true → x.fault = none → x.phase = .moving ∨ x.phase = .settling ∨ x.phase = .validating →
          x.target = some .opened →
          u.mover (testSwitch a) = { x with followOn := none, joined := x.joined ++ [.diagRun] }) ∧
        (1 ≤ a → a ≤ 24 → s.present (testSwitch a) = true → x.fault = none → x.confirmedAt ≠ some .opened →
          (u.mover (testSwitch a)).target = some .opened ∨
          (u.mover (testSwitch a)).followOn.map (·.target) = some .opened)) ∧
      (s.present (testSwitch a) = true → x.fault = none → x.phase = .rest → x.watch = none → x.confirmed = some .opened →
        exec .diagStop s = .next (State.settled (State.answer (State.postOnce { s.received with ld := d } .diag) 0x79 .ok [])))) ∧
    (∀ (p : RunPosition) (a : Nat) (x : Mover), s.sized → s.ld.run = .active → s.ld.position = some p → s.ld.closedSwitch = some a →
      (p.phase = .connecting ∨ p.phase = .measuring ∨ p.phase = .disconnecting) → p.index < s.ld.plan.length →
      (s.planAt p.index).antenna = a → x = s.mover (testSwitch a) → s.present (testSwitch a) = true → x.fault = none →
      x.phase = .rest → x.confirmed = some .closed →
      ∃ u : State, exec .diagStop s = .next (State.settled (u.answer 0x79 .ok [])) ∧ u.ld.run = .ending ∧
        u.ld.outcome = some .stopped ∧ u.ld.position = none ∧ (u.planAt p.index).outcome = .aborted ∧
        (p.phase = .measuring → (u.planAt p.index).result p.step = some .discarded ∧
          u.ld.measurement = s.ld.measurement.map fun m => { m with discard := true }) ∧
        (p.phase ≠ .measuring → u.ld.measurement = s.ld.measurement) ∧
        u.mover (testSwitch a) = { x with phase := .queued, target := some .opened, requester := some .diagRun, priority := 2,
                                          age := s.mc.ageCounter, joined := [] } ∧
        (∀ k, k ≠ testSwitch a → u.mover k = s.mover k))

/-- R195: the checks of FAULT_CLEAR in their order; for antenna 0 the bus fault is cleared; for an antenna each named flag leaves
the fault set, which the reply carries, and the Permit Unit tests the lines again. -/
def Obligations.fault_clear_removes_the_named_flags : Prop :=
  ∀ (a flags : Nat) (s : State) (inRange held : Prop), s.ready →
    (inRange ↔ a ≤ s.params.antCount ∧ (a = 0 ∨ flags ≤ 255)) →
    (held ↔ a ≠ 0 ∧ ((flags.testBit FaultFlag.drive.bit = true ∧ ((s.mover (testSwitch a)).fault ≠ none ∨
        (s.mover (slewDrive a)).fault ≠ none ∨ (s.mover (reverserOf a)).fault ≠ none)) ∨
      (flags.testBit FaultFlag.route.bit = true ∧ 2 ≤ (s.rowsNotOpen a).length))) →
    (¬inRange → exec (.faultClear a flags) s = .next (s.received.answer 0x7B .range [])) ∧
    (inRange → held → exec (.faultClear a flags) s = .next (s.received.answer 0x7B .state [])) ∧
    (inRange → ¬held → a = 0 → exec (.faultClear a flags) s = .next (State.settled (State.answer
      { s.received with ld := { s.ld with busFault := none } } 0x7B .ok []))) ∧
    (∀ after : FaultSet, inRange → ¬held → a ≠ 0 → after = s.faultSet a &&& ~~~ BitVec.ofNat 8 flags →
      (∀ k, k < 8 → after.getLsbD k = ((s.faultSet a).getLsbD k && !flags.testBit k)) ∧
      exec (.faultClear a flags) s = .next (State.settled (State.answer (State.postOnce { s.received with ld := { s.ld with
        faults := setNth s.ld.faults a after } } .permits) 0x7B .ok (u8 after.toNat))))

/-- R196, R197, R199, R201: a result with another tag, or with none outstanding, is disregarded. A self-check PASS takes the run
to its first antenna, a FAIL ends it BUS_FAULT. A LOOP PASS after an INSUL PASS removes UNCHECKED; an INSUL FAIL sets SHORT_GND.
R197, R202, R203: a measurement without an answer for 100 ds ends TIMEOUT and sets the bus fault with its moment; the checks in
the pre-use queue are answered WAIVED, and an active run that has the bus ends BUS_FAULT. -/
def Obligations.bus_results_and_timeouts_end_the_measurement : Prop :=
  (∀ (tag : Nat) (s : State), s.sized →
     ((∀ m, s.ld.measurement = some m → m.tag ≠ tag) → ∀ r, exec (.busResult tag r) s = .next s.settled) ∧
     (∀ m p, s.ld.measurement = some m → m.tag = tag → s.ld.preUse = none → s.ld.position = some p → s.ld.closedSwitch = none →
       p.phase = .selfCheck → m.order = .selfCheck →
       exec (.busResult tag .pass) s = .next (State.settled (State.postOnce { s with ld := { s.ld with
         measurement := none, bus := .runStep, position := some { p with phase := .nextAntenna } } } .diag)) ∧
       (s.ld.preUseQueue = [] → exec (.busResult tag .fail) s = .next (State.settled (State.postOnce { s with ld := { s.ld with
         measurement := none, busFault := some (.selfCheck, s.tb.elapsed), run := .ending, outcome := some .busFault
         position := none } } .diag)))) ∧
     (∀ m p e, s.ld.measurement = some m → m.tag = tag → m.discard = false → s.ld.preUse = none → s.ld.position = some p →
       p.phase = .measuring → p.index < s.ld.plan.length → e = s.planAt p.index → 1 ≤ e.antenna → e.antenna ≤ 24 →
       (p.step = .loop → m.order = .loop e.antenna → e.insul = some .pass →
         ∃ u : State, exec (.busResult tag .pass) s = .next u.settled ∧ (u.faultSet e.antenna).getLsbD FaultFlag.unchecked.bit = false ∧
           (u.planAt p.index).loop = some .pass ∧ (∀ k, k ≠ 0 → (u.faultSet e.antenna).getLsbD k = (s.faultSet e.antenna).getLsbD k)) ∧
       (p.step = .insul → m.order = .insul e.antenna → s.ant e.antenna ≠ none →
         ∃ u : State, exec (.busResult tag .fail) s = .next u.settled ∧ (u.faultSet e.antenna).getLsbD FaultFlag.shortGnd.bit = true ∧
           (u.planAt p.index).insul = some .fail))) ∧
  (∀ (m : Measurement) (s : State), s.ld.measurement = some m → s.clock ≤ m.sentAt + 10000 →
     ∃ u : State, exec .measurementTimeout s = .next u.settled ∧ u.clock = m.sentAt + 10000 ∧ u.ld.measurement = none ∧
       u.ld.busFault = some (.timeout, s.tb.elapsed) ∧ u.ld.preUseQueue = [] ∧
       (∀ q ∈ s.ld.preUseQueue, .preUse q.1 q.2 none ∈ u.notices) ∧
       (s.ld.preUse = none → s.ld.run = .active → s.ld.position ≠ none → u.ld.run = .ending ∧ u.ld.outcome = some .busFault ∧
         u.ld.position = none) ∧
       (∀ x, s.ld.preUse = some x → .preUse x.tx x.antenna none ∈ u.notices ∧ u.ld.preUse = some { x with phase := .opening }))

/-! ## What every step keeps -/

/-- R110, R100: while fewer slots are in use than motion_slots, the arbiter grants the eligible request of highest priority, the oldest
of those: it is MOVING with its travel timer, no confirmed position and one more slot in use; otherwise it grants nothing. R111: an
eligible request stands against no halt, rows that are not cold, and, for a close, switches of its row and column that are not
confirmed OPEN. No command takes the slots in use above motion_slots. R114, R115: at every step the status table stays exclusive. R124
to R127: from a state whose lines stand by right, every step that leaves nothing to hand over leaves lines that stand by right. -/
def Obligations.arbiter_antennas_and_lines_keep_their_rules : Prop :=
  (∀ s : State, s.sized →
     (s.params.motionSlots ≤ s.slotsInUse ∨ (∀ m, 1 ≤ m → m ≤ 372 → s.eligible m = false) → s.arbitrate = s) ∧
     (∀ m x, 1 ≤ m → m ≤ 372 → x = s.mover m → s.slotsInUse < s.params.motionSlots → s.eligible m = true →
       (∀ k, 1 ≤ k → k ≤ 372 → k ≠ m → s.eligible k = true → (s.mover k).priority < x.priority ∨
         ((s.mover k).priority = x.priority ∧ x.age < (s.mover k).age)) →
       x.contacts ≠ x.target.toList →
       (s.arbitrate.mover m = { x with phase := .moving, run := x.target, timer := some (s.clock + s.travelMs m x), confirmed := none } ∧
         (∀ k, k ≠ m → s.arbitrate.mover k = s.mover k) ∧ s.arbitrate.slotsInUse = s.slotsInUse + 1)) ∧
     (∀ m, s.eligible m = true → (s.mover m).phase = .queued ∧ s.safetyHalt = false ∧ (s.mover m).watch = none ∧
       (∀ t ∈ s.dependsOn m, (s.permit t).cold = true) ∧
       ((s.mover m).target = some .closed → ∀ t a, kindOf m = .crosspoint t a →
         (∀ k ∈ s.columnMovers a, k ≠ m → s.isOpen k = true) ∧ s.isOpen (testSwitch a) = true ∧
         (∀ k ∈ s.rowMovers t, k ≠ m → s.isOpen k = true) ∧ s.rowFault t = []))) ∧
  (∀ (c : Instr) (s t : State), s.sized → exec c s = .next t → t.slotsInUse ≤ max s.slotsInUse t.params.motionSlots) ∧
  (∀ s t : State, s.sized → s.Exclusive → step s = .next t → t.Exclusive) ∧
  (∀ s t : State, s.sized → s.notices = [] → (∀ r, 1 ≤ r → r ≤ 12 → (s.permit r).line = true → s.Permitted r) → step s = .next t →
     t.notices = [] → ∀ r, 1 ≤ r → r ≤ 12 → (t.permit r).line = true → t.Permitted r)

/-- R41: the work list holds eight items at most, at every step. R169: so does a trip history three instants. R82, R83: every changeover
record has a lead of 600 s at most and X = Ps + lead_s, at every step; the lead is capped, Ps is the latest of now, the end of the
current entry if that is not after S, and S less the lead. R80, R83: a candidate that fails a test gives way to the next; the late
limit is tested before the reservation is asked, and a reservation makes the record PLANNED with handled_through at the start. R162,
R163: where RF stands, a decision of the Protection Unit that leaves it standing leaves the commanded power between floor and limit. -/
def Obligations.work_trips_leads_and_power_stay_in_bounds : Prop :=
  (∀ s t : State, s.ss.work.length ≤ 8 → step s = .next t → t.ss.work.length ≤ 8) ∧
  (∀ s t : State, (∀ k, (s.prot k).history.length ≤ 3) → step s = .next t → ∀ k, (t.prot k).history.length ≤ 3) ∧
  (∀ s t : State, (∀ k c, s.change k = some c → c.leadS ≤ 600 ∧ c.x = c.ps + c.leadS) → step s = .next t →
     ∀ k c, t.change k = some c → c.leadS ≤ 600 ∧ c.x = c.ps + c.leadS) ∧
  (∀ (s : State) (t freq ref now : Nat) (g : Target) (p : LeadPlan), p = (s.planLead t g freq ref now).2 →
     p.kind = s.changeKind t g freq ref ∧
     (p.kind = .seamless → p.leadS = 0 ∧ p.ps = ref ∧ p.x = ref) ∧
     (p.kind ≠ .seamless → p.leadS ≤ 600 ∧ p.x = p.ps + p.leadS ∧
       ((s.duty t).current = none → p.ps = max now (ref - p.leadS)) ∧
       (∀ e, (s.duty t).current = some e → p.ps = max now (max (if e.endAt ≤ ref then e.endAt else 0) (ref - p.leadS))) ∧
       (p.kind ≠ .reroute → s.drivesMove g = false → p.routeDs = 0))) ∧
  (∀ (s : State) (t now : Nat) (o : Occurrence) (g : Target) (sub : Bool) (rest : List (Target × Bool)) (last : Cause),
     (∀ c, s.candidateCause t g o.entry.freq o.entry.power = some c →
       s.planCandidates t o now last ((g, sub) :: rest) = s.planCandidates t o now c rest) ∧
     (∀ v p, s.candidateCause t g o.entry.freq o.entry.power = none → (v, p) = s.planLead t g o.entry.freq o.refStart now →
       (∀ l, o.entry.lateLimit = some l → l < p.x - o.refStart →
         s.planCandidates t o now last ((g, sub) :: rest) = v.skipOccurrence t o .lateLimit) ∧
       (o.entry.lateLimit = none → (v.reserveTarget t g.antenna).2 = true → s.sized → 1 ≤ t → t ≤ 12 →
         ∃ u c, s.planCandidates t o now last ((g, sub) :: rest) = u ∧ u.change t = some c ∧ c.phase = .planned ∧ c.ps = p.ps ∧
           c.x = p.x ∧ c.leadS = p.leadS ∧ c.lateness = p.x - o.refStart ∧ c.priorHandled = (s.duty t).handledThrough ∧
           (u.duty t).handledThrough = some o.startAt))) ∧
  (∀ (s : State) (t q limit : Nat), s.sized → 1 ≤ t → t ≤ 12 → (s.prot t).limit = some limit → 1 ≤ limit →
     (s.prot t).floor = (limit + 3) / 4 → (s.prot t).floor ≤ (s.prot t).commanded → (s.prot t).commanded ≤ limit →
     ((s.seq t).state = .rampUp ∨ (s.seq t).state = .onAir) →
     ((s.ratioDecision t q).seq t).state = (s.seq t).state →
     ((s.ratioDecision t q).prot t).limit = some limit ∧ ((s.ratioDecision t q).prot t).floor = (limit + 3) / 4 ∧
     (limit + 3) / 4 ≤ ((s.ratioDecision t q).prot t).commanded ∧ ((s.ratioDecision t q).prot t).commanded ≤ limit)
end

