-- ==== Sys2Proof/Laws/State.lean ====
section
/-! SUPPORT. One lemma per field per update of the state, so that no later proof unfolds a record update; and reading back what
was written to a numbered table. -/

namespace Sys2Proof.Machine

open Sys2Proof

variable (s : State)

/-! ## Fields that an update leaves alone -/

@[simp] theorem State.post_pending (n : Notice) : (s.post n).pending = s.pending := rfl
@[simp] theorem State.post_clock (n : Notice) : (s.post n).clock = s.clock := rfl
@[simp] theorem State.post_freeCount (n : Notice) : (s.post n).freeCount = s.freeCount := rfl
@[simp] theorem State.post_straps (n : Notice) : (s.post n).straps = s.straps := rfl
@[simp] theorem State.post_ht (n : Notice) : (s.post n).ht = s.ht := rfl
@[simp] theorem State.post_tb (n : Notice) : (s.post n).tb = s.tb := rfl
@[simp] theorem State.post_ss (n : Notice) : (s.post n).ss = s.ss := rfl
@[simp] theorem State.post_sb (n : Notice) : (s.post n).sb = s.sb := rfl
@[simp] theorem State.post_se (n : Notice) : (s.post n).se = s.se := rfl
@[simp] theorem State.post_mc (n : Notice) : (s.post n).mc = s.mc := rfl
@[simp] theorem State.post_pu (n : Notice) : (s.post n).pu = s.pu := rfl
@[simp] theorem State.post_tq (n : Notice) : (s.post n).tq = s.tq := rfl
@[simp] theorem State.post_pt (n : Notice) : (s.post n).pt = s.pt := rfl
@[simp] theorem State.post_pc (n : Notice) : (s.post n).pc = s.pc := rfl
@[simp] theorem State.post_ld (n : Notice) : (s.post n).ld = s.ld := rfl
@[simp] theorem State.post_lc (n : Notice) : (s.post n).lc = s.lc := rfl

@[simp] theorem State.postOnce_pending (n : Notice) : (s.postOnce n).pending = s.pending := rfl
@[simp] theorem State.postOnce_clock (n : Notice) : (s.postOnce n).clock = s.clock := rfl
@[simp] theorem State.postOnce_freeCount (n : Notice) : (s.postOnce n).freeCount = s.freeCount := rfl
@[simp] theorem State.postOnce_straps (n : Notice) : (s.postOnce n).straps = s.straps := rfl
@[simp] theorem State.postOnce_ht (n : Notice) : (s.postOnce n).ht = s.ht := rfl
@[simp] theorem State.postOnce_tb (n : Notice) : (s.postOnce n).tb = s.tb := rfl
@[simp] theorem State.postOnce_ss (n : Notice) : (s.postOnce n).ss = s.ss := rfl
@[simp] theorem State.postOnce_sb (n : Notice) : (s.postOnce n).sb = s.sb := rfl
@[simp] theorem State.postOnce_se (n : Notice) : (s.postOnce n).se = s.se := rfl
@[simp] theorem State.postOnce_mc (n : Notice) : (s.postOnce n).mc = s.mc := rfl
@[simp] theorem State.postOnce_pu (n : Notice) : (s.postOnce n).pu = s.pu := rfl
@[simp] theorem State.postOnce_tq (n : Notice) : (s.postOnce n).tq = s.tq := rfl
@[simp] theorem State.postOnce_pt (n : Notice) : (s.postOnce n).pt = s.pt := rfl
@[simp] theorem State.postOnce_pc (n : Notice) : (s.postOnce n).pc = s.pc := rfl
@[simp] theorem State.postOnce_ld (n : Notice) : (s.postOnce n).ld = s.ld := rfl
@[simp] theorem State.postOnce_lc (n : Notice) : (s.postOnce n).lc = s.lc := rfl

@[simp] theorem State.reach_pending (m : Nat) : (s.reach m).pending = s.pending := rfl
@[simp] theorem State.reach_notices (m : Nat) : (s.reach m).notices = s.notices := rfl
@[simp] theorem State.reach_freeCount (m : Nat) : (s.reach m).freeCount = s.freeCount := rfl
@[simp] theorem State.reach_straps (m : Nat) : (s.reach m).straps = s.straps := rfl
@[simp] theorem State.reach_ht (m : Nat) : (s.reach m).ht = s.ht := rfl
@[simp] theorem State.reach_tb (m : Nat) : (s.reach m).tb = s.tb := rfl
@[simp] theorem State.reach_ss (m : Nat) : (s.reach m).ss = s.ss := rfl
@[simp] theorem State.reach_sb (m : Nat) : (s.reach m).sb = s.sb := rfl
@[simp] theorem State.reach_se (m : Nat) : (s.reach m).se = s.se := rfl
@[simp] theorem State.reach_mc (m : Nat) : (s.reach m).mc = s.mc := rfl
@[simp] theorem State.reach_pu (m : Nat) : (s.reach m).pu = s.pu := rfl
@[simp] theorem State.reach_tq (m : Nat) : (s.reach m).tq = s.tq := rfl
@[simp] theorem State.reach_pt (m : Nat) : (s.reach m).pt = s.pt := rfl
@[simp] theorem State.reach_pc (m : Nat) : (s.reach m).pc = s.pc := rfl
@[simp] theorem State.reach_ld (m : Nat) : (s.reach m).ld = s.ld := rfl
@[simp] theorem State.reach_lc (m : Nat) : (s.reach m).lc = s.lc := rfl

@[simp] theorem State.answer_pending (k : Nat) (st : Status) (b : List Byte) : (s.answer k st b).pending = s.pending := rfl
@[simp] theorem State.answer_clock (k : Nat) (st : Status) (b : List Byte) : (s.answer k st b).clock = s.clock := rfl
@[simp] theorem State.answer_notices (k : Nat) (st : Status) (b : List Byte) : (s.answer k st b).notices = s.notices := rfl
@[simp] theorem State.answer_freeCount (k : Nat) (st : Status) (b : List Byte) : (s.answer k st b).freeCount = s.freeCount := rfl
@[simp] theorem State.answer_straps (k : Nat) (st : Status) (b : List Byte) : (s.answer k st b).straps = s.straps := rfl
@[simp] theorem State.answer_ht (k : Nat) (st : Status) (b : List Byte) : (s.answer k st b).ht = s.ht := rfl
@[simp] theorem State.answer_tb (k : Nat) (st : Status) (b : List Byte) : (s.answer k st b).tb = s.tb := rfl
@[simp] theorem State.answer_ss (k : Nat) (st : Status) (b : List Byte) : (s.answer k st b).ss = s.ss := rfl
@[simp] theorem State.answer_sb (k : Nat) (st : Status) (b : List Byte) : (s.answer k st b).sb = s.sb := rfl
@[simp] theorem State.answer_se (k : Nat) (st : Status) (b : List Byte) : (s.answer k st b).se = s.se := rfl
@[simp] theorem State.answer_mc (k : Nat) (st : Status) (b : List Byte) : (s.answer k st b).mc = s.mc := rfl
@[simp] theorem State.answer_pu (k : Nat) (st : Status) (b : List Byte) : (s.answer k st b).pu = s.pu := rfl
@[simp] theorem State.answer_tq (k : Nat) (st : Status) (b : List Byte) : (s.answer k st b).tq = s.tq := rfl
@[simp] theorem State.answer_pt (k : Nat) (st : Status) (b : List Byte) : (s.answer k st b).pt = s.pt := rfl
@[simp] theorem State.answer_pc (k : Nat) (st : Status) (b : List Byte) : (s.answer k st b).pc = s.pc := rfl
@[simp] theorem State.answer_ld (k : Nat) (st : Status) (b : List Byte) : (s.answer k st b).ld = s.ld := rfl

@[simp] theorem State.setSeq_pending (t : Nat) (q : Sequencer) : (s.setSeq t q).pending = s.pending := rfl
@[simp] theorem State.setSeq_clock (t : Nat) (q : Sequencer) : (s.setSeq t q).clock = s.clock := rfl
@[simp] theorem State.setSeq_notices (t : Nat) (q : Sequencer) : (s.setSeq t q).notices = s.notices := rfl
@[simp] theorem State.setSeq_freeCount (t : Nat) (q : Sequencer) : (s.setSeq t q).freeCount = s.freeCount := rfl
@[simp] theorem State.setSeq_straps (t : Nat) (q : Sequencer) : (s.setSeq t q).straps = s.straps := rfl
@[simp] theorem State.setSeq_ht (t : Nat) (q : Sequencer) : (s.setSeq t q).ht = s.ht := rfl
@[simp] theorem State.setSeq_tb (t : Nat) (q : Sequencer) : (s.setSeq t q).tb = s.tb := rfl
@[simp] theorem State.setSeq_ss (t : Nat) (q : Sequencer) : (s.setSeq t q).ss = s.ss := rfl
@[simp] theorem State.setSeq_sb (t : Nat) (q : Sequencer) : (s.setSeq t q).sb = s.sb := rfl
@[simp] theorem State.setSeq_se (t : Nat) (q : Sequencer) : (s.setSeq t q).se = s.se := rfl
@[simp] theorem State.setSeq_mc (t : Nat) (q : Sequencer) : (s.setSeq t q).mc = s.mc := rfl
@[simp] theorem State.setSeq_pu (t : Nat) (q : Sequencer) : (s.setSeq t q).pu = s.pu := rfl
@[simp] theorem State.setSeq_pt (t : Nat) (q : Sequencer) : (s.setSeq t q).pt = s.pt := rfl
@[simp] theorem State.setSeq_pc (t : Nat) (q : Sequencer) : (s.setSeq t q).pc = s.pc := rfl
@[simp] theorem State.setSeq_ld (t : Nat) (q : Sequencer) : (s.setSeq t q).ld = s.ld := rfl
@[simp] theorem State.setSeq_lc (t : Nat) (q : Sequencer) : (s.setSeq t q).lc = s.lc := rfl

@[simp] theorem State.setProt_pending (t : Nat) (p : Protection) : (s.setProt t p).pending = s.pending := rfl
@[simp] theorem State.setProt_clock (t : Nat) (p : Protection) : (s.setProt t p).clock = s.clock := rfl
@[simp] theorem State.setProt_notices (t : Nat) (p : Protection) : (s.setProt t p).notices = s.notices := rfl
@[simp] theorem State.setProt_freeCount (t : Nat) (p : Protection) : (s.setProt t p).freeCount = s.freeCount := rfl
@[simp] theorem State.setProt_straps (t : Nat) (p : Protection) : (s.setProt t p).straps = s.straps := rfl
@[simp] theorem State.setProt_ht (t : Nat) (p : Protection) : (s.setProt t p).ht = s.ht := rfl
@[simp] theorem State.setProt_tb (t : Nat) (p : Protection) : (s.setProt t p).tb = s.tb := rfl
@[simp] theorem State.setProt_ss (t : Nat) (p : Protection) : (s.setProt t p).ss = s.ss := rfl
@[simp] theorem State.setProt_sb (t : Nat) (p : Protection) : (s.setProt t p).sb = s.sb := rfl
@[simp] theorem State.setProt_se (t : Nat) (p : Protection) : (s.setProt t p).se = s.se := rfl
@[simp] theorem State.setProt_mc (t : Nat) (p : Protection) : (s.setProt t p).mc = s.mc := rfl
@[simp] theorem State.setProt_pu (t : Nat) (p : Protection) : (s.setProt t p).pu = s.pu := rfl
@[simp] theorem State.setProt_tq (t : Nat) (p : Protection) : (s.setProt t p).tq = s.tq := rfl
@[simp] theorem State.setProt_pc (t : Nat) (p : Protection) : (s.setProt t p).pc = s.pc := rfl
@[simp] theorem State.setProt_ld (t : Nat) (p : Protection) : (s.setProt t p).ld = s.ld := rfl
@[simp] theorem State.setProt_lc (t : Nat) (p : Protection) : (s.setProt t p).lc = s.lc := rfl

@[simp] theorem State.setArcRecord_pending (a : Nat) (r : ArcRecord) : (s.setArcRecord a r).pending = s.pending := rfl
@[simp] theorem State.setArcRecord_clock (a : Nat) (r : ArcRecord) : (s.setArcRecord a r).clock = s.clock := rfl
@[simp] theorem State.setArcRecord_notices (a : Nat) (r : ArcRecord) : (s.setArcRecord a r).notices = s.notices := rfl
@[simp] theorem State.setArcRecord_freeCount (a : Nat) (r : ArcRecord) : (s.setArcRecord a r).freeCount = s.freeCount := rfl
@[simp] theorem State.setArcRecord_straps (a : Nat) (r : ArcRecord) : (s.setArcRecord a r).straps = s.straps := rfl
@[simp] theorem State.setArcRecord_ht (a : Nat) (r : ArcRecord) : (s.setArcRecord a r).ht = s.ht := rfl
@[simp] theorem State.setArcRecord_tb (a : Nat) (r : ArcRecord) : (s.setArcRecord a r).tb = s.tb := rfl
@[simp] theorem State.setArcRecord_ss (a : Nat) (r : ArcRecord) : (s.setArcRecord a r).ss = s.ss := rfl
@[simp] theorem State.setArcRecord_sb (a : Nat) (r : ArcRecord) : (s.setArcRecord a r).sb = s.sb := rfl
@[simp] theorem State.setArcRecord_se (a : Nat) (r : ArcRecord) : (s.setArcRecord a r).se = s.se := rfl
@[simp] theorem State.setArcRecord_mc (a : Nat) (r : ArcRecord) : (s.setArcRecord a r).mc = s.mc := rfl
@[simp] theorem State.setArcRecord_pu (a : Nat) (r : ArcRecord) : (s.setArcRecord a r).pu = s.pu := rfl
@[simp] theorem State.setArcRecord_tq (a : Nat) (r : ArcRecord) : (s.setArcRecord a r).tq = s.tq := rfl
@[simp] theorem State.setArcRecord_pc (a : Nat) (r : ArcRecord) : (s.setArcRecord a r).pc = s.pc := rfl
@[simp] theorem State.setArcRecord_ld (a : Nat) (r : ArcRecord) : (s.setArcRecord a r).ld = s.ld := rfl
@[simp] theorem State.setArcRecord_lc (a : Nat) (r : ArcRecord) : (s.setArcRecord a r).lc = s.lc := rfl

@[simp] theorem State.setPermit_pending (r : Nat) (p : PermitRow) : (s.setPermit r p).pending = s.pending := rfl
@[simp] theorem State.setPermit_clock (r : Nat) (p : PermitRow) : (s.setPermit r p).clock = s.clock := rfl
@[simp] theorem State.setPermit_notices (r : Nat) (p : PermitRow) : (s.setPermit r p).notices = s.notices := rfl
@[simp] theorem State.setPermit_freeCount (r : Nat) (p : PermitRow) : (s.setPermit r p).freeCount = s.freeCount := rfl
@[simp] theorem State.setPermit_straps (r : Nat) (p : PermitRow) : (s.setPermit r p).straps = s.straps := rfl
@[simp] theorem State.setPermit_ht (r : Nat) (p : PermitRow) : (s.setPermit r p).ht = s.ht := rfl
@[simp] theorem State.setPermit_tb (r : Nat) (p : PermitRow) : (s.setPermit r p).tb = s.tb := rfl
@[simp] theorem State.setPermit_ss (r : Nat) (p : PermitRow) : (s.setPermit r p).ss = s.ss := rfl
@[simp] theorem State.setPermit_sb (r : Nat) (p : PermitRow) : (s.setPermit r p).sb = s.sb := rfl
@[simp] theorem State.setPermit_se (r : Nat) (p : PermitRow) : (s.setPermit r p).se = s.se := rfl
@[simp] theorem State.setPermit_mc (r : Nat) (p : PermitRow) : (s.setPermit r p).mc = s.mc := rfl
@[simp] theorem State.setPermit_tq (r : Nat) (p : PermitRow) : (s.setPermit r p).tq = s.tq := rfl
@[simp] theorem State.setPermit_pt (r : Nat) (p : PermitRow) : (s.setPermit r p).pt = s.pt := rfl
@[simp] theorem State.setPermit_pc (r : Nat) (p : PermitRow) : (s.setPermit r p).pc = s.pc := rfl
@[simp] theorem State.setPermit_ld (r : Nat) (p : PermitRow) : (s.setPermit r p).ld = s.ld := rfl
@[simp] theorem State.setPermit_lc (r : Nat) (p : PermitRow) : (s.setPermit r p).lc = s.lc := rfl

@[simp] theorem State.setInput_pending (i : Nat) (x : SafetyInput) : (s.setInput i x).pending = s.pending := rfl
@[simp] theorem State.setInput_clock (i : Nat) (x : SafetyInput) : (s.setInput i x).clock = s.clock := rfl
@[simp] theorem State.setInput_notices (i : Nat) (x : SafetyInput) : (s.setInput i x).notices = s.notices := rfl
@[simp] theorem State.setInput_freeCount (i : Nat) (x : SafetyInput) : (s.setInput i x).freeCount = s.freeCount := rfl
@[simp] theorem State.setInput_straps (i : Nat) (x : SafetyInput) : (s.setInput i x).straps = s.straps := rfl
@[simp] theorem State.setInput_ht (i : Nat) (x : SafetyInput) : (s.setInput i x).ht = s.ht := rfl
@[simp] theorem State.setInput_tb (i : Nat) (x : SafetyInput) : (s.setInput i x).tb = s.tb := rfl
@[simp] theorem State.setInput_ss (i : Nat) (x : SafetyInput) : (s.setInput i x).ss = s.ss := rfl
@[simp] theorem State.setInput_sb (i : Nat) (x : SafetyInput) : (s.setInput i x).sb = s.sb := rfl
@[simp] theorem State.setInput_se (i : Nat) (x : SafetyInput) : (s.setInput i x).se = s.se := rfl
@[simp] theorem State.setInput_mc (i : Nat) (x : SafetyInput) : (s.setInput i x).mc = s.mc := rfl
@[simp] theorem State.setInput_tq (i : Nat) (x : SafetyInput) : (s.setInput i x).tq = s.tq := rfl
@[simp] theorem State.setInput_pt (i : Nat) (x : SafetyInput) : (s.setInput i x).pt = s.pt := rfl
@[simp] theorem State.setInput_pc (i : Nat) (x : SafetyInput) : (s.setInput i x).pc = s.pc := rfl
@[simp] theorem State.setInput_ld (i : Nat) (x : SafetyInput) : (s.setInput i x).ld = s.ld := rfl
@[simp] theorem State.setInput_lc (i : Nat) (x : SafetyInput) : (s.setInput i x).lc = s.lc := rfl

@[simp] theorem State.setArcHold_pending (a : Nat) (h : Option Nat) : (s.setArcHold a h).pending = s.pending := rfl
@[simp] theorem State.setArcHold_clock (a : Nat) (h : Option Nat) : (s.setArcHold a h).clock = s.clock := rfl
@[simp] theorem State.setArcHold_notices (a : Nat) (h : Option Nat) : (s.setArcHold a h).notices = s.notices := rfl
@[simp] theorem State.setArcHold_freeCount (a : Nat) (h : Option Nat) : (s.setArcHold a h).freeCount = s.freeCount := rfl
@[simp] theorem State.setArcHold_straps (a : Nat) (h : Option Nat) : (s.setArcHold a h).straps = s.straps := rfl
@[simp] theorem State.setArcHold_ht (a : Nat) (h : Option Nat) : (s.setArcHold a h).ht = s.ht := rfl
@[simp] theorem State.setArcHold_tb (a : Nat) (h : Option Nat) : (s.setArcHold a h).tb = s.tb := rfl
@[simp] theorem State.setArcHold_ss (a : Nat) (h : Option Nat) : (s.setArcHold a h).ss = s.ss := rfl
@[simp] theorem State.setArcHold_sb (a : Nat) (h : Option Nat) : (s.setArcHold a h).sb = s.sb := rfl
@[simp] theorem State.setArcHold_se (a : Nat) (h : Option Nat) : (s.setArcHold a h).se = s.se := rfl
@[simp] theorem State.setArcHold_mc (a : Nat) (h : Option Nat) : (s.setArcHold a h).mc = s.mc := rfl
@[simp] theorem State.setArcHold_tq (a : Nat) (h : Option Nat) : (s.setArcHold a h).tq = s.tq := rfl
@[simp] theorem State.setArcHold_pt (a : Nat) (h : Option Nat) : (s.setArcHold a h).pt = s.pt := rfl
@[simp] theorem State.setArcHold_pc (a : Nat) (h : Option Nat) : (s.setArcHold a h).pc = s.pc := rfl
@[simp] theorem State.setArcHold_ld (a : Nat) (h : Option Nat) : (s.setArcHold a h).ld = s.ld := rfl
@[simp] theorem State.setArcHold_lc (a : Nat) (h : Option Nat) : (s.setArcHold a h).lc = s.lc := rfl

@[simp] theorem State.setMover_pending (m : Nat) (x : Mover) : (s.setMover m x).pending = s.pending := rfl
@[simp] theorem State.setMover_clock (m : Nat) (x : Mover) : (s.setMover m x).clock = s.clock := rfl
@[simp] theorem State.setMover_notices (m : Nat) (x : Mover) : (s.setMover m x).notices = s.notices := rfl
@[simp] theorem State.setMover_freeCount (m : Nat) (x : Mover) : (s.setMover m x).freeCount = s.freeCount := rfl
@[simp] theorem State.setMover_straps (m : Nat) (x : Mover) : (s.setMover m x).straps = s.straps := rfl
@[simp] theorem State.setMover_ht (m : Nat) (x : Mover) : (s.setMover m x).ht = s.ht := rfl
@[simp] theorem State.setMover_tb (m : Nat) (x : Mover) : (s.setMover m x).tb = s.tb := rfl
@[simp] theorem State.setMover_ss (m : Nat) (x : Mover) : (s.setMover m x).ss = s.ss := rfl
@[simp] theorem State.setMover_sb (m : Nat) (x : Mover) : (s.setMover m x).sb = s.sb := rfl
@[simp] theorem State.setMover_se (m : Nat) (x : Mover) : (s.setMover m x).se = s.se := rfl
@[simp] theorem State.setMover_pu (m : Nat) (x : Mover) : (s.setMover m x).pu = s.pu := rfl
@[simp] theorem State.setMover_tq (m : Nat) (x : Mover) : (s.setMover m x).tq = s.tq := rfl
@[simp] theorem State.setMover_pt (m : Nat) (x : Mover) : (s.setMover m x).pt = s.pt := rfl
@[simp] theorem State.setMover_pc (m : Nat) (x : Mover) : (s.setMover m x).pc = s.pc := rfl
@[simp] theorem State.setMover_ld (m : Nat) (x : Mover) : (s.setMover m x).ld = s.ld := rfl
@[simp] theorem State.setMover_lc (m : Nat) (x : Mover) : (s.setMover m x).lc = s.lc := rfl

@[simp] theorem State.setClaim_pending (a : Nat) (c : AntennaClaims) : (s.setClaim a c).pending = s.pending := rfl
@[simp] theorem State.setClaim_clock (a : Nat) (c : AntennaClaims) : (s.setClaim a c).clock = s.clock := rfl
@[simp] theorem State.setClaim_notices (a : Nat) (c : AntennaClaims) : (s.setClaim a c).notices = s.notices := rfl
@[simp] theorem State.setClaim_freeCount (a : Nat) (c : AntennaClaims) : (s.setClaim a c).freeCount = s.freeCount := rfl
@[simp] theorem State.setClaim_straps (a : Nat) (c : AntennaClaims) : (s.setClaim a c).straps = s.straps := rfl
@[simp] theorem State.setClaim_ht (a : Nat) (c : AntennaClaims) : (s.setClaim a c).ht = s.ht := rfl
@[simp] theorem State.setClaim_tb (a : Nat) (c : AntennaClaims) : (s.setClaim a c).tb = s.tb := rfl
@[simp] theorem State.setClaim_ss (a : Nat) (c : AntennaClaims) : (s.setClaim a c).ss = s.ss := rfl
@[simp] theorem State.setClaim_sb (a : Nat) (c : AntennaClaims) : (s.setClaim a c).sb = s.sb := rfl
@[simp] theorem State.setClaim_se (a : Nat) (c : AntennaClaims) : (s.setClaim a c).se = s.se := rfl
@[simp] theorem State.setClaim_pu (a : Nat) (c : AntennaClaims) : (s.setClaim a c).pu = s.pu := rfl
@[simp] theorem State.setClaim_tq (a : Nat) (c : AntennaClaims) : (s.setClaim a c).tq = s.tq := rfl
@[simp] theorem State.setClaim_pt (a : Nat) (c : AntennaClaims) : (s.setClaim a c).pt = s.pt := rfl
@[simp] theorem State.setClaim_pc (a : Nat) (c : AntennaClaims) : (s.setClaim a c).pc = s.pc := rfl
@[simp] theorem State.setClaim_ld (a : Nat) (c : AntennaClaims) : (s.setClaim a c).ld = s.ld := rfl
@[simp] theorem State.setClaim_lc (a : Nat) (c : AntennaClaims) : (s.setClaim a c).lc = s.lc := rfl

@[simp] theorem State.setRowFault_pending (r : Nat) (c : List RowCause) : (s.setRowFault r c).pending = s.pending := rfl
@[simp] theorem State.setRowFault_clock (r : Nat) (c : List RowCause) : (s.setRowFault r c).clock = s.clock := rfl
@[simp] theorem State.setRowFault_notices (r : Nat) (c : List RowCause) : (s.setRowFault r c).notices = s.notices := rfl
@[simp] theorem State.setRowFault_freeCount (r : Nat) (c : List RowCause) : (s.setRowFault r c).freeCount = s.freeCount := rfl
@[simp] theorem State.setRowFault_straps (r : Nat) (c : List RowCause) : (s.setRowFault r c).straps = s.straps := rfl
@[simp] theorem State.setRowFault_ht (r : Nat) (c : List RowCause) : (s.setRowFault r c).ht = s.ht := rfl
@[simp] theorem State.setRowFault_tb (r : Nat) (c : List RowCause) : (s.setRowFault r c).tb = s.tb := rfl
@[simp] theorem State.setRowFault_ss (r : Nat) (c : List RowCause) : (s.setRowFault r c).ss = s.ss := rfl
@[simp] theorem State.setRowFault_sb (r : Nat) (c : List RowCause) : (s.setRowFault r c).sb = s.sb := rfl
@[simp] theorem State.setRowFault_se (r : Nat) (c : List RowCause) : (s.setRowFault r c).se = s.se := rfl
@[simp] theorem State.setRowFault_pu (r : Nat) (c : List RowCause) : (s.setRowFault r c).pu = s.pu := rfl
@[simp] theorem State.setRowFault_tq (r : Nat) (c : List RowCause) : (s.setRowFault r c).tq = s.tq := rfl
@[simp] theorem State.setRowFault_pt (r : Nat) (c : List RowCause) : (s.setRowFault r c).pt = s.pt := rfl
@[simp] theorem State.setRowFault_pc (r : Nat) (c : List RowCause) : (s.setRowFault r c).pc = s.pc := rfl
@[simp] theorem State.setRowFault_ld (r : Nat) (c : List RowCause) : (s.setRowFault r c).ld = s.ld := rfl
@[simp] theorem State.setRowFault_lc (r : Nat) (c : List RowCause) : (s.setRowFault r c).lc = s.lc := rfl

@[simp] theorem State.setDuty_pending (t : Nat) (d : Duty) : (s.setDuty t d).pending = s.pending := rfl
@[simp] theorem State.setDuty_clock (t : Nat) (d : Duty) : (s.setDuty t d).clock = s.clock := rfl
@[simp] theorem State.setDuty_notices (t : Nat) (d : Duty) : (s.setDuty t d).notices = s.notices := rfl
@[simp] theorem State.setDuty_freeCount (t : Nat) (d : Duty) : (s.setDuty t d).freeCount = s.freeCount := rfl
@[simp] theorem State.setDuty_straps (t : Nat) (d : Duty) : (s.setDuty t d).straps = s.straps := rfl
@[simp] theorem State.setDuty_ht (t : Nat) (d : Duty) : (s.setDuty t d).ht = s.ht := rfl
@[simp] theorem State.setDuty_tb (t : Nat) (d : Duty) : (s.setDuty t d).tb = s.tb := rfl
@[simp] theorem State.setDuty_ss (t : Nat) (d : Duty) : (s.setDuty t d).ss = s.ss := rfl
@[simp] theorem State.setDuty_sb (t : Nat) (d : Duty) : (s.setDuty t d).sb = s.sb := rfl
@[simp] theorem State.setDuty_mc (t : Nat) (d : Duty) : (s.setDuty t d).mc = s.mc := rfl
@[simp] theorem State.setDuty_pu (t : Nat) (d : Duty) : (s.setDuty t d).pu = s.pu := rfl
@[simp] theorem State.setDuty_tq (t : Nat) (d : Duty) : (s.setDuty t d).tq = s.tq := rfl
@[simp] theorem State.setDuty_pt (t : Nat) (d : Duty) : (s.setDuty t d).pt = s.pt := rfl
@[simp] theorem State.setDuty_pc (t : Nat) (d : Duty) : (s.setDuty t d).pc = s.pc := rfl
@[simp] theorem State.setDuty_ld (t : Nat) (d : Duty) : (s.setDuty t d).ld = s.ld := rfl
@[simp] theorem State.setDuty_lc (t : Nat) (d : Duty) : (s.setDuty t d).lc = s.lc := rfl

@[simp] theorem State.setChange_pending (t : Nat) (c : Option Changeover) : (s.setChange t c).pending = s.pending := rfl
@[simp] theorem State.setChange_clock (t : Nat) (c : Option Changeover) : (s.setChange t c).clock = s.clock := rfl
@[simp] theorem State.setChange_notices (t : Nat) (c : Option Changeover) : (s.setChange t c).notices = s.notices := rfl
@[simp] theorem State.setChange_freeCount (t : Nat) (c : Option Changeover) : (s.setChange t c).freeCount = s.freeCount := rfl
@[simp] theorem State.setChange_straps (t : Nat) (c : Option Changeover) : (s.setChange t c).straps = s.straps := rfl
@[simp] theorem State.setChange_ht (t : Nat) (c : Option Changeover) : (s.setChange t c).ht = s.ht := rfl
@[simp] theorem State.setChange_tb (t : Nat) (c : Option Changeover) : (s.setChange t c).tb = s.tb := rfl
@[simp] theorem State.setChange_ss (t : Nat) (c : Option Changeover) : (s.setChange t c).ss = s.ss := rfl
@[simp] theorem State.setChange_sb (t : Nat) (c : Option Changeover) : (s.setChange t c).sb = s.sb := rfl
@[simp] theorem State.setChange_mc (t : Nat) (c : Option Changeover) : (s.setChange t c).mc = s.mc := rfl
@[simp] theorem State.setChange_pu (t : Nat) (c : Option Changeover) : (s.setChange t c).pu = s.pu := rfl
@[simp] theorem State.setChange_tq (t : Nat) (c : Option Changeover) : (s.setChange t c).tq = s.tq := rfl
@[simp] theorem State.setChange_pt (t : Nat) (c : Option Changeover) : (s.setChange t c).pt = s.pt := rfl
@[simp] theorem State.setChange_pc (t : Nat) (c : Option Changeover) : (s.setChange t c).pc = s.pc := rfl
@[simp] theorem State.setChange_ld (t : Nat) (c : Option Changeover) : (s.setChange t c).ld = s.ld := rfl
@[simp] theorem State.setChange_lc (t : Nat) (c : Option Changeover) : (s.setChange t c).lc = s.lc := rfl

@[simp] theorem State.setFaultSet_pending (a : Nat) (f : FaultSet) : (s.setFaultSet a f).pending = s.pending := rfl
@[simp] theorem State.setFaultSet_clock (a : Nat) (f : FaultSet) : (s.setFaultSet a f).clock = s.clock := rfl
@[simp] theorem State.setFaultSet_notices (a : Nat) (f : FaultSet) : (s.setFaultSet a f).notices = s.notices := rfl
@[simp] theorem State.setFaultSet_freeCount (a : Nat) (f : FaultSet) : (s.setFaultSet a f).freeCount = s.freeCount := rfl
@[simp] theorem State.setFaultSet_straps (a : Nat) (f : FaultSet) : (s.setFaultSet a f).straps = s.straps := rfl
@[simp] theorem State.setFaultSet_ht (a : Nat) (f : FaultSet) : (s.setFaultSet a f).ht = s.ht := rfl
@[simp] theorem State.setFaultSet_tb (a : Nat) (f : FaultSet) : (s.setFaultSet a f).tb = s.tb := rfl
@[simp] theorem State.setFaultSet_ss (a : Nat) (f : FaultSet) : (s.setFaultSet a f).ss = s.ss := rfl
@[simp] theorem State.setFaultSet_sb (a : Nat) (f : FaultSet) : (s.setFaultSet a f).sb = s.sb := rfl
@[simp] theorem State.setFaultSet_se (a : Nat) (f : FaultSet) : (s.setFaultSet a f).se = s.se := rfl
@[simp] theorem State.setFaultSet_mc (a : Nat) (f : FaultSet) : (s.setFaultSet a f).mc = s.mc := rfl
@[simp] theorem State.setFaultSet_pu (a : Nat) (f : FaultSet) : (s.setFaultSet a f).pu = s.pu := rfl
@[simp] theorem State.setFaultSet_tq (a : Nat) (f : FaultSet) : (s.setFaultSet a f).tq = s.tq := rfl
@[simp] theorem State.setFaultSet_pt (a : Nat) (f : FaultSet) : (s.setFaultSet a f).pt = s.pt := rfl
@[simp] theorem State.setFaultSet_pc (a : Nat) (f : FaultSet) : (s.setFaultSet a f).pc = s.pc := rfl
@[simp] theorem State.setFaultSet_lc (a : Nat) (f : FaultSet) : (s.setFaultSet a f).lc = s.lc := rfl

@[simp] theorem State.setLastChecked_pending (a : Nat) (d : Option Nat) : (s.setLastChecked a d).pending = s.pending := rfl
@[simp] theorem State.setLastChecked_clock (a : Nat) (d : Option Nat) : (s.setLastChecked a d).clock = s.clock := rfl
@[simp] theorem State.setLastChecked_notices (a : Nat) (d : Option Nat) : (s.setLastChecked a d).notices = s.notices := rfl
@[simp] theorem State.setLastChecked_freeCount (a : Nat) (d : Option Nat) : (s.setLastChecked a d).freeCount = s.freeCount := rfl
@[simp] theorem State.setLastChecked_straps (a : Nat) (d : Option Nat) : (s.setLastChecked a d).straps = s.straps := rfl
@[simp] theorem State.setLastChecked_ht (a : Nat) (d : Option Nat) : (s.setLastChecked a d).ht = s.ht := rfl
@[simp] theorem State.setLastChecked_tb (a : Nat) (d : Option Nat) : (s.setLastChecked a d).tb = s.tb := rfl
@[simp] theorem State.setLastChecked_ss (a : Nat) (d : Option Nat) : (s.setLastChecked a d).ss = s.ss := rfl
@[simp] theorem State.setLastChecked_sb (a : Nat) (d : Option Nat) : (s.setLastChecked a d).sb = s.sb := rfl
@[simp] theorem State.setLastChecked_se (a : Nat) (d : Option Nat) : (s.setLastChecked a d).se = s.se := rfl
@[simp] theorem State.setLastChecked_mc (a : Nat) (d : Option Nat) : (s.setLastChecked a d).mc = s.mc := rfl
@[simp] theorem State.setLastChecked_pu (a : Nat) (d : Option Nat) : (s.setLastChecked a d).pu = s.pu := rfl
@[simp] theorem State.setLastChecked_tq (a : Nat) (d : Option Nat) : (s.setLastChecked a d).tq = s.tq := rfl
@[simp] theorem State.setLastChecked_pt (a : Nat) (d : Option Nat) : (s.setLastChecked a d).pt = s.pt := rfl
@[simp] theorem State.setLastChecked_pc (a : Nat) (d : Option Nat) : (s.setLastChecked a d).pc = s.pc := rfl
@[simp] theorem State.setLastChecked_lc (a : Nat) (d : Option Nat) : (s.setLastChecked a d).lc = s.lc := rfl

@[simp] theorem State.setPresetSet_pending (t n : Nat) (x : PresetSet) : (s.setPresetSet t n x).pending = s.pending := rfl
@[simp] theorem State.setPresetSet_clock (t n : Nat) (x : PresetSet) : (s.setPresetSet t n x).clock = s.clock := rfl
@[simp] theorem State.setPresetSet_notices (t n : Nat) (x : PresetSet) : (s.setPresetSet t n x).notices = s.notices := rfl
@[simp] theorem State.setPresetSet_freeCount (t n : Nat) (x : PresetSet) : (s.setPresetSet t n x).freeCount = s.freeCount := rfl
@[simp] theorem State.setPresetSet_straps (t n : Nat) (x : PresetSet) : (s.setPresetSet t n x).straps = s.straps := rfl
@[simp] theorem State.setPresetSet_ht (t n : Nat) (x : PresetSet) : (s.setPresetSet t n x).ht = s.ht := rfl
@[simp] theorem State.setPresetSet_tb (t n : Nat) (x : PresetSet) : (s.setPresetSet t n x).tb = s.tb := rfl
@[simp] theorem State.setPresetSet_ss (t n : Nat) (x : PresetSet) : (s.setPresetSet t n x).ss = s.ss := rfl
@[simp] theorem State.setPresetSet_sb (t n : Nat) (x : PresetSet) : (s.setPresetSet t n x).sb = s.sb := rfl
@[simp] theorem State.setPresetSet_se (t n : Nat) (x : PresetSet) : (s.setPresetSet t n x).se = s.se := rfl
@[simp] theorem State.setPresetSet_mc (t n : Nat) (x : PresetSet) : (s.setPresetSet t n x).mc = s.mc := rfl
@[simp] theorem State.setPresetSet_pu (t n : Nat) (x : PresetSet) : (s.setPresetSet t n x).pu = s.pu := rfl
@[simp] theorem State.setPresetSet_tq (t n : Nat) (x : PresetSet) : (s.setPresetSet t n x).tq = s.tq := rfl
@[simp] theorem State.setPresetSet_pt (t n : Nat) (x : PresetSet) : (s.setPresetSet t n x).pt = s.pt := rfl
@[simp] theorem State.setPresetSet_ld (t n : Nat) (x : PresetSet) : (s.setPresetSet t n x).ld = s.ld := rfl
@[simp] theorem State.setPresetSet_lc (t n : Nat) (x : PresetSet) : (s.setPresetSet t n x).lc = s.lc := rfl

@[simp] theorem State.setStore_pending (x : Store) : (s.setStore x).pending = s.pending := rfl
@[simp] theorem State.setStore_clock (x : Store) : (s.setStore x).clock = s.clock := rfl
@[simp] theorem State.setStore_notices (x : Store) : (s.setStore x).notices = s.notices := rfl
@[simp] theorem State.setStore_freeCount (x : Store) : (s.setStore x).freeCount = s.freeCount := rfl
@[simp] theorem State.setStore_straps (x : Store) : (s.setStore x).straps = s.straps := rfl
@[simp] theorem State.setStore_ht (x : Store) : (s.setStore x).ht = s.ht := rfl
@[simp] theorem State.setStore_tb (x : Store) : (s.setStore x).tb = s.tb := rfl
@[simp] theorem State.setStore_sb (x : Store) : (s.setStore x).sb = s.sb := rfl
@[simp] theorem State.setStore_se (x : Store) : (s.setStore x).se = s.se := rfl
@[simp] theorem State.setStore_mc (x : Store) : (s.setStore x).mc = s.mc := rfl
@[simp] theorem State.setStore_pu (x : Store) : (s.setStore x).pu = s.pu := rfl
@[simp] theorem State.setStore_tq (x : Store) : (s.setStore x).tq = s.tq := rfl
@[simp] theorem State.setStore_pt (x : Store) : (s.setStore x).pt = s.pt := rfl
@[simp] theorem State.setStore_pc (x : Store) : (s.setStore x).pc = s.pc := rfl
@[simp] theorem State.setStore_ld (x : Store) : (s.setStore x).ld = s.ld := rfl
@[simp] theorem State.setStore_lc (x : Store) : (s.setStore x).lc = s.lc := rfl

@[simp] theorem State.setDiag_pending (x : Diagnostics) : (s.setDiag x).pending = s.pending := rfl
@[simp] theorem State.setDiag_clock (x : Diagnostics) : (s.setDiag x).clock = s.clock := rfl
@[simp] theorem State.setDiag_notices (x : Diagnostics) : (s.setDiag x).notices = s.notices := rfl
@[simp] theorem State.setDiag_freeCount (x : Diagnostics) : (s.setDiag x).freeCount = s.freeCount := rfl
@[simp] theorem State.setDiag_straps (x : Diagnostics) : (s.setDiag x).straps = s.straps := rfl
@[simp] theorem State.setDiag_ht (x : Diagnostics) : (s.setDiag x).ht = s.ht := rfl
@[simp] theorem State.setDiag_tb (x : Diagnostics) : (s.setDiag x).tb = s.tb := rfl
@[simp] theorem State.setDiag_ss (x : Diagnostics) : (s.setDiag x).ss = s.ss := rfl
@[simp] theorem State.setDiag_sb (x : Diagnostics) : (s.setDiag x).sb = s.sb := rfl
@[simp] theorem State.setDiag_se (x : Diagnostics) : (s.setDiag x).se = s.se := rfl
@[simp] theorem State.setDiag_mc (x : Diagnostics) : (s.setDiag x).mc = s.mc := rfl
@[simp] theorem State.setDiag_pu (x : Diagnostics) : (s.setDiag x).pu = s.pu := rfl
@[simp] theorem State.setDiag_tq (x : Diagnostics) : (s.setDiag x).tq = s.tq := rfl
@[simp] theorem State.setDiag_pt (x : Diagnostics) : (s.setDiag x).pt = s.pt := rfl
@[simp] theorem State.setDiag_pc (x : Diagnostics) : (s.setDiag x).pc = s.pc := rfl
@[simp] theorem State.setDiag_lc (x : Diagnostics) : (s.setDiag x).lc = s.lc := rfl

@[simp] theorem State.setTime_pending (x : TimeBase) : (s.setTime x).pending = s.pending := rfl
@[simp] theorem State.setTime_clock (x : TimeBase) : (s.setTime x).clock = s.clock := rfl
@[simp] theorem State.setTime_notices (x : TimeBase) : (s.setTime x).notices = s.notices := rfl
@[simp] theorem State.setTime_freeCount (x : TimeBase) : (s.setTime x).freeCount = s.freeCount := rfl
@[simp] theorem State.setTime_straps (x : TimeBase) : (s.setTime x).straps = s.straps := rfl
@[simp] theorem State.setTime_ht (x : TimeBase) : (s.setTime x).ht = s.ht := rfl
@[simp] theorem State.setTime_ss (x : TimeBase) : (s.setTime x).ss = s.ss := rfl
@[simp] theorem State.setTime_sb (x : TimeBase) : (s.setTime x).sb = s.sb := rfl
@[simp] theorem State.setTime_se (x : TimeBase) : (s.setTime x).se = s.se := rfl
@[simp] theorem State.setTime_mc (x : TimeBase) : (s.setTime x).mc = s.mc := rfl
@[simp] theorem State.setTime_pu (x : TimeBase) : (s.setTime x).pu = s.pu := rfl
@[simp] theorem State.setTime_tq (x : TimeBase) : (s.setTime x).tq = s.tq := rfl
@[simp] theorem State.setTime_pt (x : TimeBase) : (s.setTime x).pt = s.pt := rfl
@[simp] theorem State.setTime_pc (x : TimeBase) : (s.setTime x).pc = s.pc := rfl
@[simp] theorem State.setTime_ld (x : TimeBase) : (s.setTime x).ld = s.ld := rfl
@[simp] theorem State.setTime_lc (x : TimeBase) : (s.setTime x).lc = s.lc := rfl

@[simp] theorem State.alert_pending (f : Alert) : (s.alert f).pending = s.pending := rfl
@[simp] theorem State.alert_clock (f : Alert) : (s.alert f).clock = s.clock := rfl
@[simp] theorem State.alert_notices (f : Alert) : (s.alert f).notices = s.notices := rfl
@[simp] theorem State.alert_freeCount (f : Alert) : (s.alert f).freeCount = s.freeCount := rfl
@[simp] theorem State.alert_straps (f : Alert) : (s.alert f).straps = s.straps := rfl
@[simp] theorem State.alert_ht (f : Alert) : (s.alert f).ht = s.ht := rfl
@[simp] theorem State.alert_tb (f : Alert) : (s.alert f).tb = s.tb := rfl
@[simp] theorem State.alert_ss (f : Alert) : (s.alert f).ss = s.ss := rfl
@[simp] theorem State.alert_sb (f : Alert) : (s.alert f).sb = s.sb := rfl
@[simp] theorem State.alert_se (f : Alert) : (s.alert f).se = s.se := rfl
@[simp] theorem State.alert_mc (f : Alert) : (s.alert f).mc = s.mc := rfl
@[simp] theorem State.alert_pu (f : Alert) : (s.alert f).pu = s.pu := rfl
@[simp] theorem State.alert_tq (f : Alert) : (s.alert f).tq = s.tq := rfl
@[simp] theorem State.alert_pt (f : Alert) : (s.alert f).pt = s.pt := rfl
@[simp] theorem State.alert_pc (f : Alert) : (s.alert f).pc = s.pc := rfl
@[simp] theorem State.alert_ld (f : Alert) : (s.alert f).ld = s.ld := rfl

@[simp] theorem State.setVerifier_pending (v : Option Verifier) : (s.setVerifier v).pending = s.pending := rfl
@[simp] theorem State.setVerifier_clock (v : Option Verifier) : (s.setVerifier v).clock = s.clock := rfl
@[simp] theorem State.setVerifier_notices (v : Option Verifier) : (s.setVerifier v).notices = s.notices := rfl
@[simp] theorem State.setVerifier_freeCount (v : Option Verifier) : (s.setVerifier v).freeCount = s.freeCount := rfl
@[simp] theorem State.setVerifier_straps (v : Option Verifier) : (s.setVerifier v).straps = s.straps := rfl
@[simp] theorem State.setVerifier_ht (v : Option Verifier) : (s.setVerifier v).ht = s.ht := rfl
@[simp] theorem State.setVerifier_tb (v : Option Verifier) : (s.setVerifier v).tb = s.tb := rfl
@[simp] theorem State.setVerifier_ss (v : Option Verifier) : (s.setVerifier v).ss = s.ss := rfl
@[simp] theorem State.setVerifier_se (v : Option Verifier) : (s.setVerifier v).se = s.se := rfl
@[simp] theorem State.setVerifier_mc (v : Option Verifier) : (s.setVerifier v).mc = s.mc := rfl
@[simp] theorem State.setVerifier_pu (v : Option Verifier) : (s.setVerifier v).pu = s.pu := rfl
@[simp] theorem State.setVerifier_tq (v : Option Verifier) : (s.setVerifier v).tq = s.tq := rfl
@[simp] theorem State.setVerifier_pt (v : Option Verifier) : (s.setVerifier v).pt = s.pt := rfl
@[simp] theorem State.setVerifier_pc (v : Option Verifier) : (s.setVerifier v).pc = s.pc := rfl
@[simp] theorem State.setVerifier_ld (v : Option Verifier) : (s.setVerifier v).ld = s.ld := rfl
@[simp] theorem State.setVerifier_lc (v : Option Verifier) : (s.setVerifier v).lc = s.lc := rfl

@[simp] theorem State.hold_pending (k : Nat) : (s.hold k).pending = s.pending := rfl
@[simp] theorem State.hold_clock (k : Nat) : (s.hold k).clock = s.clock := rfl
@[simp] theorem State.hold_notices (k : Nat) : (s.hold k).notices = s.notices := rfl
@[simp] theorem State.hold_freeCount (k : Nat) : (s.hold k).freeCount = s.freeCount := rfl
@[simp] theorem State.hold_straps (k : Nat) : (s.hold k).straps = s.straps := rfl
@[simp] theorem State.hold_ht (k : Nat) : (s.hold k).ht = s.ht := rfl
@[simp] theorem State.hold_tb (k : Nat) : (s.hold k).tb = s.tb := rfl
@[simp] theorem State.hold_ss (k : Nat) : (s.hold k).ss = s.ss := rfl
@[simp] theorem State.hold_sb (k : Nat) : (s.hold k).sb = s.sb := rfl
@[simp] theorem State.hold_se (k : Nat) : (s.hold k).se = s.se := rfl
@[simp] theorem State.hold_mc (k : Nat) : (s.hold k).mc = s.mc := rfl
@[simp] theorem State.hold_pu (k : Nat) : (s.hold k).pu = s.pu := rfl
@[simp] theorem State.hold_tq (k : Nat) : (s.hold k).tq = s.tq := rfl
@[simp] theorem State.hold_pt (k : Nat) : (s.hold k).pt = s.pt := rfl
@[simp] theorem State.hold_pc (k : Nat) : (s.hold k).pc = s.pc := rfl
@[simp] theorem State.hold_ld (k : Nat) : (s.hold k).ld = s.ld := rfl

@[simp] theorem State.setBook_pending (b : Nat) (x : Book) : (s.setBook b x).pending = s.pending := by unfold State.setBook; split <;> rfl
@[simp] theorem State.setBook_clock (b : Nat) (x : Book) : (s.setBook b x).clock = s.clock := by unfold State.setBook; split <;> rfl
@[simp] theorem State.setBook_notices (b : Nat) (x : Book) : (s.setBook b x).notices = s.notices := by unfold State.setBook; split <;> rfl
@[simp] theorem State.setBook_freeCount (b : Nat) (x : Book) : (s.setBook b x).freeCount = s.freeCount := by unfold State.setBook; split <;> rfl
@[simp] theorem State.setBook_straps (b : Nat) (x : Book) : (s.setBook b x).straps = s.straps := by unfold State.setBook; split <;> rfl
@[simp] theorem State.setBook_ht (b : Nat) (x : Book) : (s.setBook b x).ht = s.ht := by unfold State.setBook; split <;> rfl
@[simp] theorem State.setBook_tb (b : Nat) (x : Book) : (s.setBook b x).tb = s.tb := by unfold State.setBook; split <;> rfl
@[simp] theorem State.setBook_ss (b : Nat) (x : Book) : (s.setBook b x).ss = s.ss := by unfold State.setBook; split <;> rfl
@[simp] theorem State.setBook_se (b : Nat) (x : Book) : (s.setBook b x).se = s.se := by unfold State.setBook; split <;> rfl
@[simp] theorem State.setBook_mc (b : Nat) (x : Book) : (s.setBook b x).mc = s.mc := by unfold State.setBook; split <;> rfl
@[simp] theorem State.setBook_pu (b : Nat) (x : Book) : (s.setBook b x).pu = s.pu := by unfold State.setBook; split <;> rfl
@[simp] theorem State.setBook_tq (b : Nat) (x : Book) : (s.setBook b x).tq = s.tq := by unfold State.setBook; split <;> rfl
@[simp] theorem State.setBook_pt (b : Nat) (x : Book) : (s.setBook b x).pt = s.pt := by unfold State.setBook; split <;> rfl
@[simp] theorem State.setBook_pc (b : Nat) (x : Book) : (s.setBook b x).pc = s.pc := by unfold State.setBook; split <;> rfl
@[simp] theorem State.setBook_ld (b : Nat) (x : Book) : (s.setBook b x).ld = s.ld := by unfold State.setBook; split <;> rfl
@[simp] theorem State.setBook_lc (b : Nat) (x : Book) : (s.setBook b x).lc = s.lc := by unfold State.setBook; split <;> rfl

@[simp] theorem State.received_pending : s.received.pending = s.pending := rfl
@[simp] theorem State.received_clock : s.received.clock = s.clock := rfl
@[simp] theorem State.received_notices : s.received.notices = s.notices := rfl
@[simp] theorem State.received_freeCount : s.received.freeCount = s.freeCount := rfl
@[simp] theorem State.received_straps : s.received.straps = s.straps := rfl
@[simp] theorem State.received_ht : s.received.ht = s.ht := rfl
@[simp] theorem State.received_tb : s.received.tb = s.tb := rfl
@[simp] theorem State.received_ss : s.received.ss = s.ss := rfl
@[simp] theorem State.received_sb : s.received.sb = s.sb := rfl
@[simp] theorem State.received_se : s.received.se = s.se := rfl
@[simp] theorem State.received_mc : s.received.mc = s.mc := rfl
@[simp] theorem State.received_pu : s.received.pu = s.pu := rfl
@[simp] theorem State.received_tq : s.received.tq = s.tq := rfl
@[simp] theorem State.received_pt : s.received.pt = s.pt := rfl
@[simp] theorem State.received_pc : s.received.pc = s.pc := rfl
@[simp] theorem State.received_ld : s.received.ld = s.ld := rfl

@[simp] theorem State.tick_pending : s.tick.pending = s.pending := rfl
@[simp] theorem State.tick_notices : s.tick.notices = s.notices := rfl
@[simp] theorem State.tick_freeCount : s.tick.freeCount = s.freeCount := rfl
@[simp] theorem State.tick_straps : s.tick.straps = s.straps := rfl
@[simp] theorem State.tick_ht : s.tick.ht = s.ht := rfl
@[simp] theorem State.tick_tb : s.tick.tb = s.tb := rfl
@[simp] theorem State.tick_ss : s.tick.ss = s.ss := rfl
@[simp] theorem State.tick_sb : s.tick.sb = s.sb := rfl
@[simp] theorem State.tick_se : s.tick.se = s.se := rfl
@[simp] theorem State.tick_mc : s.tick.mc = s.mc := rfl
@[simp] theorem State.tick_pu : s.tick.pu = s.pu := rfl
@[simp] theorem State.tick_tq : s.tick.tq = s.tq := rfl
@[simp] theorem State.tick_pt : s.tick.pt = s.pt := rfl
@[simp] theorem State.tick_pc : s.tick.pc = s.pc := rfl
@[simp] theorem State.tick_ld : s.tick.ld = s.ld := rfl
@[simp] theorem State.tick_lc : s.tick.lc = s.lc := rfl

/-! ## Fields that an update writes -/

@[simp] theorem State.post_notices (n : Notice) : (s.post n).notices = s.notices ++ [n] := rfl
@[simp] theorem State.postOnce_notices (n : Notice) : (s.postOnce n).notices = addOnce s.notices n := rfl
@[simp] theorem State.reach_clock (m : Nat) : (s.reach m).clock = max s.clock m := rfl
@[simp] theorem State.tick_clock : s.tick.clock = s.clock + 1 := rfl
@[simp] theorem State.setStore_ss (x : Store) : (s.setStore x).ss = x := rfl
@[simp] theorem State.setDiag_ld (x : Diagnostics) : (s.setDiag x).ld = x := rfl
@[simp] theorem State.setTime_tb (x : TimeBase) : (s.setTime x).tb = x := rfl
@[simp] theorem State.setSeq_tq (t : Nat) (q : Sequencer) : (s.setSeq t q).tq = setNth s.tq t q := rfl
@[simp] theorem State.setInput_inputs (i : Nat) (x : SafetyInput) : (s.setInput i x).pu.inputs = setNth s.pu.inputs i x := rfl
@[simp] theorem State.setMover_movers (m : Nat) (x : Mover) : (s.setMover m x).mc.movers = setNth s.mc.movers m x := rfl
@[simp] theorem State.answer_reply (k : Nat) (st : Status) (b : List Byte) :
    (s.answer k st b).lc.reply = some { kind := k, status := st, body := if st = .ok then b else [] } := rfl
@[simp] theorem State.answer_held (k : Nat) (st : Status) (b : List Byte) : (s.answer k st b).lc.held = none := rfl
@[simp] theorem State.answer_alerts (k : Nat) (st : Status) (b : List Byte) : (s.answer k st b).lc.alerts = s.lc.alerts := rfl
@[simp] theorem State.answer_mask (k : Nat) (st : Status) (b : List Byte) : (s.answer k st b).lc.mask = s.lc.mask := rfl
@[simp] theorem State.answer_counters (k : Nat) (st : Status) (b : List Byte) :
    (s.answer k st b).lc.counters = s.lc.counters := rfl
@[simp] theorem State.answer_waiting (k : Nat) (st : Status) (b : List Byte) : (s.answer k st b).lc.waiting = s.lc.waiting := rfl
@[simp] theorem State.received_receiver : s.received.lc.receiver = .hunt := rfl
@[simp] theorem State.received_alerts : s.received.lc.alerts = s.lc.alerts := rfl
@[simp] theorem State.alert_alerts (f : Alert) : (s.alert f).lc.alerts = s.lc.alerts ||| BitVec.ofNat 16 (2 ^ f.bit) := rfl
@[simp] theorem State.alert_reply (f : Alert) : (s.alert f).lc.reply = s.lc.reply := rfl
@[simp] theorem State.alert_held (f : Alert) : (s.alert f).lc.held = s.lc.held := rfl

/-! ## Reading back from a numbered table -/

section Tables

variable {α : Type}

@[simp] theorem setNth_length (xs : List α) (n : Nat) (v : α) : (setNth xs n v).length = xs.length := by
  unfold setNth; split <;> simp

/-- What was written is read, where the table has the item. -/
theorem nth_setNth_self (xs : List α) (d v : α) (n : Nat) (h1 : 1 ≤ n) (h2 : n ≤ xs.length) : nth (setNth xs n v) d n = v := by
  have h : n ≠ 0 := by omega
  have h' : n - 1 < xs.length := by omega
  simp [nth, setNth, h, List.getD, h']

/-- Another item reads as before. -/
theorem nth_setNth_ne (xs : List α) (d v : α) (n k : Nat) (h : k ≠ n) : nth (setNth xs n v) d k = nth xs d k := by
  unfold nth setNth
  split
  · rfl
  · split
    · rfl
    · have hk : n - 1 ≠ k - 1 := by omega
      simp [List.getD, List.getElem?_set_ne hk]

/-- Writing what is there changes nothing. -/
theorem setNth_nth (xs : List α) (d : α) (n : Nat) : setNth xs n (nth xs d n) = xs := by
  unfold nth setNth
  split
  · rfl
  · by_cases h : n - 1 < xs.length
    · simp [List.getD, h]
    · simp [List.set_eq_of_length_le (Nat.le_of_not_lt h)]

end Tables

/-! ## Reading a table after an update of it -/

theorem State.seq_setSeq (t : Nat) (q : Sequencer) (h1 : 1 ≤ t) (h2 : t ≤ s.tq.length) : (s.setSeq t q).seq t = q :=
  nth_setNth_self _ _ _ _ h1 h2
theorem State.seq_setSeq_ne (t k : Nat) (q : Sequencer) (h : k ≠ t) : (s.setSeq t q).seq k = s.seq k := nth_setNth_ne _ _ _ _ _ h
theorem State.mover_setMover (m : Nat) (x : Mover) (h1 : 1 ≤ m) (h2 : m ≤ s.mc.movers.length) : (s.setMover m x).mover m = x :=
  nth_setNth_self _ _ _ _ h1 h2
theorem State.mover_setMover_ne (m k : Nat) (x : Mover) (h : k ≠ m) : (s.setMover m x).mover k = s.mover k :=
  nth_setNth_ne _ _ _ _ _ h
theorem State.input_setInput (i : Nat) (x : SafetyInput) (h1 : 1 ≤ i) (h2 : i ≤ s.pu.inputs.length) :
    (s.setInput i x).input i = x := nth_setNth_self _ _ _ _ h1 h2
theorem State.input_setInput_ne (i k : Nat) (x : SafetyInput) (h : k ≠ i) : (s.setInput i x).input k = s.input k :=
  nth_setNth_ne _ _ _ _ _ h
theorem State.prot_setProt (t : Nat) (p : Protection) (h1 : 1 ≤ t) (h2 : t ≤ s.pt.txs.length) : (s.setProt t p).prot t = p :=
  nth_setNth_self _ _ _ _ h1 h2
theorem State.prot_setProt_ne (t k : Nat) (p : Protection) (h : k ≠ t) : (s.setProt t p).prot k = s.prot k :=
  nth_setNth_ne _ _ _ _ _ h
theorem State.permit_setPermit (r : Nat) (p : PermitRow) (h1 : 1 ≤ r) (h2 : r ≤ s.pu.rows.length) : (s.setPermit r p).permit r = p :=
  nth_setNth_self _ _ _ _ h1 h2
theorem State.permit_setPermit_ne (r k : Nat) (p : PermitRow) (h : k ≠ r) : (s.setPermit r p).permit k = s.permit k :=
  nth_setNth_ne _ _ _ _ _ h
theorem State.duty_setDuty (t : Nat) (d : Duty) (h1 : 1 ≤ t) (h2 : t ≤ s.se.duties.length) : (s.setDuty t d).duty t = d :=
  nth_setNth_self _ _ _ _ h1 h2
theorem State.duty_setDuty_ne (t k : Nat) (d : Duty) (h : k ≠ t) : (s.setDuty t d).duty k = s.duty k := nth_setNth_ne _ _ _ _ _ h
theorem State.faultSet_setFaultSet (a : Nat) (f : FaultSet) (h1 : 1 ≤ a) (h2 : a ≤ s.ld.faults.length) :
    (s.setFaultSet a f).faultSet a = f := nth_setNth_self _ _ _ _ h1 h2
theorem State.faultSet_setFaultSet_ne (a k : Nat) (f : FaultSet) (h : k ≠ a) : (s.setFaultSet a f).faultSet k = s.faultSet k :=
  nth_setNth_ne _ _ _ _ _ h
theorem State.book_setBook (b : Nat) (x : Book) : (s.setBook b x).book b = x := by
  unfold State.setBook State.book; split <;> rfl
theorem State.book_setBook_zero_one (x : Book) : (s.setBook 0 x).book 1 = s.book 1 := rfl
theorem State.book_setBook_one_zero (x : Book) : (s.setBook 1 x).book 0 = s.book 0 := rfl

/-! ## What the steps of a reset leave of the hand-overs -/

@[simp] theorem State.nextScrub_notices : s.nextScrub.notices = s.notices := by unfold State.nextScrub; rfl
@[simp] theorem State.loadConfig_notices : s.loadConfig.notices = s.notices := by unfold State.loadConfig; split <;> rfl
@[simp] theorem State.loadLicence_notices : s.loadLicence.notices = s.notices := by unfold State.loadLicence; rfl
@[simp] theorem State.beginRelease_notices (n : Nat) : (s.beginRelease n).notices = s.notices := rfl

theorem State.foldl_notices {f : State → Nat → State} (h : ∀ s n, (f s n).notices = s.notices) (ns : List Nat) (s : State) :
    (ns.foldl f s).notices = s.notices := by
  induction ns generalizing s with
  | nil => rfl
  | cons n ns ih => exact (ih (f s n)).trans (h s n)

@[simp] theorem State.resetInputs_notices : s.resetInputs.notices = s.notices := by
  unfold State.resetInputs
  refine State.foldl_notices (fun u n => ?_) _ s
  dsimp only
  split <;> simp
@[simp] theorem State.restartInputs_notices : s.restartInputs.notices = s.notices := by
  unfold State.restartInputs
  dsimp only
  exact s.resetInputs_notices
@[simp] theorem State.coldBlocks_notices : s.coldBlocks.notices = [] := by unfold State.coldBlocks; rfl
@[simp] theorem State.restartBlocks_notices : s.restartBlocks.notices = [] := by unfold State.restartBlocks; rfl

end Sys2Proof.Machine
end

