-- ==== Sys2Proof/Laws/Handed.lean ====
section
/-! SUPPORT. The relation of hand-overs: it is a preorder, and every plain update of a block keeps it. -/

namespace Sys2Proof.Machine

open Sys2Proof

theorem Handed.refl (s : State) : Handed s s := ⟨rfl, fun _ h => h, fun _ _ h => h, fun h => ⟨rfl, h⟩⟩

theorem Handed.trans {s t u : State} (h : Handed s t) (k : Handed t u) : Handed s u :=
  ⟨k.kept.trans h.kept, fun i hi => k.alerts i (h.alerts i hi), fun a i hi => k.faults a i (h.faults a i hi),
    fun hs => ⟨(k.reply (h.reply hs).2).1.trans (h.reply hs).1, (k.reply (h.reply hs).2).2⟩⟩

/-- A state that differs only where nothing is compared, and keeps its alert flags and fault sets. -/
theorem Handed.of_same {base s t : State} (h : Handed base s) (hk : t.kept = s.kept) (ha : t.lc.alerts = s.lc.alerts)
    (hf : t.ld.faults = s.ld.faults) (hr : t.lc.reply = s.lc.reply := by rfl) (hh : t.lc.held = s.lc.held := by rfl) :
    Handed base t :=
  ⟨hk.trans h.kept, fun i hi => ha ▸ h.alerts i hi, fun a i hi => by
    have := h.faults a i hi
    unfold State.faultSet at *
    rwa [hf], fun hb => ⟨hr.trans (h.reply hb).1, hh.trans (h.reply hb).2⟩⟩

theorem Handed.array {base s : State} (h : Handed base s) : s.ss.array = base.ss.array := congrArg Kept.array h.kept

/-- A fold of hand-overs is one. -/
theorem Handed.foldl {α : Type} {base : State} {f : State → α → State} (hf : ∀ s x, Handed base s → Handed base (f s x)) :
    ∀ (xs : List α) (s : State), Handed base s → Handed base (xs.foldl f s) := by
  intro xs
  induction xs with
  | nil => exact fun s h => h
  | cons x xs ih => exact fun s h => ih _ (hf s x h)

/-- A fold over a pair whose first component is the state. -/
theorem Handed.foldl_fst {α β : Type} {base : State} {f : State × β → α → State × β} (hf : ∀ p x, Handed base p.1 → Handed base (f p x).1) :
    ∀ (xs : List α) (p : State × β), Handed base p.1 → Handed base (xs.foldl f p).1 := by
  intro xs
  induction xs with
  | nil => exact fun p h => h
  | cons x xs ih => exact fun p h => ih _ (hf p x h)

variable {base s : State}

/-! ## Plain updates -/

@[simp] theorem Handed.post (h : Handed base s) (n : Notice) : Handed base (s.post n) := h.of_same rfl rfl rfl
@[simp] theorem Handed.postOnce (h : Handed base s) (n : Notice) : Handed base (s.postOnce n) := h.of_same rfl rfl rfl
@[simp] theorem Handed.setSeq (h : Handed base s) (t : Nat) (q : Sequencer) : Handed base (s.setSeq t q) :=
  h.of_same (by simp [State.kept, State.sizes, Matrix.sizes, Executor.sizes, PresetCache.sizes, State.setSeq]) rfl rfl
@[simp] theorem Handed.setProt (h : Handed base s) (t : Nat) (p : Protection) : Handed base (s.setProt t p) :=
  h.of_same (by simp [State.kept, State.sizes, Matrix.sizes, Executor.sizes, PresetCache.sizes, State.setProt]) rfl rfl
@[simp] theorem Handed.setArcRecord (h : Handed base s) (a : Nat) (r : ArcRecord) : Handed base (s.setArcRecord a r) :=
  h.of_same (by simp [State.kept, State.sizes, Matrix.sizes, Executor.sizes, PresetCache.sizes, State.setArcRecord]) rfl rfl
@[simp] theorem Handed.setPermit (h : Handed base s) (r : Nat) (p : PermitRow) : Handed base (s.setPermit r p) :=
  h.of_same (by simp [State.kept, State.sizes, Matrix.sizes, Executor.sizes, PresetCache.sizes, State.setPermit]) rfl rfl
@[simp] theorem Handed.setMover (h : Handed base s) (m : Nat) (x : Mover) : Handed base (s.setMover m x) :=
  h.of_same (by simp [State.kept, State.sizes, Matrix.sizes, Executor.sizes, PresetCache.sizes, State.setMover]) rfl rfl
@[simp] theorem Handed.setClaim (h : Handed base s) (a : Nat) (c : AntennaClaims) : Handed base (s.setClaim a c) :=
  h.of_same (by simp [State.kept, State.sizes, Matrix.sizes, Executor.sizes, PresetCache.sizes, State.setClaim]) rfl rfl
@[simp] theorem Handed.setRowFault (h : Handed base s) (r : Nat) (c : List RowCause) : Handed base (s.setRowFault r c) :=
  h.of_same (by simp [State.kept, State.sizes, Matrix.sizes, Executor.sizes, PresetCache.sizes, State.setRowFault]) rfl rfl
@[simp] theorem Handed.setDuty (h : Handed base s) (t : Nat) (d : Duty) : Handed base (s.setDuty t d) :=
  h.of_same (by simp [State.kept, State.sizes, Matrix.sizes, Executor.sizes, PresetCache.sizes, State.setDuty]) rfl rfl
@[simp] theorem Handed.setChange (h : Handed base s) (t : Nat) (c : Option Changeover) : Handed base (s.setChange t c) :=
  h.of_same (by simp [State.kept, State.sizes, Matrix.sizes, Executor.sizes, PresetCache.sizes, State.setChange]) rfl rfl
@[simp] theorem Handed.setLastChecked (h : Handed base s) (a : Nat) (d : Option Nat) : Handed base (s.setLastChecked a d) :=
  h.of_same (by simp [State.kept, State.sizes, Matrix.sizes, Executor.sizes, PresetCache.sizes, State.setLastChecked, Diagnostics.sizes]) rfl rfl

/-- A set put into a directory leaves every directory as long as it was. -/
theorem setNth_set_lengths (ds : List (List PresetSet)) (t n : Nat) (x : PresetSet) :
    (setNth ds t ((nth ds [] t).set n x)).map List.length = ds.map List.length := by
  unfold setNth nth
  split
  · rfl
  · rw [List.map_set, List.length_set]
    apply List.ext_getElem
    · simp
    · intro i h1 h2
      simp only [List.getElem_set, List.getElem_map]
      split
      · next h => subst h; simp at h2; simp [List.getElem?_eq_getElem h2]
      · rfl

@[simp] theorem Handed.setPresetSet (h : Handed base s) (t n : Nat) (x : PresetSet) : Handed base (s.setPresetSet t n x) :=
  h.of_same (by simp [State.kept, State.sizes, PresetCache.sizes, State.setPresetSet, setNth_set_lengths]) rfl rfl
@[simp] theorem Handed.setVerifier (h : Handed base s) (v : Option Verifier) : Handed base (s.setVerifier v) := h.of_same rfl rfl rfl

@[simp] theorem Handed.setBook (h : Handed base s) (n : Nat) (x : Book) : Handed base (s.setBook n x) := by
  unfold State.setBook
  split
  · exact h.of_same rfl rfl rfl
  · exact h.of_same rfl rfl rfl

/-- An update of the store that leaves the array as it is. -/
@[simp] theorem Handed.setStore (h : Handed base s) {x : Store} (hx : x.array = s.ss.array) : Handed base (s.setStore x) :=
  h.of_same (by simp [State.kept, State.sizes, State.setStore, hx]) rfl rfl

/-- An update of the diagnostics that leaves the fault sets and the check days as they are. -/
@[simp] theorem Handed.setDiag (h : Handed base s) {x : Diagnostics} (hx : x.faults = s.ld.faults)
    (hy : x.lastChecked = s.ld.lastChecked) : Handed base (s.setDiag x) :=
  h.of_same (by simp [State.kept, State.sizes, Diagnostics.sizes, State.setDiag, hx, hy]) rfl hx

@[simp] theorem Handed.withMatrix (h : Handed base s) {x : Matrix} (hx : x.sizes = s.mc.sizes) : Handed base { s with mc := x } :=
  h.of_same (by simp [State.kept, State.sizes, hx]) rfl rfl
@[simp] theorem Handed.withExecutor (h : Handed base s) {x : Executor} (hx : x.sizes = s.se.sizes) : Handed base { s with se := x } :=
  h.of_same (by simp [State.kept, State.sizes, hx]) rfl rfl
@[simp] theorem Handed.withBooks (h : Handed base s) (x : SeasonBooks) : Handed base { s with sb := x } := h.of_same rfl rfl rfl
@[simp] theorem Handed.withNotices (h : Handed base s) (x : List Notice) : Handed base { s with notices := x } := h.of_same rfl rfl rfl

/-- An update of the cache that leaves the freeze, the windows, the scrub position and the sizes as they are. -/
@[simp] theorem Handed.withCache (h : Handed base s) {x : PresetCache} (h1 : x.windows = s.pc.windows) (h2 : x.frozen = s.pc.frozen)
    (h3 : (x.scrubTx, x.scrubSet, x.scrubWay, x.scrubAt) = (s.pc.scrubTx, s.pc.scrubSet, s.pc.scrubWay, s.pc.scrubAt))
    (h4 : x.sizes = s.pc.sizes) : Handed base { s with pc := x } :=
  h.of_same (by simp only [State.kept, State.sizes, h1, h2, h3, h4]) rfl rfl

/-- Setting a flag keeps the others (R212). -/
@[simp] theorem Handed.alert (h : Handed base s) (f : Alert) : Handed base (s.alert f) :=
  ⟨h.kept, fun i hi => by simp [h.alerts i hi], h.faults, h.reply⟩

theorem State.setFaultSet_kept (s : State) (a : Nat) (f : FaultSet) : (s.setFaultSet a f).kept = s.kept := by
  simp [State.kept, State.sizes, Diagnostics.sizes, State.setFaultSet]

/-- Adding a fault flag keeps the others (R194). -/
@[simp] theorem Handed.addFault (h : Handed base s) (a : Nat) (f : FaultFlag) : Handed base (s.addFault a f) := by
  unfold State.addFault
  split
  · exact h
  · split
    · exact h
    · refine Handed.post (Handed.postOnce (Handed.alert (base := base) ?_ _) _) _
      refine ⟨(State.setFaultSet_kept s a _).trans h.kept, h.alerts, fun c i hi => ?_, h.reply⟩
      have := h.faults c i hi
      by_cases hc : c = a
      · subst hc
        by_cases h1 : 1 ≤ c ∧ c ≤ s.ld.faults.length
        · rw [State.faultSet_setFaultSet _ _ _ h1.1 h1.2]
          simp [this]
        · have hs : s.setFaultSet c (s.faultSet c ||| f.mask) = s := by
            have : setNth s.ld.faults c (s.faultSet c ||| f.mask) = s.ld.faults := by
              unfold setNth
              split
              · rfl
              · exact List.set_eq_of_length_le (by omega)
            simp [State.setFaultSet, this]
          rw [hs]
          exact this
      · rw [State.faultSet_setFaultSet_ne _ _ _ _ hc]
        exact this

end Sys2Proof.Machine
end

