-- ==== Sys2Proof/Laws/HandedStore.lean ====
section
/-! SUPPORT. Each operation of the Season Store (chapter 3) that a hand-over may use is itself a hand-over: `Handed` holds
across it. -/

namespace Sys2Proof.Machine

open Sys2Proof

variable {base s : State}

set_option linter.all false

@[simp] theorem State.serve_handed (h : Handed base s) (reader : Reader) : Handed base (State.serve s reader) := by
  unfold State.serve
  try dsimp only
  repeat' first | with_reducible assumption | with_reducible apply Handed.post | split | intro _ | rfl

@[simp] theorem State.serveAll_handed (h : Handed base s) : Handed base (State.serveAll s) := by
  have k : ∀ c, Handed c s → Handed c (s.ss.readWait.foldl (fun s w => s.serve w.reader) s) := fun c hc =>
    Handed.foldl (fun s x h => State.serve_handed h _) _ _ hc
  exact Handed.setStore (k _ h) (Handed.array (k _ (Handed.refl s))).symm

@[simp] theorem State.serveUnheld_handed (h : Handed base s)  : Handed base (State.serveUnheld s) := by
  unfold State.serveUnheld
  try dsimp only
  repeat' first | with_reducible assumption | with_reducible apply Handed.setStore | with_reducible apply State.serve_handed | with_reducible apply Handed.foldl | with_reducible apply Handed.foldl_fst | split | intro _ | rfl

@[simp] theorem State.suspend_handed (h : Handed base s)  : Handed base (State.suspend s) := by
  unfold State.suspend
  try dsimp only
  repeat' first | with_reducible assumption | with_reducible apply Handed.setStore | split | intro _ | rfl

@[simp] theorem State.resume_handed (h : Handed base s)  : Handed base (State.resume s) := by
  unfold State.resume
  try dsimp only
  repeat' first | with_reducible assumption | with_reducible apply Handed.post | with_reducible apply Handed.setStore | split | intro _ | rfl

@[simp] theorem State.waitRead_handed (h : Handed base s) (reader : Reader) (held : Bool) : Handed base (State.waitRead s reader held) := by
  unfold State.waitRead
  try dsimp only
  repeat' first | with_reducible assumption | with_reducible apply Handed.setStore | split | intro _ | rfl

@[simp] theorem State.requestRead_handed (h : Handed base s) (reader : Reader) (address length : Nat) : Handed base (State.requestRead s reader address length) := by
  unfold State.requestRead
  try dsimp only
  repeat' first | with_reducible assumption | with_reducible apply Handed.post | with_reducible apply State.serve_handed | with_reducible apply State.serveUnheld_handed | with_reducible apply State.suspend_handed | with_reducible apply State.waitRead_handed | split | intro _ | rfl

@[simp] theorem State.guardEnds_handed (h : Handed base s)  : Handed base (State.guardEnds s) := by
  unfold State.guardEnds
  try dsimp only
  repeat' first | with_reducible assumption | with_reducible apply Handed.post | with_reducible apply Handed.setStore | with_reducible apply State.serveUnheld_handed | with_reducible apply State.suspend_handed | split | intro _ | rfl

@[simp] theorem State.recordFailure_handed (h : Handed base s) (op : StoreOp) (owner : OpOwner) (cause : FailCause) : Handed base (State.recordFailure s op owner cause) := by
  unfold State.recordFailure
  try dsimp only
  repeat' first | with_reducible assumption | with_reducible apply Handed.setStore | with_reducible apply Handed.alert | split | intro _ | rfl

@[simp] theorem State.itemEnds_handed (h : Handed base s) (kind : ItemKind) (failure : Option FailCause) : Handed base (State.itemEnds s kind failure) := by
  unfold State.itemEnds
  try dsimp only
  repeat' first | with_reducible assumption | with_reducible apply Handed.post | with_reducible apply Handed.alert | split | intro _ | rfl

@[simp] theorem State.startOp_handed (h : Handed base s) (op : StoreOp) (owner : OpOwner) : Handed base (State.startOp s op owner) := by
  unfold State.startOp
  try dsimp only
  repeat' first | with_reducible assumption | with_reducible apply Handed.setStore | split | intro _ | rfl

@[simp] theorem State.nextWork_handed (h : Handed base s)  (n : Nat) : Handed base (State.nextWork  n s) := by
  induction n generalizing s with
  | zero => exact h
  | succ n ih =>
    unfold State.nextWork
    try dsimp only
    repeat' first | with_reducible assumption | with_reducible apply Handed.postOnce | with_reducible apply Handed.setStore | with_reducible apply State.recordFailure_handed | with_reducible apply State.itemEnds_handed | with_reducible apply State.startOp_handed | apply ih | split | intro _ | rfl

@[simp] theorem State.operationDone_handed (h : Handed base s)  : Handed base (State.operationDone s) := by
  unfold State.operationDone
  try dsimp only
  repeat' first | with_reducible assumption | with_reducible apply Handed.setStore | with_reducible apply State.serveAll_handed | with_reducible apply State.nextWork_handed | split | intro _ | rfl

@[simp] theorem State.hostOpEnds_handed (h : Handed base s) (outcome : HostOpOutcome) : Handed base (State.hostOpEnds s outcome) := by
  unfold State.hostOpEnds
  try dsimp only
  repeat' first | with_reducible assumption | with_reducible apply Handed.setStore | with_reducible apply Handed.alert | split | intro _ | rfl

@[simp] theorem State.offer_handed (h : Handed base s) (kind : ItemKind) (ops : List StoreOp) : Handed base (State.offer s kind ops).1 := by
  unfold State.offer
  try dsimp only
  repeat' first | with_reducible assumption | with_reducible apply Handed.setStore | with_reducible apply State.itemEnds_handed | with_reducible apply State.nextWork_handed | split | intro _ | rfl
theorem State.offer_handed_eq (h : Handed base s) {kind : ItemKind} {ops : List StoreOp} {u : State} {r} (e : State.offer s kind ops = (u, r)) : Handed base u := by
  have k := State.offer_handed (base := base) h kind ops
  rw [e] at k
  exact k

@[simp] theorem State.waitToOffer_handed (h : Handed base s) (w : Waiter) : Handed base (State.waitToOffer s w) := by
  unfold State.waitToOffer
  try dsimp only
  repeat' first | with_reducible assumption | with_reducible apply Handed.setStore | split | intro _ | rfl

@[simp] theorem State.dropRead_handed (h : Handed base s) (reader : Reader) : Handed base (State.dropRead s reader) := by
  unfold State.dropRead
  try dsimp only
  repeat' first | with_reducible assumption | with_reducible apply Handed.setStore | split | intro _ | rfl

end Sys2Proof.Machine
end

