-- ==== Sys2Proof/Laws/HandedPreset.lean ====
section
/-! SUPPORT. Each operation of the Preset Cache (chapter 10) that a hand-over may use keeps `Handed`. -/

namespace Sys2Proof.Machine

open Sys2Proof

variable {base s : State}

set_option linter.all false

@[simp] theorem State.mapSets_handed (h : Handed base s) (f : PresetSet → PresetSet) : Handed base (State.mapSets s f) :=
  h.withCache rfl rfl rfl (by simp [PresetCache.sizes, Function.comp_def])

@[simp] theorem State.presetError_handed (h : Handed base s) (kind : PresetErrorKind) (t n way : Nat) (source : PresetSource) : Handed base (State.presetError s kind t n way source) := by
  unfold State.presetError
  try dsimp only
  repeat' first | with_reducible assumption | with_reducible apply Handed.alert | split | intro _ | with_reducible refine Handed.withCache ?_ rfl rfl rfl rfl | rfl

@[simp] theorem State.checkWay_handed (h : Handed base s) (t n way : Nat) (source : PresetSource) : Handed base (State.checkWay s t n way source).1 := by
  unfold State.checkWay
  try dsimp only
  repeat' first | with_reducible assumption | with_reducible apply Handed.setPresetSet | with_reducible apply State.presetError_handed | split | intro _ | with_reducible refine Handed.withCache ?_ rfl rfl rfl rfl | rfl
theorem State.checkWay_handed_eq (h : Handed base s) {t n way : Nat} {source : PresetSource} {u : State} {r} (e : State.checkWay s t n way source = (u, r)) : Handed base u := by
  have k := State.checkWay_handed (base := base) h t n way source
  rw [e] at k
  exact k

@[simp] theorem State.checkDuplicate_handed (h : Handed base s) (t n : Nat) (source : PresetSource) : Handed base (State.checkDuplicate s t n source) := by
  unfold State.checkDuplicate
  try dsimp only
  repeat' first | with_reducible assumption | with_reducible apply Handed.setPresetSet | with_reducible apply State.presetError_handed | split | intro _ | rfl

@[simp] theorem State.readSet_handed (h : Handed base s) (t n : Nat) (source : PresetSource) : Handed base (State.readSet s t n source) := by
  unfold State.readSet
  try dsimp only
  repeat' first | with_reducible assumption | with_reducible apply State.checkWay_handed | with_reducible apply State.checkDuplicate_handed | split | intro _ | refine State.checkWay_handed_eq ?_ (by assumption) | rfl

@[simp] theorem State.probe_handed (h : Handed base s) (t ant channel : Nat) : Handed base (State.probe s t ant channel).1 := by
  unfold State.probe
  try dsimp only
  repeat' first | with_reducible assumption | with_reducible apply State.readSet_handed | split | intro _ | rfl
theorem State.probe_handed_eq (h : Handed base s) {t ant channel : Nat} {u : State} {r} (e : State.probe s t ant channel = (u, r)) : Handed base u := by
  have k := State.probe_handed (base := base) h t ant channel
  rw [e] at k
  exact k

@[simp] theorem State.lookup_handed (h : Handed base s) (t ant channel : Nat) : Handed base (State.lookup s t ant channel).1 := by
  unfold State.lookup
  try dsimp only
  repeat' first | with_reducible assumption | with_reducible apply Handed.setPresetSet | with_reducible apply State.readSet_handed | split | intro _ | rfl
theorem State.lookup_handed_eq (h : Handed base s) {t ant channel : Nat} {u : State} {r} (e : State.lookup s t ant channel = (u, r)) : Handed base u := by
  have k := State.lookup_handed (base := base) h t ant channel
  rw [e] at k
  exact k

@[simp] theorem State.install_handed (h : Handed base s) (t n way : Nat) (r : PresetRecord) : Handed base (State.install s t n way r) := by
  unfold State.install
  try dsimp only
  repeat' first | with_reducible assumption | with_reducible apply Handed.setPresetSet | split | intro _ | rfl

@[simp] theorem State.fill_handed (h : Handed base s) (t ant channel : Nat) (r : TuneResult) : Handed base (State.fill s t ant channel r) := by
  unfold State.fill
  try dsimp only
  repeat' first | with_reducible assumption | with_reducible apply State.readSet_handed | with_reducible apply State.install_handed | split | intro _ | rfl

@[simp] theorem State.presetFeedback_handed (h : Handed base s) (t ant channel ratio : Nat) : Handed base (State.presetFeedback s t ant channel ratio) := by
  unfold State.presetFeedback
  try dsimp only
  repeat' first | with_reducible assumption | with_reducible apply Handed.setPresetSet | with_reducible apply State.readSet_handed | with_reducible apply State.fill_handed | split | intro _ | rfl

@[simp] theorem State.offerPages_handed (h : Handed base s)  (n : Nat) : Handed base (State.offerPages  n s) := by
  induction n generalizing s with
  | zero => exact h
  | succ n ih =>
    unfold State.offerPages
    try dsimp only
    repeat' first | with_reducible assumption | with_reducible apply State.offer_handed | with_reducible apply State.waitToOffer_handed | apply ih | split | intro _ | refine State.offer_handed_eq ?_ (by assumption) | with_reducible refine Handed.withCache ?_ rfl rfl rfl rfl | rfl

@[simp] theorem State.endSave_handed (h : Handed base s) (outcome : CopyEnd) : Handed base (State.endSave s outcome) := by
  unfold State.endSave
  try dsimp only
  repeat' first | with_reducible assumption | split | intro _ | with_reducible refine Handed.withCache ?_ rfl rfl rfl rfl | rfl

@[simp] theorem State.savePageEnded_handed (h : Handed base s) (page : Nat) (last : Bool) (failure : Option FailCause) : Handed base (State.savePageEnded s page last failure) := by
  unfold State.savePageEnded
  try dsimp only
  repeat' first | with_reducible assumption | with_reducible apply State.endSave_handed | split | intro _ | with_reducible refine Handed.withCache ?_ rfl rfl rfl rfl | rfl

@[simp] theorem State.restoreImage_handed (h : Handed base s) (t n : Nat) (bs : List Byte) (c : RestoreCounts) : Handed base (State.restoreImage s t n bs c).1 := by
  unfold State.restoreImage
  try dsimp only
  repeat' first | with_reducible assumption | with_reducible apply State.readSet_handed | with_reducible apply State.install_handed | with_reducible apply State.fill_handed | split | intro _ | rfl
theorem State.restoreImage_handed_eq (h : Handed base s) {t n : Nat} {bs : List Byte} {c : RestoreCounts} {u : State} {r} (e : State.restoreImage s t n bs c = (u, r)) : Handed base u := by
  have k := State.restoreImage_handed (base := base) h t n bs c
  rw [e] at k
  exact k

@[simp] theorem State.restorePage_handed (h : Handed base s) (page : Nat) (c : RestoreCounts) : Handed base (State.restorePage s page c).1 := by
  unfold State.restorePage
  try dsimp only
  repeat' first | with_reducible assumption | with_reducible apply State.restoreImage_handed | with_reducible apply Handed.foldl | with_reducible apply Handed.foldl_fst | split | intro _ | refine State.restoreImage_handed_eq ?_ (by assumption) | rfl
theorem State.restorePage_handed_eq (h : Handed base s) {page : Nat} {c : RestoreCounts} {u : State} {r} (e : State.restorePage s page c = (u, r)) : Handed base u := by
  have k := State.restorePage_handed (base := base) h page c
  rw [e] at k
  exact k

@[simp] theorem State.endRestore_handed (h : Handed base s) (outcome : CopyEnd) : Handed base (State.endRestore s outcome) := by
  unfold State.endRestore
  try dsimp only
  repeat' first | with_reducible assumption | with_reducible apply State.restorePage_handed | with_reducible apply State.dropRead_handed | split | intro _ | refine State.restorePage_handed_eq ?_ (by assumption) | with_reducible refine Handed.withCache ?_ rfl rfl rfl rfl | rfl

@[simp] theorem State.readRestorePage_handed (h : Handed base s)  : Handed base (State.readRestorePage s) := by
  unfold State.readRestorePage
  try dsimp only
  repeat' first | with_reducible assumption | with_reducible apply State.requestRead_handed | with_reducible apply State.restorePage_handed | split | intro _ | refine State.restorePage_handed_eq ?_ (by assumption) | with_reducible refine Handed.withCache ?_ rfl rfl rfl rfl | rfl

@[simp] theorem State.restoreServed_handed (h : Handed base s)  : Handed base (State.restoreServed s) := by
  unfold State.restoreServed
  try dsimp only
  repeat' first | with_reducible assumption | with_reducible apply State.restorePage_handed | with_reducible apply State.endRestore_handed | split | intro _ | refine State.restorePage_handed_eq ?_ (by assumption) | with_reducible refine Handed.withCache ?_ rfl rfl rfl rfl | rfl

end Sys2Proof.Machine
end

