-- ==== Sys2Proof/Laws/HandedBooks.lean ====
section
/-! SUPPORT. Each operation of the Season Books (chapter 4) that a hand-over may use keeps `Handed`. -/

namespace Sys2Proof.Machine

open Sys2Proof

variable {base s : State}

set_option linter.all false

@[simp] theorem State.missMark_handed (h : Handed base s) (b : Nat) (x : MissingMark) : Handed base (State.missMark s b x) := by
  unfold State.missMark
  try dsimp only
  repeat' first | with_reducible assumption | with_reducible apply Handed.setBook | with_reducible apply Handed.alert | split | intro _ | rfl

@[simp] theorem State.countMark_handed (h : Handed base s)  : Handed base (State.countMark s) := by
  unfold State.countMark
  try dsimp only
  repeat' first | with_reducible assumption | split | intro _ | with_reducible refine Handed.withBooks (s := _) ?_ _ | rfl

@[simp] theorem State.offerMark_handed (h : Handed base s) (b : Nat) (x : MissingMark) : Handed base (State.offerMark s b x).1 := by
  unfold State.offerMark
  try dsimp only
  repeat' first | with_reducible assumption | with_reducible apply State.offer_handed | split | intro _ | refine State.offer_handed_eq ?_ (by assumption) | rfl
theorem State.offerMark_handed_eq (h : Handed base s) {b : Nat} {x : MissingMark} {u : State} {r} (e : State.offerMark s b x = (u, r)) : Handed base u := by
  have k := State.offerMark_handed (base := base) h b x
  rw [e] at k
  exact k

@[simp] theorem State.markDue_handed (h : Handed base s) (b : Nat) (m : Mark) (contents : List Byte) : Handed base (State.markDue s b m contents) := by
  unfold State.markDue
  try dsimp only
  repeat' first | with_reducible assumption | with_reducible apply State.waitToOffer_handed | with_reducible apply State.missMark_handed | with_reducible apply State.countMark_handed | with_reducible apply State.offerMark_handed | split | intro _ | refine State.offerMark_handed_eq ?_ (by assumption) | rfl

@[simp] theorem State.reofferMarks_handed (h : Handed base s)  (n : Nat) (x : Nat) : Handed base (State.reofferMarks  n s x).1 := by
  induction n generalizing s x with
  | zero => exact h
  | succ n ih =>
    unfold State.reofferMarks
    try dsimp only
    repeat' first | with_reducible assumption | with_reducible apply Handed.setBook | with_reducible apply State.offerMark_handed | apply ih | split | intro _ | refine State.offerMark_handed_eq ?_ (by assumption) | rfl
theorem State.reofferMarks_handed_eq (h : Handed base s)  {n : Nat} {x : Nat} {u : State} {r} (e : State.reofferMarks  n s x = (u, r)) : Handed base u := by
  have k := State.reofferMarks_handed (base := base) h n x
  rw [e] at k
  exact k

@[simp] theorem State.reoffer_handed (h : Handed base s) (w : Waiter) : Handed base (State.reoffer s w).1 := by
  unfold State.reoffer
  try dsimp only
  repeat' first | with_reducible assumption | with_reducible apply State.offerPages_handed | with_reducible apply State.reofferMarks_handed | split | intro _ | refine State.reofferMarks_handed_eq ?_ (by assumption) | rfl
theorem State.reoffer_handed_eq (h : Handed base s) {w : Waiter} {u : State} {r} (e : State.reoffer s w = (u, r)) : Handed base u := by
  have k := State.reoffer_handed (base := base) h w
  rw [e] at k
  exact k

@[simp] theorem State.waitLast_handed (h : Handed base s) (w : Waiter) : Handed base (State.waitLast s w) := by
  unfold State.waitLast
  try dsimp only
  repeat' first | with_reducible assumption | with_reducible apply Handed.setStore | split | intro _ | rfl

@[simp] theorem State.offerAgain_handed (h : Handed base s)  : Handed base (State.offerAgain s) := by
  unfold State.offerAgain
  try dsimp only
  repeat' first | with_reducible assumption | with_reducible apply Handed.postOnce | with_reducible apply Handed.setStore | with_reducible apply State.reoffer_handed | with_reducible apply State.waitLast_handed | with_reducible apply Handed.foldl | with_reducible apply Handed.foldl_fst | split | intro _ | refine State.reoffer_handed_eq ?_ (by assumption) | rfl

@[simp] theorem State.reindexNext_handed (h : Handed base s) (v : Verifier) : Handed base (State.reindexNext s v) := by
  unfold State.reindexNext
  try dsimp only
  repeat' first | with_reducible assumption | with_reducible apply Handed.setVerifier | split | intro _ | rfl

@[simp] theorem State.checksumFails_handed (h : Handed base s) (v : Verifier) : Handed base (State.checksumFails s v) := by
  unfold State.checksumFails
  try dsimp only
  repeat' first | with_reducible assumption | with_reducible apply Handed.setBook | with_reducible apply Handed.alert | with_reducible apply Handed.setVerifier | with_reducible apply State.reindexNext_handed | split | intro _ | rfl

@[simp] theorem State.checksumPasses_handed (h : Handed base s) (v : Verifier) : Handed base (State.checksumPasses s v) := by
  unfold State.checksumPasses
  try dsimp only
  repeat' first | with_reducible assumption | with_reducible apply Handed.setBook | with_reducible apply Handed.setVerifier | with_reducible apply State.reindexNext_handed | split | intro _ | rfl

@[simp] theorem State.verifierAdvance_handed (h : Handed base s)  (n : Nat) : Handed base (State.verifierAdvance  n s) := by
  induction n generalizing s with
  | zero => exact h
  | succ n ih =>
    unfold State.verifierAdvance
    try dsimp only
    repeat' first | with_reducible assumption | with_reducible apply Handed.setVerifier | with_reducible apply State.checksumFails_handed | with_reducible apply State.checksumPasses_handed | apply ih | split | intro _ | rfl

@[simp] theorem State.startVerifier_handed (h : Handed base s) (b : Nat) (reindex : Bool) : Handed base (State.startVerifier s b reindex) := by
  unfold State.startVerifier
  try dsimp only
  repeat' first | with_reducible assumption | with_reducible apply Handed.setVerifier | with_reducible apply State.verifierAdvance_handed | split | intro _ | rfl

@[simp] theorem State.verifierServed_handed (h : Handed base s)  : Handed base (State.verifierServed s) := by
  unfold State.verifierServed
  try dsimp only
  repeat' first | with_reducible assumption | with_reducible apply Handed.setBook | with_reducible apply Handed.setVerifier | with_reducible apply State.checksumFails_handed | with_reducible apply State.verifierAdvance_handed | with_reducible apply Handed.foldl | with_reducible apply Handed.foldl_fst | split | intro _ | rfl

@[simp] theorem State.verifierReads_handed (h : Handed base s)  : Handed base (State.verifierReads s) := by
  unfold State.verifierReads
  try dsimp only
  repeat' first | with_reducible assumption | with_reducible apply State.requestRead_handed | with_reducible apply Handed.setVerifier | split | intro _ | rfl

@[simp] theorem State.verificationEnds_handed (h : Handed base s) (v : Verifier) : Handed base (State.verificationEnds s v) := by
  unfold State.verificationEnds
  try dsimp only
  repeat' first | with_reducible assumption | with_reducible apply Handed.setBook | with_reducible apply Handed.alert | with_reducible apply State.markDue_handed | with_reducible apply Handed.setVerifier | split | intro _ | rfl

@[simp] theorem State.leaveReindex_handed (h : Handed base s) (b : Nat) : Handed base (State.leaveReindex s b) := by
  unfold State.leaveReindex
  try dsimp only
  repeat' first | with_reducible assumption | with_reducible apply State.verifierAdvance_handed | with_reducible apply State.reindexNext_handed | with_reducible apply State.dropRead_handed | split | intro _ | rfl

@[simp] theorem State.takeHandover_handed (h : Handed base s) (b : Nat) (h : Handover) : Handed base (State.takeHandover s b h) := by
  unfold State.takeHandover
  try dsimp only
  repeat' first | with_reducible assumption | with_reducible apply Handed.post | with_reducible apply State.leaveReindex_handed | with_reducible apply Handed.setBook | with_reducible apply Handed.alert | with_reducible apply State.markDue_handed | split | intro _ | rfl

@[simp] theorem State.handoverIfDue_handed (h : Handed base s) (instant b : Nat) : Handed base (State.handoverIfDue s instant b) := by
  unfold State.handoverIfDue
  try dsimp only
  repeat' first | with_reducible assumption | with_reducible apply State.takeHandover_handed | split | intro _ | rfl

@[simp] theorem State.handoversDue_handed (h : Handed base s) (instant : Nat) : Handed base (State.handoversDue s instant) := by
  unfold State.handoversDue
  try dsimp only
  repeat' first | with_reducible assumption | with_reducible apply State.handoverIfDue_handed | split | intro _ | rfl

@[simp] theorem State.scanPending_handed (h : Handed base s)  : Handed base (State.scanPending s) := by
  unfold State.scanPending
  try dsimp only
  repeat' first | with_reducible assumption | with_reducible apply Handed.setBook | with_reducible apply Handed.alert | with_reducible apply State.markDue_handed | split | intro _ | rfl

@[simp] theorem State.scanActive_handed (h : Handed base s)  : Handed base (State.scanActive s) := by
  unfold State.scanActive
  try dsimp only
  repeat' first | with_reducible assumption | with_reducible apply Handed.setBook | with_reducible apply State.markDue_handed | split | intro _ | rfl

@[simp] theorem State.startScan_handed (h : Handed base s)  : Handed base (State.startScan s) := by
  unfold State.startScan
  try dsimp only
  repeat' first | with_reducible assumption | with_reducible apply Handed.alert | with_reducible apply State.startVerifier_handed | with_reducible apply State.scanPending_handed | with_reducible apply State.scanActive_handed | split | intro _ | with_reducible refine Handed.withBooks (s := _) ?_ _ | rfl

@[simp] theorem State.reindexEnds_handed (h : Handed base s)  : Handed base (State.reindexEnds s) := by
  unfold State.reindexEnds
  try dsimp only
  repeat' first | with_reducible assumption | with_reducible apply State.handoversDue_handed | split | intro _ | with_reducible refine Handed.withBooks (s := _) ?_ _ | rfl

@[simp] theorem State.loadPageEnded_handed (h : Handed base s) (b slot : Nat) (failure : Option FailCause) : Handed base (State.loadPageEnded s b slot failure) := by
  unfold State.loadPageEnded
  try dsimp only
  repeat' first | with_reducible assumption | with_reducible apply Handed.setBook | with_reducible apply Handed.alert | split | intro _ | rfl

@[simp] theorem State.bookEraseEnded_handed (h : Handed base s) (b : Nat) (failure : Option FailCause) : Handed base (State.bookEraseEnded s b failure) := by
  unfold State.bookEraseEnded
  try dsimp only
  repeat' first | with_reducible assumption | with_reducible apply Handed.setBook | with_reducible apply Handed.alert | split | intro _ | rfl

@[simp] theorem State.markEnded_handed (h : Handed base s) (b : Nat) (m : Mark) (due : Nat) (failure : Option FailCause) : Handed base (State.markEnded s b m due failure) := by
  unfold State.markEnded
  try dsimp only
  repeat' first | with_reducible assumption | with_reducible apply State.missMark_handed | split | intro _ | rfl

end Sys2Proof.Machine
end

