-- ==== Sys2Proof/Laws/HandedMatrix.lean ====
section
/-! SUPPORT. Each operation of the Matrix Controller (chapter 6) that a hand-over may use keeps `Handed`. -/

namespace Sys2Proof.Machine

open Sys2Proof

variable {base s : State}

set_option linter.all false

@[simp] theorem State.addRowFault_handed (h : Handed base s) (t : Nat) (c : RowCause) : Handed base (State.addRowFault s t c) := by
  unfold State.addRowFault
  try dsimp only
  repeat' first | with_reducible assumption | with_reducible apply Handed.post | with_reducible apply Handed.postOnce | with_reducible apply Handed.setRowFault | split | intro _ | rfl

@[simp] theorem State.tell_handed (h : Handed base s) (m : Nat) (fault : Bool) (r : Requester) : Handed base (State.tell s m fault r) := by
  unfold State.tell
  try dsimp only
  repeat' first | with_reducible assumption | with_reducible apply Handed.post | with_reducible apply Handed.postOnce | split | intro _ | rfl

@[simp] theorem State.tellAll_handed (h : Handed base s) (m : Nat) (fault : Bool) (rs : List Requester) : Handed base (State.tellAll s m fault rs) := by
  unfold State.tellAll
  try dsimp only
  repeat' first | with_reducible assumption | with_reducible apply State.tell_handed | with_reducible apply Handed.foldl | with_reducible apply Handed.foldl_fst | split | intro _ | rfl

@[simp] theorem State.admitMotion_handed (h : Handed base s) (m : Nat) (target : Position) (r : Requester) (priority : Nat) (kept : Option Nat) : Handed base (State.admitMotion s m target r priority kept) := by
  unfold State.admitMotion
  try dsimp only
  repeat' first | with_reducible assumption | with_reducible apply Handed.postOnce | with_reducible apply Handed.setMover | with_reducible apply State.tell_handed | with_reducible apply State.tellAll_handed | split | intro _ | with_reducible refine Handed.withMatrix (s := _) ?_ ?_ | rfl | simp [Matrix.sizes]

@[simp] theorem State.requestMotion_handed (h : Handed base s) (m : Nat) (target : Position) (r : Requester) (priority : Nat) : Handed base (State.requestMotion s m target r priority) := by
  unfold State.requestMotion
  try dsimp only
  repeat' first | with_reducible assumption | with_reducible apply State.admitMotion_handed | split | intro _ | rfl

@[simp] theorem State.withdrawMotion_handed (h : Handed base s) (m : Nat) (r : Requester) : Handed base (State.withdrawMotion s m r) := by
  unfold State.withdrawMotion
  try dsimp only
  repeat' first | with_reducible assumption | with_reducible apply Handed.setMover | split | intro _ | rfl

@[simp] theorem State.presentFollowOn_handed (h : Handed base s) (m : Nat) (f : Option MotionRequest) : Handed base (State.presentFollowOn s m f) := by
  unfold State.presentFollowOn
  try dsimp only
  repeat' first | with_reducible assumption | with_reducible apply State.admitMotion_handed | split | intro _ | rfl

@[simp] theorem State.faultMover_handed (h : Handed base s) (m : Nat) (f : MoverFault) : Handed base (State.faultMover s m f) := by
  unfold State.faultMover
  try dsimp only
  repeat' first | with_reducible assumption | with_reducible apply Handed.postOnce | with_reducible apply Handed.setMover | with_reducible apply Handed.alert | with_reducible apply Handed.addFault | with_reducible apply State.addRowFault_handed | with_reducible apply State.tellAll_handed | split | intro _ | with_reducible refine Handed.withMatrix (s := _) ?_ ?_ | rfl | simp [Matrix.sizes]

@[simp] theorem State.confirmMover_handed (h : Handed base s) (m : Nat) : Handed base (State.confirmMover s m) := by
  unfold State.confirmMover
  try dsimp only
  repeat' first | with_reducible assumption | with_reducible apply Handed.postOnce | with_reducible apply Handed.setMover | with_reducible apply State.tellAll_handed | with_reducible apply State.presentFollowOn_handed | split | intro _ | rfl

@[simp] theorem State.beginValidate_handed (h : Handed base s) (m : Nat) : Handed base (State.beginValidate s m) := by
  unfold State.beginValidate
  try dsimp only
  repeat' first | with_reducible assumption | with_reducible apply Handed.setMover | with_reducible apply State.confirmMover_handed | split | intro _ | rfl

@[simp] theorem State.beginSettle_handed (h : Handed base s) (m : Nat) : Handed base (State.beginSettle s m) := by
  unfold State.beginSettle
  try dsimp only
  repeat' first | with_reducible assumption | with_reducible apply Handed.setMover | with_reducible apply State.beginValidate_handed | with_reducible apply State.settle_handed | split | intro _ | rfl

@[simp] theorem State.grant_handed (h : Handed base s) (m : Nat) : Handed base (State.grant s m) := by
  unfold State.grant
  try dsimp only
  repeat' first | with_reducible assumption | with_reducible apply Handed.postOnce | with_reducible apply Handed.setMover | with_reducible apply State.beginSettle_handed | split | intro _ | rfl

@[simp] theorem State.arbitrate_handed (h : Handed base s)  : Handed base (State.arbitrate s) := by
  unfold State.arbitrate
  try dsimp only
  repeat' first | with_reducible assumption | with_reducible apply State.grant_handed | split | intro _ | rfl

@[simp] theorem State.requeue_handed (h : Handed base s) (m : Nat) : Handed base (State.requeue s m) := by
  unfold State.requeue
  try dsimp only
  repeat' first | with_reducible assumption | with_reducible apply Handed.setMover | split | intro _ | with_reducible refine Handed.withMatrix (s := _) ?_ ?_ | rfl | simp [Matrix.sizes]

@[simp] theorem State.haltAll_handed (h : Handed base s)  : Handed base (State.haltAll s) := by
  unfold State.haltAll
  try dsimp only
  repeat' first | with_reducible assumption | with_reducible apply Handed.setMover | with_reducible apply Handed.foldl | with_reducible apply Handed.foldl_fst | split | intro _ | with_reducible refine Handed.withMatrix (s := _) ?_ ?_ | rfl | simp [Matrix.sizes]

@[simp] theorem State.haltNotCold_handed (h : Handed base s)  : Handed base (State.haltNotCold s) := by
  unfold State.haltNotCold
  try dsimp only
  repeat' first | with_reducible assumption | with_reducible apply Handed.postOnce | with_reducible apply Handed.setMover | with_reducible apply State.requeue_handed | with_reducible apply Handed.foldl | with_reducible apply Handed.foldl_fst | split | intro _ | rfl

@[simp] theorem State.releaseHalt_handed (h : Handed base s)  : Handed base (State.releaseHalt s) := by
  unfold State.releaseHalt
  try dsimp only
  repeat' first | with_reducible assumption | with_reducible apply State.requeue_handed | with_reducible apply Handed.foldl | with_reducible apply Handed.foldl_fst | split | intro _ | with_reducible refine Handed.withMatrix (s := _) ?_ ?_ | rfl | simp [Matrix.sizes]

@[simp] theorem State.deriveColumn_handed (h : Handed base s) (a : Nat) : Handed base (State.deriveColumn s a) := by
  unfold State.deriveColumn
  try dsimp only
  repeat' first | with_reducible assumption | with_reducible apply Handed.post | with_reducible apply Handed.setClaim | with_reducible apply Handed.addFault | with_reducible apply State.addRowFault_handed | with_reducible apply Handed.foldl | with_reducible apply Handed.foldl_fst | split | intro _ | rfl

@[simp] theorem State.deriveOccupancy_handed (h : Handed base s)  : Handed base (State.deriveOccupancy s) := by
  unfold State.deriveOccupancy
  try dsimp only
  repeat' first | with_reducible assumption | with_reducible apply State.deriveColumn_handed | with_reducible apply Handed.foldl | with_reducible apply Handed.foldl_fst | split | intro _ | rfl

@[simp] theorem State.matrixChanged_handed (h : Handed base s)  : Handed base (State.matrixChanged s) := by
  unfold State.matrixChanged
  try dsimp only
  repeat' first | with_reducible assumption | with_reducible apply Handed.postOnce | with_reducible apply State.deriveOccupancy_handed | with_reducible apply Handed.foldl | with_reducible apply Handed.foldl_fst | split | intro _ | rfl

@[simp] theorem State.reserve_handed (h : Handed base s) (t a : Nat) : Handed base (State.reserve s t a).1 := by
  unfold State.reserve
  try dsimp only
  repeat' first | with_reducible assumption | with_reducible apply Handed.post | with_reducible apply Handed.setClaim | split | intro _ | rfl
theorem State.reserve_handed_eq (h : Handed base s) {t a : Nat} {u : State} {r} (e : State.reserve s t a = (u, r)) : Handed base u := by
  have k := State.reserve_handed (base := base) h t a
  rw [e] at k
  exact k

@[simp] theorem State.releaseReservation_handed (h : Handed base s) (t a : Nat) : Handed base (State.releaseReservation s t a) := by
  unfold State.releaseReservation
  try dsimp only
  repeat' first | with_reducible assumption | with_reducible apply Handed.setClaim | split | intro _ | rfl

@[simp] theorem State.claimTest_handed (h : Handed base s) (a : Nat) : Handed base (State.claimTest s a).1 := by
  unfold State.claimTest
  try dsimp only
  repeat' first | with_reducible assumption | with_reducible apply Handed.setClaim | split | intro _ | rfl
theorem State.claimTest_handed_eq (h : Handed base s) {a : Nat} {u : State} {r} (e : State.claimTest s a = (u, r)) : Handed base u := by
  have k := State.claimTest_handed (base := base) h a
  rw [e] at k
  exact k

@[simp] theorem State.releaseClaim_handed (h : Handed base s) (a : Nat) : Handed base (State.releaseClaim s a) := by
  unfold State.releaseClaim
  try dsimp only
  repeat' first | with_reducible assumption | with_reducible apply Handed.setClaim | split | intro _ | rfl

@[simp] theorem State.startRead_handed (h : Handed base s) (m : Nat) (fresh : Bool) : Handed base (State.startRead s m fresh) := by
  unfold State.startRead
  try dsimp only
  repeat' first | with_reducible assumption | with_reducible apply Handed.setMover | with_reducible apply State.faultMover_handed | split | intro _ | rfl

@[simp] theorem State.endRead_handed (h : Handed base s) (m : Nat) (r : MoverRead) : Handed base (State.endRead s m r) := by
  unfold State.endRead
  try dsimp only
  repeat' first | with_reducible assumption | with_reducible apply Handed.postOnce | with_reducible apply Handed.setMover | split | intro _ | rfl

@[simp] theorem State.startSurvey_handed (h : Handed base s) (row : Option Nat) : Handed base (State.startSurvey s row) := by
  unfold State.startSurvey
  try dsimp only
  repeat' first | with_reducible assumption | with_reducible apply Handed.postOnce | with_reducible apply State.startRead_handed | with_reducible apply Handed.foldl | with_reducible apply Handed.foldl_fst | split | intro _ | with_reducible refine Handed.withMatrix (s := _) ?_ ?_ | rfl | simp [Matrix.sizes]

@[simp] theorem State.cleanRow_handed (h : Handed base s) (t : Nat) : Handed base (State.cleanRow s t) := by
  unfold State.cleanRow
  try dsimp only
  repeat' first | with_reducible assumption | with_reducible apply State.addRowFault_handed | with_reducible apply State.requestMotion_handed | split | intro _ | rfl

@[simp] theorem State.openTests_handed (h : Handed base s)  : Handed base (State.openTests s) := by
  unfold State.openTests
  try dsimp only
  repeat' first | with_reducible assumption | with_reducible apply State.requestMotion_handed | with_reducible apply Handed.foldl | with_reducible apply Handed.foldl_fst | split | intro _ | rfl

@[simp] theorem State.cleanUp_handed (h : Handed base s) (row : Option Nat) : Handed base (State.cleanUp s row) := by
  unfold State.cleanUp
  try dsimp only
  repeat' first | with_reducible assumption | with_reducible apply State.addRowFault_handed | with_reducible apply State.deriveOccupancy_handed | with_reducible apply State.cleanRow_handed | with_reducible apply State.openTests_handed | with_reducible apply Handed.foldl | with_reducible apply Handed.foldl_fst | split | intro _ | rfl

@[simp] theorem State.surveyDone_handed (h : Handed base s) (row : Option Nat) : Handed base (State.surveyDone s row) := by
  unfold State.surveyDone
  try dsimp only
  repeat' first | with_reducible assumption | with_reducible apply Handed.postOnce | with_reducible apply Handed.foldl | with_reducible apply Handed.foldl_fst | split | intro _ | with_reducible refine Handed.withMatrix (s := _) ?_ ?_ | rfl | simp [Matrix.sizes]

@[simp] theorem State.surveyProgress_handed (h : Handed base s)  : Handed base (State.surveyProgress s) := by
  unfold State.surveyProgress
  try dsimp only
  repeat' first | with_reducible assumption | with_reducible apply Handed.postOnce | with_reducible apply State.cleanUp_handed | with_reducible apply State.surveyDone_handed | split | intro _ | with_reducible refine Handed.withMatrix (s := _) ?_ ?_ | rfl | simp [Matrix.sizes]

@[simp] theorem State.dropMover_handed (h : Handed base s) (m : Nat) : Handed base (State.dropMover s m) := by
  unfold State.dropMover
  try dsimp only
  repeat' first | with_reducible assumption | with_reducible apply Handed.setMover | with_reducible apply State.tellAll_handed | split | intro _ | with_reducible refine Handed.withMatrix (s := _) ?_ ?_ | rfl | simp [Matrix.sizes]

@[simp] theorem State.presenceChanged_handed (h : Handed base s) (before : State) : Handed base (State.presenceChanged s before) := by
  unfold State.presenceChanged
  try dsimp only
  repeat' first | with_reducible assumption | with_reducible apply Handed.postOnce | with_reducible apply Handed.setMover | with_reducible apply State.startRead_handed | with_reducible apply State.dropMover_handed | with_reducible apply Handed.foldl | with_reducible apply Handed.foldl_fst | split | intro _ | rfl

end Sys2Proof.Machine
end

