-- ==== Sys2Proof/Laws/HandedPermit.lean ====
section
/-! SUPPORT. Each operation of the Permit Unit (chapter 7) that a hand-over may use keeps `Handed`. -/

namespace Sys2Proof.Machine

open Sys2Proof

variable {base s : State}

set_option linter.all false

-- uses excluded ['State.request']
@[simp] theorem State.lineFalls_handed (h : Handed base s) (t : Nat) (cause : FallCause) : Handed base (State.lineFalls s t cause) := by
  unfold State.lineFalls
  try dsimp only
  repeat' first | with_reducible assumption | with_reducible apply Handed.post | with_reducible apply Handed.setPermit | split | intro _ | rfl

@[simp] theorem State.lineRises_handed (h : Handed base s) (t : Nat) : Handed base (State.lineRises s t) := by
  unfold State.lineRises
  try dsimp only
  repeat' first | with_reducible assumption | with_reducible apply Handed.post | with_reducible apply Handed.setPermit | split | intro _ | rfl

-- uses excluded ['State.request']
@[simp] theorem State.updateLine_handed (h : Handed base s) (t : Nat) : Handed base (State.updateLine s t) := by
  unfold State.updateLine
  try dsimp only
  repeat' first | with_reducible assumption | with_reducible apply Handed.setPermit | with_reducible apply State.lineFalls_handed | with_reducible apply State.lineRises_handed | split | intro _ | rfl

@[simp] theorem State.updateCold_handed (h : Handed base s) (t : Nat) : Handed base (State.updateCold s t) := by
  unfold State.updateCold
  try dsimp only
  repeat' first | with_reducible assumption | with_reducible apply Handed.postOnce | with_reducible apply Handed.setPermit | split | intro _ | rfl

@[simp] theorem State.recoveryTest_handed (h : Handed base s) (t : Nat) : Handed base (State.recoveryTest s t) := by
  unfold State.recoveryTest
  try dsimp only
  repeat' first | with_reducible assumption | with_reducible apply Handed.postOnce | split | intro _ | rfl

@[simp] theorem State.permitsTested_handed (h : Handed base s)  : Handed base (State.permitsTested s) := by
  unfold State.permitsTested
  try dsimp only
  repeat' first | with_reducible assumption | with_reducible apply State.haltNotCold_handed | with_reducible apply State.updateLine_handed | with_reducible apply State.updateCold_handed | with_reducible apply State.recoveryTest_handed | with_reducible apply Handed.foldl | with_reducible apply Handed.foldl_fst | split | intro _ | rfl

@[simp] theorem State.permitsChanged_handed (h : Handed base s)  : Handed base (State.permitsChanged s) := by
  unfold State.permitsChanged
  try dsimp only
  repeat' first | with_reducible assumption | with_reducible apply State.permitsTested_handed | split | intro _ | rfl

end Sys2Proof.Machine
end

