-- ==== Sys2Proof/Laws/HandedSequencer.lean ====
section
/-! SUPPORT. Each operation of the Transmitter Sequencers (chapter 8) that a hand-over may use keeps `Handed`. -/

namespace Sys2Proof.Machine

open Sys2Proof

variable {base s : State}

set_option linter.all false

@[simp] theorem State.command_handed (h : Handed base s) (t p : Nat) (tune : Bool) : Handed base (State.command s t p tune) := by
  unfold State.command
  try dsimp only
  repeat' first | with_reducible assumption | with_reducible apply Handed.setProt | split | intro _ | rfl

@[simp] theorem State.commandOrder_handed (h : Handed base s) (t : Nat) (o : Order) : Handed base (State.commandOrder s t o) := by
  unfold State.commandOrder
  try dsimp only
  repeat' first | with_reducible assumption | with_reducible apply State.command_handed | with_reducible apply State.clearTrip_handed | split | intro _ | rfl

@[simp] theorem State.setLimit_handed (h : Handed base s) (t limit : Nat) : Handed base (State.setLimit s t limit) := by
  unfold State.setLimit
  try dsimp only
  repeat' first | with_reducible assumption | with_reducible apply Handed.setProt | split | intro _ | rfl

@[simp] theorem State.enterSeq_handed (h : Handed base s) (t : Nat) (st : SeqState) (timer : Option Nat) : Handed base (State.enterSeq s t st timer) := by
  unfold State.enterSeq
  try dsimp only
  repeat' first | with_reducible assumption | with_reducible apply Handed.post | with_reducible apply Handed.postOnce | with_reducible apply Handed.setSeq | with_reducible apply Handed.setProt | with_reducible apply State.updateLine_handed | split | intro _ | rfl

@[simp] theorem State.endOrder_handed (h : Handed base s) (t : Nat) (kind : OrderKind) (number : Option Nat) (owner : OrderOwner) (outcome : OrderEnd) : Handed base (State.endOrder s t kind number owner outcome) := by
  unfold State.endOrder
  try dsimp only
  repeat' first | with_reducible assumption | with_reducible apply Handed.post | with_reducible apply Handed.setSeq | split | intro _ | rfl

@[simp] theorem State.endQueued_handed (h : Handed base s) (t : Nat) (x : QueuedOrder) (outcome : OrderEnd) : Handed base (State.endQueued s t x outcome) := by
  unfold State.endQueued
  try dsimp only
  repeat' first | with_reducible assumption | with_reducible apply State.endOrder_handed | split | intro _ | rfl

@[simp] theorem State.endOutstanding_handed (h : Handed base s) (t : Nat) (outcome : OrderEnd) : Handed base (State.endOutstanding s t outcome) := by
  unfold State.endOutstanding
  try dsimp only
  repeat' first | with_reducible assumption | with_reducible apply Handed.setSeq | with_reducible apply State.endOrder_handed | split | intro _ | rfl

@[simp] theorem State.discardOrders_handed (h : Handed base s) (t : Nat) : Handed base (State.discardOrders s t) := by
  unfold State.discardOrders
  try dsimp only
  repeat' first | with_reducible assumption | with_reducible apply Handed.setSeq | with_reducible apply State.endQueued_handed | with_reducible apply Handed.foldl | with_reducible apply Handed.foldl_fst | split | intro _ | rfl

@[simp] theorem State.sendFrame_handed (h : Handed base s) (t : Nat) (x : QueuedOrder) : Handed base (State.sendFrame s t x) := by
  unfold State.sendFrame
  try dsimp only
  repeat' first | with_reducible assumption | with_reducible apply Handed.setSeq | split | intro _ | rfl

@[simp] theorem State.trySend_handed (h : Handed base s) (t : Nat) : Handed base (State.trySend s t) := by
  unfold State.trySend
  try dsimp only
  repeat' first | with_reducible assumption | with_reducible apply Handed.setSeq | with_reducible apply State.sendFrame_handed | split | intro _ | rfl

@[simp] theorem State.endReplaced_handed (h : Handed base s) (t : Nat) (x : QueuedOrder) (xs : List QueuedOrder) : Handed base (State.endReplaced s t x xs) := by
  unfold State.endReplaced
  try dsimp only
  repeat' first | with_reducible assumption | with_reducible apply State.endQueued_handed | with_reducible apply Handed.foldl | with_reducible apply Handed.foldl_fst | split | intro _ | rfl

@[simp] theorem State.enqueue_handed (h : Handed base s) (t : Nat) (o : Order) (owner : OrderOwner) : Handed base (State.enqueue s t o owner) := by
  unfold State.enqueue
  try dsimp only
  repeat' first | with_reducible assumption | with_reducible apply Handed.setSeq | with_reducible apply State.commandOrder_handed | with_reducible apply State.trySend_handed | with_reducible apply State.endReplaced_handed | split | intro _ | rfl

@[simp] theorem State.takeMute_handed (h : Handed base s) (t : Nat) (owner : OrderOwner) : Handed base (State.takeMute s t owner) := by
  unfold State.takeMute
  try dsimp only
  repeat' first | with_reducible assumption | with_reducible apply State.commandOrder_handed | with_reducible apply State.endOutstanding_handed | with_reducible apply State.discardOrders_handed | with_reducible apply State.sendFrame_handed | split | intro _ | rfl

@[simp] theorem State.takeQuench_handed (h : Handed base s) (t : Nat) : Handed base (State.takeQuench s t) := by
  unfold State.takeQuench
  try dsimp only
  repeat' first | with_reducible assumption | with_reducible apply State.enqueue_handed | with_reducible apply State.takeMute_handed | split | intro _ | rfl

@[simp] theorem State.firstQuench_handed (h : Handed base s) (t : Nat) : Handed base (State.firstQuench s t) := by
  unfold State.firstQuench
  try dsimp only
  repeat' first | with_reducible assumption | with_reducible apply Handed.setSeq | with_reducible apply State.takeQuench_handed | split | intro _ | rfl

@[simp] theorem State.muteFor_handed (h : Handed base s) (t : Nat) (origin : MuteOrigin) (owner : OrderOwner) (notice : Option Nat) : Handed base (State.muteFor s t origin owner notice) := by
  unfold State.muteFor
  try dsimp only
  repeat' first | with_reducible assumption | with_reducible apply Handed.setSeq | with_reducible apply State.enterSeq_handed | with_reducible apply State.takeMute_handed | split | intro _ | rfl

@[simp] theorem State.seqTrip_handed (h : Handed base s) (t : Nat) (owner : OrderOwner) : Handed base (State.seqTrip s t owner) := by
  unfold State.seqTrip
  try dsimp only
  repeat' first | with_reducible assumption | with_reducible apply State.muteFor_handed | split | intro _ | rfl

@[simp] theorem State.seqFault_handed (h : Handed base s) (t : Nat) (cause : SeqFault) : Handed base (State.seqFault s t cause) := by
  unfold State.seqFault
  try dsimp only
  repeat' first | with_reducible assumption | with_reducible apply Handed.setSeq | with_reducible apply Handed.alert | with_reducible apply State.enterSeq_handed | with_reducible apply State.discardOrders_handed | with_reducible apply State.takeQuench_handed | split | intro _ | rfl

@[simp] theorem State.seqLinkLost_handed (h : Handed base s) (t : Nat) : Handed base (State.seqLinkLost s t) := by
  unfold State.seqLinkLost
  try dsimp only
  repeat' first | with_reducible assumption | with_reducible apply Handed.setSeq | with_reducible apply State.enterSeq_handed | with_reducible apply State.endOutstanding_handed | with_reducible apply State.discardOrders_handed | split | intro _ | rfl

@[simp] theorem State.linkLossAt_handed (h : Handed base s) (t : Nat) : Handed base (State.linkLossAt s t) := by
  unfold State.linkLossAt
  try dsimp only
  repeat' first | with_reducible assumption | with_reducible apply State.endOutstanding_handed | with_reducible apply State.trySend_handed | with_reducible apply State.seqLinkLost_handed | split | intro _ | rfl

@[simp] theorem State.lockoutNotice_handed (h : Handed base s) (t : Nat) : Handed base (State.lockoutNotice s t) := by
  unfold State.lockoutNotice
  try dsimp only
  repeat' first | with_reducible assumption | with_reducible apply State.enterSeq_handed | with_reducible apply State.endOutstanding_handed | with_reducible apply State.discardOrders_handed | with_reducible apply State.takeQuench_handed | split | intro _ | rfl

@[simp] theorem State.takeRfOff_handed (h : Handed base s) (t : Nat) (owner : OrderOwner) : Handed base (State.takeRfOff s t owner) := by
  unfold State.takeRfOff
  try dsimp only
  repeat' first | with_reducible assumption | with_reducible apply State.enterSeq_handed | with_reducible apply State.enqueue_handed | split | intro _ | rfl

@[simp] theorem State.takeRfOn_handed (h : Handed base s) (t power feed : Nat) (owner : OrderOwner) : Handed base (State.takeRfOn s t power feed owner) := by
  unfold State.takeRfOn
  try dsimp only
  repeat' first | with_reducible assumption | with_reducible apply Handed.setSeq | with_reducible apply Handed.setProt | with_reducible apply State.enterSeq_handed | with_reducible apply State.enqueue_handed | split | intro _ | rfl

@[simp] theorem State.enterTuning_handed (h : Handed base s) (t : Nat) (mode : TuneMode) (freq : Nat) (ant : Option Nat) (ds : Nat) : Handed base (State.enterTuning s t mode freq ant ds) := by
  unfold State.enterTuning
  try dsimp only
  repeat' first | with_reducible assumption | with_reducible apply Handed.setSeq | with_reducible apply State.enterSeq_handed | split | intro _ | rfl

@[simp] theorem State.takeTuneAuto_handed (h : Handed base s) (t freq : Nat) (owner : OrderOwner) : Handed base (State.takeTuneAuto s t freq owner) := by
  unfold State.takeTuneAuto
  try dsimp only
  repeat' first | with_reducible assumption | with_reducible apply State.endOrder_handed | with_reducible apply State.enqueue_handed | with_reducible apply State.enterTuning_handed | split | intro _ | rfl

@[simp] theorem State.takeTunePreset_handed (h : Handed base s) (t freq : Nat) (owner : OrderOwner) : Handed base (State.takeTunePreset s t freq owner).1 := by
  unfold State.takeTunePreset
  try dsimp only
  repeat' first | with_reducible assumption | with_reducible apply State.lookup_handed | with_reducible apply State.enqueue_handed | with_reducible apply State.enterTuning_handed | split | intro _ | refine State.lookup_handed_eq ?_ (by assumption) | rfl
theorem State.takeTunePreset_handed_eq (h : Handed base s) {t freq : Nat} {owner : OrderOwner} {u : State} {r} (e : State.takeTunePreset s t freq owner = (u, r)) : Handed base u := by
  have k := State.takeTunePreset_handed (base := base) h t freq owner
  rw [e] at k
  exact k

@[simp] theorem State.powerHandedOver_handed (h : Handed base s) (t limit : Nat) : Handed base (State.powerHandedOver s t limit) := by
  unfold State.powerHandedOver
  try dsimp only
  repeat' first | with_reducible assumption | with_reducible apply Handed.setSeq | with_reducible apply Handed.setProt | with_reducible apply State.setLimit_handed | split | intro _ | rfl

@[simp] theorem State.takeFeed_handed (h : Handed base s) (t feed : Nat) (owner : OrderOwner) : Handed base (State.takeFeed s t feed owner) := by
  unfold State.takeFeed
  try dsimp only
  repeat' first | with_reducible assumption | with_reducible apply Handed.setSeq | with_reducible apply State.enqueue_handed | split | intro _ | rfl

@[simp] theorem State.takeInternal_handed (h : Handed base s) (t : Nat) (o : Order) (owner : OrderOwner) : Handed base (State.takeInternal s t o owner) := by
  unfold State.takeInternal
  try dsimp only
  repeat' first | with_reducible assumption | with_reducible apply State.endOrder_handed | with_reducible apply State.enqueue_handed | with_reducible apply State.takeRfOff_handed | with_reducible apply State.takeRfOn_handed | with_reducible apply State.takeTuneAuto_handed | with_reducible apply State.takeTunePreset_handed | with_reducible apply State.powerHandedOver_handed | with_reducible apply State.takeFeed_handed | with_reducible apply State.clearTrip_handed | split | intro _ | refine State.takeTunePreset_handed_eq ?_ (by assumption) | rfl

@[simp] theorem State.offerOrder_handed (h : Handed base s) (t : Nat) (o : Order) (owner : OrderOwner) : Handed base (State.offerOrder s t o owner) := by
  unfold State.offerOrder
  try dsimp only
  repeat' first | with_reducible assumption | with_reducible apply Handed.setSeq | with_reducible apply State.endReplaced_handed | with_reducible apply State.takeInternal_handed | split | intro _ | rfl

@[simp] theorem State.takeDeferred_handed (h : Handed base s) (t : Nat) : Handed base (State.takeDeferred s t) := by
  unfold State.takeDeferred
  try dsimp only
  repeat' first | with_reducible assumption | with_reducible apply Handed.setSeq | with_reducible apply State.offerOrder_handed | with_reducible apply Handed.foldl | with_reducible apply Handed.foldl_fst | split | intro _ | rfl

@[simp] theorem State.clearTrip_handed (h : Handed base s) (t : Nat) (owner : OrderOwner) : Handed base (State.clearTrip s t owner) := by
  unfold State.clearTrip
  try dsimp only
  repeat' first | with_reducible assumption | with_reducible apply State.enterSeq_handed | with_reducible apply State.enqueue_handed | split | intro _ | rfl

@[simp] theorem State.beginRecoveryWait_handed (h : Handed base s) (t power : Nat) : Handed base (State.beginRecoveryWait s t power) := by
  unfold State.beginRecoveryWait
  try dsimp only
  repeat' first | with_reducible assumption | with_reducible apply Handed.setSeq | with_reducible apply State.enterSeq_handed | split | intro _ | rfl

@[simp] theorem State.mutedProgress_handed (h : Handed base s) (t : Nat) : Handed base (State.mutedProgress s t) := by
  unfold State.mutedProgress
  try dsimp only
  repeat' first | with_reducible assumption | with_reducible apply State.takeRfOff_handed | with_reducible apply State.beginRecoveryWait_handed | split | intro _ | rfl

@[simp] theorem State.recoveryNotice_handed (h : Handed base s) (t power : Nat) : Handed base (State.recoveryNotice s t power) := by
  unfold State.recoveryNotice
  try dsimp only
  repeat' first | with_reducible assumption | with_reducible apply Handed.setSeq | with_reducible apply State.mutedProgress_handed | split | intro _ | rfl

@[simp] theorem State.seqDrop_handed (h : Handed base s) (t : Nat) (cause : FallCause) : Handed base (State.seqDrop s t cause) := by
  unfold State.seqDrop
  try dsimp only
  repeat' first | with_reducible assumption | with_reducible apply State.muteFor_handed | with_reducible apply State.seqFault_handed | with_reducible apply State.linkLossAt_handed | with_reducible apply State.lockoutNotice_handed | with_reducible apply State.mutedProgress_handed | split | intro _ | rfl

@[simp] theorem State.recoveryWaitTest_handed (h : Handed base s) (t : Nat) : Handed base (State.recoveryWaitTest s t) := by
  unfold State.recoveryWaitTest
  try dsimp only
  repeat' first | with_reducible assumption | with_reducible apply Handed.setProt | with_reducible apply State.takeRfOff_handed | with_reducible apply State.takeRfOn_handed | split | intro _ | rfl

end Sys2Proof.Machine
end

