-- ==== Sys2Proof/Laws/HandedProtection.lean ====
section
/-! SUPPORT. Each operation of the Protection Unit (chapter 9) that a hand-over may use keeps `Handed`. -/

namespace Sys2Proof.Machine

open Sys2Proof

variable {base s : State}

set_option linter.all false

@[simp] theorem State.recordTrip_handed (h : Handed base s) (t : Nat) (cause : TripCause) (code : Nat) : Handed base (State.recordTrip s t cause code).1 := by
  unfold State.recordTrip
  try dsimp only
  repeat' first | with_reducible assumption | with_reducible apply Handed.postOnce | with_reducible apply Handed.setProt | with_reducible apply Handed.alert | split | intro _ | rfl
theorem State.recordTrip_handed_eq (h : Handed base s) {t : Nat} {cause : TripCause} {code : Nat} {u : State} {r} (e : State.recordTrip s t cause code = (u, r)) : Handed base u := by
  have k := State.recordTrip_handed (base := base) h t cause code
  rw [e] at k
  exact k

@[simp] theorem State.deliver_handed (h : Handed base s) (t : Nat) (o : TripOutcome) : Handed base (State.deliver s t o) := by
  unfold State.deliver
  try dsimp only
  repeat' first | with_reducible assumption | with_reducible apply State.lockoutNotice_handed | with_reducible apply State.recoveryNotice_handed | split | intro _ | rfl

@[simp] theorem State.tripWith_handed (h : Handed base s) (t : Nat) (cause : TripCause) (code : Nat) (owner : OrderOwner) : Handed base (State.tripWith s t cause code owner) := by
  unfold State.tripWith
  try dsimp only
  repeat' first | with_reducible assumption | with_reducible apply State.seqTrip_handed | with_reducible apply State.recordTrip_handed | with_reducible apply State.deliver_handed | split | intro _ | refine State.recordTrip_handed_eq ?_ (by assumption) | rfl

-- uses excluded ['State.request']
@[simp] theorem State.dropNotice_handed (h : Handed base s) (t : Nat) (cause : FallCause) : Handed base (State.dropNotice s t cause) := by
  unfold State.dropNotice
  try dsimp only
  repeat' first | with_reducible assumption | with_reducible apply Handed.setProt | with_reducible apply State.seqDrop_handed | with_reducible apply State.recordTrip_handed | with_reducible apply State.deliver_handed | split | intro _ | refine State.recordTrip_handed_eq ?_ (by assumption) | rfl

@[simp] theorem State.foldStep_handed (h : Handed base s) (t : Nat) : Handed base (State.foldStep s t) := by
  unfold State.foldStep
  try dsimp only
  repeat' first | with_reducible assumption | with_reducible apply Handed.setProt | with_reducible apply State.offerOrder_handed | with_reducible apply State.tripWith_handed | split | intro _ | rfl

@[simp] theorem State.restoreStep_handed (h : Handed base s) (t : Nat) : Handed base (State.restoreStep s t) := by
  unfold State.restoreStep
  try dsimp only
  repeat' first | with_reducible assumption | with_reducible apply Handed.setProt | with_reducible apply State.offerOrder_handed | split | intro _ | rfl

@[simp] theorem State.restoreRunStep_handed (h : Handed base s) (t : Nat) : Handed base (State.restoreRunStep s t) := by
  unfold State.restoreRunStep
  try dsimp only
  repeat' first | with_reducible assumption | with_reducible apply Handed.setProt | with_reducible apply State.restoreStep_handed | split | intro _ | rfl

@[simp] theorem State.ratioDecision_handed (h : Handed base s) (t q : Nat) : Handed base (State.ratioDecision s t q) := by
  unfold State.ratioDecision
  try dsimp only
  repeat' first | with_reducible assumption | with_reducible apply Handed.setProt | with_reducible apply State.tripWith_handed | with_reducible apply State.foldStep_handed | with_reducible apply State.restoreRunStep_handed | split | intro _ | rfl

@[simp] theorem State.sendFeedback_handed (h : Handed base s) (t q : Nat) : Handed base (State.sendFeedback s t q) := by
  unfold State.sendFeedback
  try dsimp only
  repeat' first | with_reducible assumption | with_reducible apply Handed.setSeq | with_reducible apply State.presetFeedback_handed | split | intro _ | rfl

@[simp] theorem State.evaluate_handed (h : Handed base s) (t : Nat) (r : Report) : Handed base (State.evaluate s t r) := by
  unfold State.evaluate
  try dsimp only
  repeat' first | with_reducible assumption | with_reducible apply Handed.setProt | with_reducible apply State.ratioDecision_handed | with_reducible apply State.sendFeedback_handed | split | intro _ | rfl

@[simp] theorem State.arcCounted_handed (h : Handed base s) (a : Nat) (occupant : Option Nat) : Handed base (State.arcCounted s a occupant) := by
  unfold State.arcCounted
  try dsimp only
  repeat' first | with_reducible assumption | with_reducible apply Handed.setArcRecord | with_reducible apply Handed.addFault | with_reducible apply State.recordTrip_handed | with_reducible apply State.deliver_handed | split | intro _ | refine State.recordTrip_handed_eq ?_ (by assumption) | rfl

@[simp] theorem State.quenchFailed_handed (h : Handed base s) (t : Nat) : Handed base (State.quenchFailed s t) := by
  unfold State.quenchFailed
  try dsimp only
  repeat' first | with_reducible assumption | with_reducible apply Handed.setSeq | split | intro _ | rfl

@[simp] theorem State.orderFailed_handed (h : Handed base s) (t : Nat) (owner : OrderOwner) (outcome : OrderEnd) (cause : SeqFault) : Handed base (State.orderFailed s t owner outcome cause) := by
  unfold State.orderFailed
  try dsimp only
  repeat' first | with_reducible assumption | with_reducible apply State.endOutstanding_handed | with_reducible apply State.trySend_handed | with_reducible apply State.seqFault_handed | with_reducible apply State.quenchFailed_handed | split | intro _ | rfl

@[simp] theorem State.orderAccepted_handed (h : Handed base s) (t : Nat) (o : Outstanding) : Handed base (State.orderAccepted s t o) := by
  unfold State.orderAccepted
  try dsimp only
  repeat' first | with_reducible assumption | with_reducible apply Handed.setSeq | with_reducible apply State.endOutstanding_handed | with_reducible apply State.trySend_handed | with_reducible apply State.mutedProgress_handed | split | intro _ | rfl

@[simp] theorem State.answerOrder_handed (h : Handed base s) (t : Nat) (r : Report) : Handed base (State.answerOrder s t r) := by
  unfold State.answerOrder
  try dsimp only
  repeat' first | with_reducible assumption | with_reducible apply State.orderFailed_handed | with_reducible apply State.orderAccepted_handed | split | intro _ | rfl

@[simp] theorem State.leaveUnknown_handed (h : Handed base s) (t : Nat) (r : Report) (quench : Bool) : Handed base (State.leaveUnknown s t r quench) := by
  unfold State.leaveUnknown
  try dsimp only
  repeat' first | with_reducible assumption | with_reducible apply State.enterSeq_handed | with_reducible apply State.firstQuench_handed | split | intro _ | rfl

@[simp] theorem State.offerFill_handed (h : Handed base s) (t : Nat) (r : Report) : Handed base (State.offerFill s t r) := by
  unfold State.offerFill
  try dsimp only
  repeat' first | with_reducible assumption | with_reducible apply State.fill_handed | split | intro _ | rfl

@[simp] theorem State.tuneEnds_handed (h : Handed base s) (t : Nat) (r : Report) : Handed base (State.tuneEnds s t r) := by
  unfold State.tuneEnds
  try dsimp only
  repeat' first | with_reducible assumption | with_reducible apply Handed.setSeq | with_reducible apply State.command_handed | with_reducible apply State.enterSeq_handed | with_reducible apply State.offerFill_handed | split | intro _ | rfl

@[simp] theorem State.reportTransition_handed (h : Handed base s) (t : Nat) (r : Report) (first : Bool) (quench : QuenchState) (power : Nat) :
    Handed base (State.reportTransition s t r first quench power) := by
  unfold State.reportTransition
  try dsimp only
  repeat' first | with_reducible assumption | with_reducible apply State.enterSeq_handed | with_reducible apply State.takeQuench_handed | with_reducible apply State.takeDeferred_handed | with_reducible apply State.tripWith_handed | with_reducible apply State.leaveUnknown_handed | with_reducible apply State.tuneEnds_handed | split | intro _ | rfl

-- uses excluded ['State.report']
@[simp] theorem State.holdReport_handed (h : Handed base s) (t : Nat) (r : Report) : Handed base (State.holdReport s t r) := by
  unfold State.holdReport
  try dsimp only
  repeat' first | with_reducible assumption | with_reducible apply Handed.setSeq | with_reducible apply Handed.setProt | split | intro _ | rfl

-- uses excluded ['State.report']
@[simp] theorem State.takeReport_handed (h : Handed base s) (t : Nat) (r : Report) : Handed base (State.takeReport s t r) := by
  unfold State.takeReport
  try dsimp only
  repeat' first | with_reducible assumption | with_reducible apply Handed.postOnce | with_reducible apply State.evaluate_handed | with_reducible apply State.answerOrder_handed | with_reducible apply State.reportTransition_handed | with_reducible apply State.holdReport_handed | split | intro _ | rfl

end Sys2Proof.Machine
end

