-- ==== Sys2Proof/Laws/HandedDiag.lean ====
section
/-! SUPPORT. Each operation of Line Diagnostics (chapter 11) that a hand-over may use keeps `Handed`. -/

namespace Sys2Proof.Machine

open Sys2Proof

variable {base s : State}

set_option linter.all false

@[simp] theorem State.sendMeasurement_handed (h : Handed base s) (o : BusOrder) : Handed base (State.sendMeasurement s o) := by
  unfold State.sendMeasurement
  try dsimp only
  repeat' first | with_reducible assumption | with_reducible apply Handed.setDiag | split | intro _ | rfl

@[simp] theorem State.setBusFault_handed (h : Handed base s) (c : BusFaultCause) : Handed base (State.setBusFault s c) := by
  unfold State.setBusFault
  try dsimp only
  repeat' first | with_reducible assumption | with_reducible apply Handed.post | with_reducible apply Handed.setDiag | with_reducible apply Handed.foldl | with_reducible apply Handed.foldl_fst | split | intro _ | rfl

@[simp] theorem State.setPlan_handed (h : Handed base s) (i : Nat) (e : PlanEntry) : Handed base (State.setPlan s i e) := by
  unfold State.setPlan
  try dsimp only
  repeat' first | with_reducible assumption | with_reducible apply Handed.setDiag | split | intro _ | rfl

@[simp] theorem State.setPosition_handed (h : Handed base s) (p : RunPosition) : Handed base (State.setPosition s p) := by
  unfold State.setPosition
  try dsimp only
  repeat' first | with_reducible assumption | with_reducible apply Handed.setDiag | split | intro _ | rfl

@[simp] theorem State.nextAntenna_handed (h : Handed base s) (p : RunPosition) : Handed base (State.nextAntenna s p) := by
  unfold State.nextAntenna
  try dsimp only
  repeat' first | with_reducible assumption | with_reducible apply Handed.setDiag | with_reducible apply State.setPosition_handed | split | intro _ | rfl

@[simp] theorem State.openRunSwitch_handed (h : Handed base s) (a : Nat) : Handed base (State.openRunSwitch s a) := by
  unfold State.openRunSwitch
  try dsimp only
  repeat' first | with_reducible assumption | with_reducible apply State.requestMotion_handed | split | intro _ | rfl

@[simp] theorem State.abortAntenna_handed (h : Handed base s) (p : RunPosition) (byDrive : Bool) : Handed base (State.abortAntenna s p byDrive) := by
  unfold State.abortAntenna
  try dsimp only
  repeat' first | with_reducible assumption | with_reducible apply Handed.setDiag | with_reducible apply State.setPlan_handed | split | intro _ | rfl

@[simp] theorem State.endRun_handed (h : Handed base s) (o : RunOutcome) : Handed base (State.endRun s o) := by
  unfold State.endRun
  try dsimp only
  repeat' first | with_reducible assumption | with_reducible apply Handed.postOnce | with_reducible apply Handed.setDiag | with_reducible apply State.openRunSwitch_handed | with_reducible apply State.abortAntenna_handed | split | intro _ | rfl

@[simp] theorem State.runIdle_handed (h : Handed base s)  : Handed base (State.runIdle s) := by
  unfold State.runIdle
  try dsimp only
  repeat' first | with_reducible assumption | with_reducible apply Handed.alert | with_reducible apply State.releaseClaim_handed | with_reducible apply Handed.setDiag | split | intro _ | rfl

@[simp] theorem State.insulPassed_handed (h : Handed base s) (a : Nat) : Handed base (State.insulPassed s a) := by
  unfold State.insulPassed
  try dsimp only
  repeat' first | with_reducible assumption | with_reducible apply Handed.setLastChecked | split | intro _ | rfl

@[simp] theorem State.runFlag_handed (h : Handed base s) (i : Nat) (f : FaultFlag) : Handed base (State.runFlag s i f) := by
  unfold State.runFlag
  try dsimp only
  repeat' first | with_reducible assumption | with_reducible apply Handed.addFault | with_reducible apply State.setPlan_handed | split | intro _ | rfl

@[simp] theorem State.crossNext_handed (h : Handed base s)  (n : Nat) (x : Nat) : Handed base (State.crossNext  n s x).1 := by
  induction n generalizing s x with
  | zero => exact h
  | succ n ih =>
    unfold State.crossNext
    try dsimp only
    repeat' first | with_reducible assumption | with_reducible apply State.sendMeasurement_handed | with_reducible apply State.setPlan_handed | apply ih | split | intro _ | rfl
theorem State.crossNext_handed_eq (h : Handed base s)  {n : Nat} {x : Nat} {u : State} {r} (e : State.crossNext  n s x = (u, r)) : Handed base u := by
  have k := State.crossNext_handed (base := base) h n x
  rw [e] at k
  exact k

@[simp] theorem State.beginStep_handed (h : Handed base s) (i : Nat) (d : DiagStep) : Handed base (State.beginStep s i d).1 := by
  unfold State.beginStep
  try dsimp only
  repeat' first | with_reducible assumption | with_reducible apply State.sendMeasurement_handed | with_reducible apply State.crossNext_handed | split | intro _ | refine State.crossNext_handed_eq ?_ (by assumption) | rfl
theorem State.beginStep_handed_eq (h : Handed base s) {i : Nat} {d : DiagStep} {u : State} {r} (e : State.beginStep s i d = (u, r)) : Handed base u := by
  have k := State.beginStep_handed (base := base) h i d
  rw [e] at k
  exact k

@[simp] theorem State.stepsGoOn_handed (h : Handed base s)  (n : Nat) (x : RunPosition) (y : Bool) : Handed base (State.stepsGoOn  n s x y) := by
  induction n generalizing s x y with
  | zero => exact h
  | succ n ih =>
    unfold State.stepsGoOn
    try dsimp only
    repeat' first | with_reducible assumption | with_reducible apply State.setPosition_handed | with_reducible apply State.openRunSwitch_handed | with_reducible apply State.beginStep_handed | apply ih | split | intro _ | refine State.beginStep_handed_eq ?_ (by assumption) | rfl

@[simp] theorem State.markPlan_handed (h : Handed base s) (a : Nat) (f : FaultFlag) : Handed base (State.markPlan s a f) := by
  unfold State.markPlan
  try dsimp only
  repeat' first | with_reducible assumption | with_reducible apply Handed.setDiag | split | intro _ | rfl

@[simp] theorem State.askPreUse_handed (h : Handed base s) (t a : Nat) : Handed base (State.askPreUse s t a) := by
  unfold State.askPreUse
  try dsimp only
  repeat' first | with_reducible assumption | with_reducible apply Handed.post | with_reducible apply Handed.postOnce | with_reducible apply Handed.setDiag | split | intro _ | rfl

@[simp] theorem State.withdrawPreUse_handed (h : Handed base s) (t : Nat) : Handed base (State.withdrawPreUse s t) := by
  unfold State.withdrawPreUse
  try dsimp only
  repeat' first | with_reducible assumption | with_reducible apply Handed.setDiag | split | intro _ | rfl

@[simp] theorem State.leaveService_handed (h : Handed base s)  : Handed base (State.leaveService s) := by
  unfold State.leaveService
  try dsimp only
  repeat' first | with_reducible assumption | with_reducible apply Handed.setDiag | split | intro _ | rfl

@[simp] theorem State.takeIntoService_handed (h : Handed base s) (t a : Nat) : Handed base (State.takeIntoService s t a) := by
  unfold State.takeIntoService
  try dsimp only
  repeat' first | with_reducible assumption | with_reducible apply Handed.post | with_reducible apply State.requestMotion_handed | with_reducible apply Handed.setDiag | split | intro _ | rfl

@[simp] theorem State.openPreUse_handed (h : Handed base s) (u : PreUse) : Handed base (State.openPreUse s u) := by
  unfold State.openPreUse
  try dsimp only
  repeat' first | with_reducible assumption | with_reducible apply State.requestMotion_handed | with_reducible apply Handed.setDiag | split | intro _ | rfl

theorem State.preUseStep_handed (h : Handed base s) {u : PreUse} {w : State} (hu : State.preUseStep s u = some w) : Handed base w := by
  unfold State.preUseStep at hu
  try dsimp only at hu
  repeat' first | split at hu | cases hu
  all_goals repeat' first | with_reducible assumption | with_reducible apply Handed.post | with_reducible apply Handed.setDiag | with_reducible apply State.sendMeasurement_handed | with_reducible apply State.leaveService_handed | split | intro _ | rfl | contradiction | (rename_i k; split at k)

@[simp] theorem State.admitAntenna_handed (h : Handed base s) (p : RunPosition) : Handed base (State.admitAntenna s p) := by
  unfold State.admitAntenna
  try dsimp only
  repeat' first | with_reducible assumption | with_reducible apply State.requestMotion_handed | with_reducible apply State.claimTest_handed | with_reducible apply Handed.setDiag | with_reducible apply State.setPlan_handed | with_reducible apply State.setPosition_handed | with_reducible apply State.nextAntenna_handed | split | intro _ | rfl

@[simp] theorem State.antennaDone_handed (h : Handed base s) (p : RunPosition) (a : Nat) : Handed base (State.antennaDone s p a) := by
  unfold State.antennaDone
  try dsimp only
  repeat' first | with_reducible assumption | with_reducible apply State.releaseClaim_handed | with_reducible apply State.setPlan_handed | with_reducible apply State.nextAntenna_handed | split | intro _ | rfl

theorem State.nextPhase_handed (h : Handed base s) {p : RunPosition} {w : State} (hu : State.nextPhase s p = some w) : Handed base w := by
  unfold State.nextPhase at hu
  try dsimp only at hu
  repeat' first | split at hu | cases hu
  all_goals repeat' first | with_reducible assumption | with_reducible apply Handed.setDiag | with_reducible apply State.endRun_handed | with_reducible apply State.admitAntenna_handed | split | intro _ | refine State.runStep_handed ?_ (by assumption) | rfl | contradiction | (rename_i k; split at k)

theorem State.runStep_handed (h : Handed base s) {p : RunPosition} {w : State} (hu : State.runStep s p = some w) : Handed base w := by
  unfold State.runStep at hu
  try dsimp only at hu
  repeat' first | split at hu | cases hu
  all_goals repeat' first | with_reducible assumption | with_reducible apply State.requestMotion_handed | with_reducible apply Handed.setDiag | with_reducible apply State.sendMeasurement_handed | with_reducible apply State.setPosition_handed | with_reducible apply State.nextAntenna_handed | with_reducible apply State.endRun_handed | with_reducible apply State.stepsGoOn_handed | with_reducible apply State.antennaDone_handed | split | intro _ | refine State.nextPhase_handed ?_ (by assumption) | rfl | contradiction | (rename_i k; split at k)

theorem State.handOut_handed (h : Handed base s)  {w : State} (hu : State.handOut s = some w) : Handed base w := by
  unfold State.handOut at hu
  try dsimp only at hu
  repeat' first | split at hu | cases hu
  all_goals repeat' first | with_reducible assumption | with_reducible apply State.takeIntoService_handed | split | intro _ | rfl | contradiction | (rename_i k; split at k)

theorem State.diagStep_handed (h : Handed base s)  {w : State} (hu : State.diagStep s = some w) : Handed base w := by
  unfold State.diagStep at hu
  try dsimp only at hu
  repeat' first | split at hu | cases hu
  all_goals repeat' first | with_reducible assumption | with_reducible apply Handed.setDiag | with_reducible apply State.endRun_handed | with_reducible apply State.runIdle_handed | split | intro _ | refine State.preUseStep_handed ?_ (by assumption) | refine State.runStep_handed ?_ (by assumption) | refine State.handOut_handed ?_ (by assumption) | rfl | contradiction | (rename_i k; split at k)

@[simp] theorem State.diagProgress_handed (h : Handed base s)  : Handed base (State.diagProgress s) := by
  unfold State.diagProgress
  try dsimp only
  repeat' first | with_reducible assumption | with_reducible apply Handed.postOnce | split | intro _ | refine State.diagStep_handed ?_ (by assumption) | rfl | contradiction | (rename_i k; split at k)

@[simp] theorem State.claimLost_handed (h : Handed base s) (a : Nat) : Handed base (State.claimLost s a) := by
  unfold State.claimLost
  try dsimp only
  repeat' first | with_reducible assumption | with_reducible apply Handed.postOnce | with_reducible apply State.setPosition_handed | with_reducible apply State.openRunSwitch_handed | with_reducible apply State.abortAntenna_handed | split | intro _ | rfl

@[simp] theorem State.measurementLost_handed (h : Handed base s)  : Handed base (State.measurementLost s) := by
  unfold State.measurementLost
  try dsimp only
  repeat' first | with_reducible assumption | with_reducible apply Handed.post | with_reducible apply Handed.postOnce | with_reducible apply Handed.setDiag | with_reducible apply State.setBusFault_handed | with_reducible apply State.endRun_handed | with_reducible apply State.openPreUse_handed | split | intro _ | rfl

@[simp] theorem State.startRun_handed (h : Handed base s) (antennas : List Nat) (steps : Nat) : Handed base (State.startRun s antennas steps) := by
  unfold State.startRun
  try dsimp only
  repeat' first | with_reducible assumption | with_reducible apply Handed.postOnce | with_reducible apply Handed.setDiag | with_reducible apply State.endRun_handed | split | intro _ | rfl

end Sys2Proof.Machine
end

