-- ==== Sys2Proof/Laws/HandedExecutor.lean ====
section
/-! SUPPORT. Each operation of the Schedule Executor (chapter 5) that a hand-over may use keeps `Handed`. -/

namespace Sys2Proof.Machine

open Sys2Proof

variable {base s : State}

set_option linter.all false

@[simp] theorem State.readEntries_handed (h : Handed base s) (reader : Reader) : Handed base (State.readEntries s reader) := by
  unfold State.readEntries
  try dsimp only
  repeat' first | with_reducible assumption | with_reducible apply State.requestRead_handed | split | intro _ | rfl

@[simp] theorem State.askRead_handed (h : Handed base s) (w : ExecWork) : Handed base (State.askRead s w) := by
  unfold State.askRead
  try dsimp only
  repeat' first | with_reducible assumption | with_reducible apply State.readEntries_handed | split | intro _ | with_reducible refine Handed.withExecutor (s := _) ?_ ?_ | rfl

@[simp] theorem State.updateDuty_handed (h : Handed base s) (t : Nat) (f : Duty → Duty) : Handed base (State.updateDuty s t f) := by
  unfold State.updateDuty
  try dsimp only
  repeat' first | with_reducible assumption | with_reducible apply Handed.setDuty | split | intro _ | rfl

@[simp] theorem State.recordOutcome_handed (h : Handed base s) (t : Nat) (entryId : Nat) (day : Option Nat) (kind : OutcomeKind) (cause : Option Cause) (planned actual : Nat) (flags : CauseFlags) : Handed base (State.recordOutcome s t entryId day kind cause planned actual flags) := by
  unfold State.recordOutcome
  try dsimp only
  repeat' first | with_reducible assumption | with_reducible apply State.updateDuty_handed | split | intro _ | rfl

@[simp] theorem State.abandonPlan_handed (h : Handed base s) (t : Nat) (o : Occurrence) (cause : Cause) : Handed base (State.abandonPlan s t o cause) := by
  unfold State.abandonPlan
  try dsimp only
  repeat' first | with_reducible assumption | with_reducible apply Handed.alert | with_reducible apply State.updateDuty_handed | with_reducible apply State.recordOutcome_handed | split | intro _ | rfl

@[simp] theorem State.skipOccurrence_handed (h : Handed base s) (t : Nat) (o : Occurrence) (cause : Cause) : Handed base (State.skipOccurrence s t o cause) := by
  unfold State.skipOccurrence
  try dsimp only
  repeat' first | with_reducible assumption | with_reducible apply Handed.alert | with_reducible apply State.updateDuty_handed | with_reducible apply State.recordOutcome_handed | split | intro _ | rfl

@[simp] theorem State.offerRfOff_handed (h : Handed base s) (t : Nat) : Handed base (State.offerRfOff s t) := by
  unfold State.offerRfOff
  try dsimp only
  repeat' first | with_reducible assumption | with_reducible apply State.offerOrder_handed | split | intro _ | rfl

@[simp] theorem State.offerPower_handed (h : Handed base s) (t power freq : Nat) : Handed base (State.offerPower s t power freq) := by
  unfold State.offerPower
  try dsimp only
  repeat' first | with_reducible assumption | with_reducible apply State.setLimit_handed | with_reducible apply State.offerOrder_handed | split | intro _ | rfl

@[simp] theorem State.offerRfOn_handed (h : Handed base s) (t power freq feed : Nat) : Handed base (State.offerRfOn s t power freq feed) := by
  unfold State.offerRfOn
  try dsimp only
  repeat' first | with_reducible assumption | with_reducible apply State.setLimit_handed | with_reducible apply State.offerOrder_handed | split | intro _ | rfl

@[simp] theorem State.parkRow_handed (h : Handed base s) (t : Nat) : Handed base (State.parkRow s t) := by
  unfold State.parkRow
  try dsimp only
  repeat' first | with_reducible assumption | with_reducible apply State.requestMotion_handed | with_reducible apply Handed.foldl | with_reducible apply Handed.foldl_fst | split | intro _ | rfl

@[simp] theorem State.orderDrives_handed (h : Handed base s) (t : Nat) (g : Target) : Handed base (State.orderDrives s t g) := by
  unfold State.orderDrives
  try dsimp only
  repeat' first | with_reducible assumption | with_reducible apply State.requestMotion_handed | split | intro _ | rfl

@[simp] theorem State.planLead_handed (h : Handed base s) (t : Nat) (g : Target) (freq refStart now : Nat) : Handed base (State.planLead s t g freq refStart now).1 := by
  unfold State.planLead
  try dsimp only
  repeat' first | with_reducible assumption | with_reducible apply State.probe_handed | split | intro _ | refine State.probe_handed_eq ?_ (by assumption) | rfl
theorem State.planLead_handed_eq (h : Handed base s) {t : Nat} {g : Target} {freq refStart now : Nat} {u : State} {r} (e : State.planLead s t g freq refStart now = (u, r)) : Handed base u := by
  have k := State.planLead_handed (base := base) h t g freq refStart now
  rw [e] at k
  exact k

@[simp] theorem State.reserveTarget_handed (h : Handed base s) (t a : Nat) : Handed base (State.reserveTarget s t a).1 := by
  unfold State.reserveTarget
  try dsimp only
  repeat' first | with_reducible assumption | with_reducible apply State.reserve_handed | split | intro _ | refine State.reserve_handed_eq ?_ (by assumption) | rfl
theorem State.reserveTarget_handed_eq (h : Handed base s) {t a : Nat} {u : State} {r} (e : State.reserveTarget s t a = (u, r)) : Handed base u := by
  have k := State.reserveTarget_handed (base := base) h t a
  rw [e] at k
  exact k

@[simp] theorem State.commitPlan_handed (h : Handed base s) (t : Nat) (o : Occurrence) (c : Changeover) : Handed base (State.commitPlan s t o c) := by
  unfold State.commitPlan
  try dsimp only
  repeat' first | with_reducible assumption | with_reducible apply Handed.setChange | with_reducible apply Handed.alert | with_reducible apply State.updateDuty_handed | split | intro _ | rfl

@[simp] theorem State.planCandidates_handed (h : Handed base s) (t : Nat) (o : Occurrence) (now : Nat) (last : Cause) (gs : List (Target × Bool)) :
    Handed base (State.planCandidates s t o now last gs) := by
  induction gs generalizing s last with
  | nil => exact State.abandonPlan_handed h _ _ _
  | cons g rest ih =>
    unfold State.planCandidates
    try dsimp only
    repeat' first | with_reducible assumption | with_reducible apply State.skipOccurrence_handed | with_reducible apply State.planLead_handed | with_reducible apply State.reserveTarget_handed | with_reducible apply State.commitPlan_handed | with_reducible apply ih | split | intro _

@[simp] theorem State.planOccurrence_handed (h : Handed base s) (t : Nat) (o : Occurrence) (now : Nat) : Handed base (State.planOccurrence s t o now) := by
  unfold State.planOccurrence
  try dsimp only
  repeat' first | with_reducible assumption | with_reducible apply State.abandonPlan_handed | with_reducible apply State.skipOccurrence_handed | with_reducible apply State.planCandidates_handed | split | intro _ | rfl

@[simp] theorem State.dropSkip_handed (h : Handed base s) (t : Nat) (o : Occurrence) : Handed base (State.dropSkip s t o) := by
  unfold State.dropSkip
  try dsimp only
  repeat' first | with_reducible assumption | split | intro _ | with_reducible refine Handed.withExecutor (s := _) ?_ ?_ | rfl

@[simp] theorem State.planFor_handed (h : Handed base s)  (n : Nat) (x : Nat) (y : Nat) : Handed base (State.planFor  n s x y) := by
  induction n generalizing s x y with
  | zero => exact h
  | succ n ih =>
    unfold State.planFor
    try dsimp only
    repeat' first | with_reducible assumption | with_reducible apply State.updateDuty_handed | with_reducible apply State.recordOutcome_handed | with_reducible apply State.planOccurrence_handed | with_reducible apply State.dropSkip_handed | apply ih | split | intro _ | rfl

@[simp] theorem State.planStep_handed (h : Handed base s) (t now : Nat) : Handed base (State.planStep s t now) := by
  unfold State.planStep
  try dsimp only
  repeat' first | with_reducible assumption | with_reducible apply State.planFor_handed | split | intro _ | rfl

@[simp] theorem State.dropPlan_handed (h : Handed base s) (t : Nat) : Handed base (State.dropPlan s t) := by
  unfold State.dropPlan
  try dsimp only
  repeat' first | with_reducible assumption | with_reducible apply Handed.setChange | with_reducible apply State.releaseReservation_handed | with_reducible apply State.updateDuty_handed | split | intro _ | rfl

@[simp] theorem State.dropPlans_handed (h : Handed base s)  : Handed base (State.dropPlans s) := by
  unfold State.dropPlans
  try dsimp only
  repeat' first | with_reducible assumption | with_reducible apply State.dropPlan_handed | with_reducible apply Handed.foldl | with_reducible apply Handed.foldl_fst | split | intro _ | rfl

@[simp] theorem State.abandonChange_handed (h : Handed base s) (t : Nat) (c : Changeover) (cause : Cause) : Handed base (State.abandonChange s t c cause) := by
  unfold State.abandonChange
  try dsimp only
  repeat' first | with_reducible assumption | with_reducible apply State.recoveryTest_handed | with_reducible apply Handed.postOnce | with_reducible apply Handed.setChange | with_reducible apply Handed.alert | with_reducible apply State.releaseReservation_handed | with_reducible apply State.withdrawPreUse_handed | with_reducible apply State.updateDuty_handed | with_reducible apply State.recordOutcome_handed | with_reducible apply State.offerRfOff_handed | split | intro _ | rfl

theorem State.abandonedStep_handed (h : Handed base s) {t : Nat} {c : Changeover} {w : State} (hu : State.abandonedStep s t c = some w) : Handed base w := by
  unfold State.abandonedStep at hu
  try dsimp only at hu
  repeat' first | split at hu | cases hu
  all_goals repeat' first | with_reducible assumption | with_reducible apply Handed.setChange | with_reducible apply State.parkRow_handed | split | intro _ | rfl | contradiction | (rename_i k; split at k)

@[simp] theorem State.endEntry_handed (h : Handed base s) (t : Nat) (cause : Cause) (how : RouteSettle) : Handed base (State.endEntry s t cause how) := by
  unfold State.endEntry
  try dsimp only
  repeat' first | with_reducible assumption | with_reducible apply Handed.postOnce | with_reducible apply State.updateDuty_handed | with_reducible apply State.recordOutcome_handed | with_reducible apply State.offerRfOff_handed | split | intro _ | rfl

@[simp] theorem State.settleRoute_handed (h : Handed base s) (t : Nat) : Handed base (State.settleRoute s t) := by
  unfold State.settleRoute
  try dsimp only
  repeat' first | with_reducible assumption | with_reducible apply State.updateDuty_handed | with_reducible apply State.parkRow_handed | with_reducible apply State.settle_handed | split | intro _ | rfl

theorem State.settleStep_handed (h : Handed base s) {t : Nat} {w : State} (hu : State.settleStep s t = some w) : Handed base w := by
  unfold State.settleStep at hu
  try dsimp only at hu
  repeat' first | split at hu | cases hu
  all_goals repeat' first | with_reducible assumption | with_reducible apply State.askRead_handed | with_reducible apply State.settleRoute_handed | with_reducible apply State.settle_handed | split | intro _ | rfl | contradiction | (rename_i k; split at k)

@[simp] theorem State.releaseHeld_handed (h : Handed base s) (t : Nat) : Handed base (State.releaseHeld s t) := by
  unfold State.releaseHeld
  try dsimp only
  repeat' first | with_reducible assumption | with_reducible apply Handed.postOnce | with_reducible apply State.updateDuty_handed | split | intro _ | rfl

@[simp] theorem State.rerouteEntry_handed (h : Handed base s) (t : Nat) (e : CurrentEntry) : Handed base (State.rerouteEntry s t e).1 := by
  unfold State.rerouteEntry
  try dsimp only
  repeat' first | with_reducible assumption | with_reducible apply Handed.setChange | with_reducible apply State.updateDuty_handed | with_reducible apply State.planLead_handed | with_reducible apply State.reserveTarget_handed | with_reducible apply State.dropPlan_handed | split | intro _ | rfl

theorem State.entryStep_handed (h : Handed base s) {t : Nat} {w : State} (hu : State.entryStep s t = some w) : Handed base w := by
  unfold State.entryStep at hu
  try dsimp only at hu
  repeat' first | split at hu | cases hu
  all_goals repeat' first | with_reducible assumption | with_reducible apply Handed.alert | with_reducible apply State.endEntry_handed | with_reducible apply State.settle_handed | split | intro _ | with_reducible apply State.rerouteEntry_handed | rfl | contradiction | (rename_i k; split at k)

@[simp] theorem State.orderClose_handed (h : Handed base s) (t : Nat) (c : Changeover) : Handed base (State.orderClose s t c) := by
  unfold State.orderClose
  try dsimp only
  repeat' first | with_reducible assumption | with_reducible apply Handed.setChange | with_reducible apply State.requestMotion_handed | split | intro _ | rfl

@[simp] theorem State.openRoute_handed (h : Handed base s) (t : Nat) : Handed base (State.openRoute s t) := by
  unfold State.openRoute
  try dsimp only
  repeat' first | with_reducible assumption | with_reducible apply State.requestMotion_handed | split | intro _ | rfl

@[simp] theorem State.orderRoute_handed (h : Handed base s) (t : Nat) (c : Changeover) : Handed base (State.orderRoute s t c) := by
  unfold State.orderRoute
  try dsimp only
  repeat' first | with_reducible assumption | with_reducible apply Handed.setChange | with_reducible apply State.askPreUse_handed | with_reducible apply State.orderDrives_handed | with_reducible apply State.orderClose_handed | with_reducible apply State.openRoute_handed | split | intro _ | rfl

@[simp] theorem State.beginRouting_handed (h : Handed base s) (t : Nat) (c : Changeover) : Handed base (State.beginRouting s t c) := by
  unfold State.beginRouting
  try dsimp only
  repeat' first | with_reducible assumption | with_reducible apply Handed.postOnce | with_reducible apply State.offerOrder_handed | with_reducible apply State.orderRoute_handed | split | intro _ | rfl

theorem State.switchInPlace_handed (h : Handed base s) {t : Nat} {c : Changeover} {w : State} (hu : State.switchInPlace s t c = some w) : Handed base w := by
  unfold State.switchInPlace at hu
  try dsimp only at hu
  repeat' first | split at hu | cases hu
  all_goals repeat' first | with_reducible assumption | with_reducible apply Handed.postOnce | with_reducible apply Handed.setChange | with_reducible apply State.requestMotion_handed | with_reducible apply State.releaseReservation_handed | with_reducible apply State.withdrawPreUse_handed | with_reducible apply State.reserveTarget_handed | with_reducible apply State.orderRoute_handed | split | intro _ | refine State.reserveTarget_handed_eq ?_ (by assumption) | rfl | contradiction | (rename_i k; split at k)

@[simp] theorem State.replanAlternate_handed (h : Handed base s) (t : Nat) (c : Changeover) : Handed base (State.replanAlternate s t c).1 := by
  unfold State.replanAlternate
  try dsimp only
  repeat' first | with_reducible assumption | with_reducible apply State.recoveryTest_handed | with_reducible apply Handed.setChange | with_reducible apply Handed.alert | with_reducible apply State.releaseReservation_handed | with_reducible apply State.planLead_handed | with_reducible apply State.reserveTarget_handed | split | intro _ | rfl

@[simp] theorem State.targetLost_handed (h : Handed base s) (t : Nat) (c : Changeover) : Handed base (State.targetLost s t c) := by
  unfold State.targetLost
  try dsimp only
  repeat' first | with_reducible assumption | with_reducible apply State.abandonChange_handed | split | intro _ | refine State.switchInPlace_handed ?_ (by assumption) | with_reducible apply State.replanAlternate_handed | rfl | contradiction | (rename_i k; split at k)

@[simp] theorem State.takeOver_handed (h : Handed base s) (t : Nat) : Handed base (State.takeOver s t) := by
  unfold State.takeOver
  try dsimp only
  repeat' first | with_reducible assumption | with_reducible apply State.updateDuty_handed | with_reducible apply State.recordOutcome_handed | split | intro _ | rfl

@[simp] theorem State.beginKind_handed (h : Handed base s) (t : Nat) (c : Changeover) : Handed base (State.beginKind s t c) := by
  unfold State.beginKind
  try dsimp only
  repeat' first | with_reducible assumption | with_reducible apply Handed.setChange | with_reducible apply State.offerOrder_handed | with_reducible apply State.updateDuty_handed | with_reducible apply State.offerRfOff_handed | with_reducible apply State.offerPower_handed | with_reducible apply State.endEntry_handed | with_reducible apply State.beginRouting_handed | with_reducible apply State.takeOver_handed | split | intro _ | rfl

@[simp] theorem State.beginChange_handed (h : Handed base s) (t : Nat) (c : Changeover) (now : Nat) : Handed base (State.beginChange s t c now) := by
  unfold State.beginChange
  try dsimp only
  repeat' first | with_reducible assumption | with_reducible apply Handed.postOnce | with_reducible apply State.abandonChange_handed | with_reducible apply State.endEntry_handed | with_reducible apply State.takeOver_handed | with_reducible apply State.beginKind_handed | split | intro _ | refine State.switchInPlace_handed ?_ (by assumption) | rfl | contradiction | (rename_i k; split at k)

@[simp] theorem State.beginStepAt_handed (h : Handed base s) (t now : Nat) : Handed base (State.beginStepAt s t now) := by
  unfold State.beginStepAt
  try dsimp only
  repeat' first | with_reducible assumption | with_reducible apply State.beginChange_handed | split | intro _ | rfl

@[simp] theorem State.changeDone_handed (h : Handed base s) (t : Nat) (c : Changeover) : Handed base (State.changeDone s t c) := by
  unfold State.changeDone
  try dsimp only
  repeat' first | with_reducible assumption | with_reducible apply Handed.setChange | with_reducible apply State.updateDuty_handed | with_reducible apply State.recordOutcome_handed | split | intro _ | rfl

@[simp] theorem State.orderTune_handed (h : Handed base s) (t : Nat) (c : Changeover) : Handed base (State.orderTune s t c) := by
  unfold State.orderTune
  try dsimp only
  repeat' first | with_reducible assumption | with_reducible apply Handed.setChange | with_reducible apply State.offerOrder_handed | split | intro _ | rfl

theorem State.leaveRouting_handed (h : Handed base s) {t : Nat} {c : Changeover} {w : State} (hu : State.leaveRouting s t c = some w) : Handed base w := by
  unfold State.leaveRouting at hu
  try dsimp only at hu
  repeat' first | split at hu | cases hu
  all_goals repeat' first | with_reducible assumption | with_reducible apply Handed.setChange | with_reducible apply State.orderTune_handed | split | intro _ | rfl | contradiction | (rename_i k; split at k)

@[simp] theorem State.beginRampUp_handed (h : Handed base s) (t : Nat) (c : Changeover) : Handed base (State.beginRampUp s t c) := by
  unfold State.beginRampUp
  try dsimp only
  repeat' first | with_reducible assumption | with_reducible apply Handed.setChange | with_reducible apply State.offerRfOn_handed | with_reducible apply State.abandonChange_handed | split | intro _ | rfl

theorem State.changeStep_handed (h : Handed base s) {t : Nat} {c : Changeover} {w : State} (hu : State.changeStep s t c = some w) : Handed base w := by
  unfold State.changeStep at hu
  try dsimp only at hu
  repeat' first | split at hu | cases hu
  all_goals repeat' first | with_reducible assumption | with_reducible apply Handed.setChange | with_reducible apply State.abandonChange_handed | with_reducible apply State.beginRouting_handed | with_reducible apply State.targetLost_handed | with_reducible apply State.changeDone_handed | with_reducible apply State.orderTune_handed | with_reducible apply State.beginRampUp_handed | split | intro _ | refine State.abandonedStep_handed ?_ (by assumption) | refine State.leaveRouting_handed ?_ (by assumption) | rfl | contradiction | (rename_i k; split at k)

@[simp] theorem State.executorProgress_handed (h : Handed base s) (t : Nat) : Handed base (State.executorProgress s t) := by
  unfold State.executorProgress
  try dsimp only
  repeat' first | with_reducible assumption | with_reducible apply Handed.postOnce | split | intro _ | refine State.settleStep_handed ?_ (by assumption) | refine State.entryStep_handed ?_ (by assumption) | refine State.changeStep_handed ?_ (by assumption) | rfl | contradiction | (rename_i k; split at k)

@[simp] theorem State.seamlessOrder_handed (h : Handed base s) (t : Nat) (c : Changeover) (kind : OrderKind) (owner : OrderOwner) (e : OrderEnd) : Handed base (State.seamlessOrder s t c kind owner e) := by
  unfold State.seamlessOrder
  try dsimp only
  repeat' first | with_reducible assumption | with_reducible apply Handed.postOnce | with_reducible apply Handed.setChange | with_reducible apply State.offerOrder_handed | with_reducible apply State.offerPower_handed | with_reducible apply State.abandonChange_handed | split | intro _ | rfl

@[simp] theorem State.tuneOrder_handed (h : Handed base s) (t : Nat) (c : Changeover) (e : OrderEnd) : Handed base (State.tuneOrder s t c e) := by
  unfold State.tuneOrder
  try dsimp only
  repeat' first | with_reducible assumption | with_reducible apply Handed.postOnce | with_reducible apply Handed.setChange | split | intro _ | rfl

@[simp] theorem State.orderOutcome_handed (h : Handed base s) (t : Nat) (kind : OrderKind) (owner : OrderOwner) (e : OrderEnd) : Handed base (State.orderOutcome s t kind owner e) := by
  unfold State.orderOutcome
  try dsimp only
  repeat' first | with_reducible assumption | with_reducible apply State.seamlessOrder_handed | with_reducible apply State.tuneOrder_handed | split | intro _ | rfl

@[simp] theorem State.preUseOutcome_handed (h : Handed base s) (t a : Nat) (passed : Option Bool) : Handed base (State.preUseOutcome s t a passed) := by
  unfold State.preUseOutcome
  try dsimp only
  repeat' first | with_reducible assumption | with_reducible apply Handed.postOnce | with_reducible apply State.orderClose_handed | with_reducible apply State.targetLost_handed | split | intro _ | rfl

@[simp] theorem State.routeBound_handed (h : Handed base s) (t : Nat) : Handed base (State.routeBound s t) := by
  unfold State.routeBound
  try dsimp only
  repeat' first | with_reducible assumption | with_reducible apply State.abandonChange_handed | split | intro _ | refine State.switchInPlace_handed ?_ (by assumption) | rfl | contradiction | (rename_i k; split at k)

@[simp] theorem State.endStepAt_handed (h : Handed base s) (t now : Nat) : Handed base (State.endStepAt s t now) := by
  unfold State.endStepAt
  try dsimp only
  repeat' first | with_reducible assumption | with_reducible apply State.endEntry_handed | with_reducible apply State.settle_handed | split | intro _ | rfl

@[simp] theorem State.heldStepAt_handed (h : Handed base s) (t now : Nat) : Handed base (State.heldStepAt s t now) := by
  unfold State.heldStepAt
  try dsimp only
  repeat' first | with_reducible assumption | with_reducible apply State.releaseHeld_handed | split | intro _ | rfl

@[simp] theorem State.transmitterWork_handed (h : Handed base s) (now t : Nat) (second : Bool) : Handed base (State.transmitterWork s now t second) := by
  unfold State.transmitterWork
  try dsimp only
  repeat' first | with_reducible assumption | with_reducible apply Handed.postOnce | with_reducible apply State.planStep_handed | with_reducible apply State.beginStepAt_handed | with_reducible apply State.routeBound_handed | with_reducible apply State.endStepAt_handed | with_reducible apply State.heldStepAt_handed | split | intro _ | rfl

@[simp] theorem State.transmitterPass_handed (h : Handed base s) (now t : Nat) (second : Bool) : Handed base (State.transmitterPass s now t second) := by
  unfold State.transmitterPass
  try dsimp only
  repeat' first | with_reducible assumption | with_reducible apply State.askRead_handed | with_reducible apply State.transmitterWork_handed | split | intro _ | rfl

@[simp] theorem State.seasonCheck_handed (h : Handed base s) (now : Nat) : Handed base (State.seasonCheck s now) := by
  unfold State.seasonCheck
  try dsimp only
  repeat' first | with_reducible assumption | with_reducible apply Handed.alert | with_reducible apply State.dropPlans_handed | split | intro _ | with_reducible refine Handed.withExecutor (s := _) ?_ ?_ | rfl

@[simp] theorem State.pruneSkip_handed (h : Handed base s) (now : Nat) : Handed base (State.pruneSkip s now) := by
  unfold State.pruneSkip
  try dsimp only
  repeat' first | with_reducible assumption | split | intro _ | with_reducible refine Handed.withExecutor (s := _) ?_ ?_ | rfl

@[simp] theorem State.executorPass_handed (h : Handed base s) (now : Nat) (second : Bool) : Handed base (State.executorPass s now second) := by
  unfold State.executorPass
  try dsimp only
  repeat' first | with_reducible assumption | with_reducible apply State.transmitterPass_handed | with_reducible apply State.seasonCheck_handed | with_reducible apply State.pruneSkip_handed | with_reducible apply Handed.foldl | with_reducible apply Handed.foldl_fst | split | intro _ | rfl

@[simp] theorem State.doWork_handed (h : Handed base s) (w : ExecWork) : Handed base (State.doWork s w) := by
  unfold State.doWork
  try dsimp only
  repeat' first | with_reducible assumption | with_reducible apply Handed.postOnce | with_reducible apply State.settleRoute_handed | with_reducible apply State.transmitterWork_handed | with_reducible apply State.settle_handed | split | intro _ | rfl

@[simp] theorem State.executorServed_handed (h : Handed base s)  : Handed base (State.executorServed s) := by
  unfold State.executorServed
  try dsimp only
  repeat' first | with_reducible assumption | with_reducible apply State.doWork_handed | with_reducible apply Handed.foldl | with_reducible apply Handed.foldl_fst | split | intro _ | with_reducible refine Handed.withExecutor (s := _) ?_ ?_ | rfl

@[simp] theorem State.largeStep_handed (h : Handed base s)  : Handed base (State.largeStep s) := by
  unfold State.largeStep
  try dsimp only
  repeat' first | with_reducible assumption | with_reducible apply Handed.alert | with_reducible apply State.dropPlans_handed | split | intro _ | with_reducible refine Handed.withExecutor (s := _) ?_ ?_ | rfl

@[simp] theorem State.secondEvent_handed (h : Handed base s) (instant : Nat) (x : TimeStep) : Handed base (State.secondEvent s instant x) := by
  unfold State.secondEvent
  try dsimp only
  repeat' first | with_reducible assumption | with_reducible apply Handed.post | with_reducible apply State.handoversDue_handed | with_reducible apply State.executorPass_handed | with_reducible apply State.largeStep_handed | split | intro _ | rfl

@[simp] theorem State.cutEntry_handed (h : Handed base s) (instant t : Nat) : Handed base (State.cutEntry s instant t) := by
  unfold State.cutEntry
  try dsimp only
  repeat' first | with_reducible assumption | with_reducible apply Handed.setChange | with_reducible apply State.updateDuty_handed | split | intro _ | rfl

@[simp] theorem State.cutEntries_handed (h : Handed base s) (instant : Nat) : Handed base (State.cutEntries s instant) := by
  unfold State.cutEntries
  try dsimp only
  repeat' first | with_reducible assumption | with_reducible apply State.dropPlans_handed | with_reducible apply State.cutEntry_handed | with_reducible apply Handed.foldl | with_reducible apply Handed.foldl_fst | split | intro _ | rfl

@[simp] theorem State.newSeason_handed (h : Handed base s)  : Handed base (State.newSeason s) := by
  unfold State.newSeason
  try dsimp only
  repeat' first | with_reducible assumption | split | intro _ | with_reducible refine Handed.withExecutor (s := _) ?_ ?_ | rfl

@[simp] theorem State.handoverNotice_handed (h : Handed base s) (instant : Nat) : Handed base (State.handoverNotice s instant) := by
  unfold State.handoverNotice
  try dsimp only
  repeat' first | with_reducible assumption | with_reducible apply State.executorPass_handed | with_reducible apply State.cutEntries_handed | with_reducible apply State.newSeason_handed | split | intro _ | rfl

@[simp] theorem State.rebuildHandled_handed (h : Handed base s)  : Handed base (State.rebuildHandled s) := by
  unfold State.rebuildHandled
  try dsimp only
  repeat' first | with_reducible assumption | with_reducible apply State.updateDuty_handed | with_reducible apply Handed.foldl | with_reducible apply Handed.foldl_fst | split | intro _ | rfl

@[simp] theorem State.dropExpired_handed (h : Handed base s) (now t : Nat) : Handed base (State.dropExpired s now t) := by
  unfold State.dropExpired
  try dsimp only
  repeat' first | with_reducible assumption | with_reducible apply State.recordOutcome_handed | with_reducible apply State.dropPlan_handed | split | intro _ | rfl

@[simp] theorem State.beginDue_handed (h : Handed base s) (now t : Nat) : Handed base (State.beginDue s now t) := by
  unfold State.beginDue
  try dsimp only
  repeat' first | with_reducible assumption | with_reducible apply State.beginChange_handed | split | intro _ | rfl

@[simp] theorem State.releasePlans_handed (h : Handed base s) (now : Nat) : Handed base (State.releasePlans s now) := by
  unfold State.releasePlans
  try dsimp only
  repeat' first | with_reducible assumption | with_reducible apply State.dropExpired_handed | with_reducible apply State.beginDue_handed | with_reducible apply Handed.foldl | with_reducible apply Handed.foldl_fst | split | intro _ | rfl

@[simp] theorem State.skipNamed_handed (h : Handed base s) (t entryId day : Nat) : Handed base (State.skipNamed s t entryId day) := by
  unfold State.skipNamed
  try dsimp only
  repeat' first | with_reducible assumption | with_reducible apply State.updateDuty_handed | with_reducible apply State.recordOutcome_handed | with_reducible apply State.dropSkip_handed | with_reducible apply State.dropPlan_handed | split | intro _ | with_reducible refine Handed.withExecutor (s := _) ?_ ?_ | rfl

end Sys2Proof.Machine
end

