-- ==== Sys2Proof/Laws/HandedEngine.lean ====
section
/-! SUPPORT. The settling of the notices (R206) and a reply that waited keep `Handed`: what one command's hand-overs can do, said once. -/

namespace Sys2Proof.Machine

open Sys2Proof

variable {base s : State}

set_option linter.all false

@[simp] theorem State.readSaveSector_handed (h : Handed base s) (sector : Nat) : Handed base (State.readSaveSector s sector) := by
  unfold State.readSaveSector
  try dsimp only
  repeat' first | with_reducible assumption | with_reducible apply State.requestRead_handed | split | intro _ | rfl

theorem State.answer_handed (h : Handed base s) (hs : s.lc.held.isSome = true) (kind : Nat) (status : Status) (body : List Byte) :
    Handed base (s.answer kind status body) :=
  ⟨h.kept, h.alerts, h.faults, fun hb => by simp [(h.reply hb).2] at hs⟩

theorem State.answer_handed' {u : State} (h : Handed base u) (hb : base.lc.held ≠ none) (kind : Nat) (status : Status) (body : List Byte) :
    Handed base (u.answer kind status body) :=
  ⟨h.kept, h.alerts, h.faults, fun he => absurd he hb⟩

/-- A served read is handed to its reader; a host reader is answered only while its request is being handled (R39). -/
@[simp] theorem State.readerServed_handed (h : Handed base s) (r : Reader) : Handed base (State.readerServed s r) := by
  have hn : s.lc.held.isSome = true → base.lc.held ≠ none := fun hs hb => by simp [(h.reply hb).2] at hs
  unfold State.readerServed
  split
  · exact State.verifierServed_handed h
  · exact State.restoreServed_handed h
  · split
    · next hs => exact State.answer_handed h hs _ _ _
    · exact h
  · split
    · next hs =>
      unfold State.entryReadServed
      split <;> exact State.answer_handed h hs _ _ _
    · exact h
  · split
    · next hs =>
      unfold State.presetSaveServed
      split
      · exact State.answer_handed h hs _ _ _
      · split
        · exact State.readSaveSector_handed h _
        · exact State.answer_handed' (State.offerPages_handed (Handed.withCache (x := { s.pc with save := some { next := 0, done := 0 } }) h rfl rfl rfl rfl) _) (hn hs) _ _ _
    · exact h
  · exact State.executorServed_handed h
  · split
    · next hs =>
      unfold State.occurrenceSkipServed State.handle
      split
      · exact State.answer_handed h hs _ _ _
      · exact State.answer_handed' (State.skipNamed_handed h _ _ _) (hn hs) _ _ _
    · exact h

@[simp] theorem State.clientTold_handed (h : Handed base s) (kind : ItemKind) (failure : Option FailCause) : Handed base (State.clientTold s kind failure) := by
  unfold State.clientTold
  try dsimp only
  repeat' first | with_reducible assumption | with_reducible apply State.savePageEnded_handed | with_reducible apply State.loadPageEnded_handed | with_reducible apply State.bookEraseEnded_handed | with_reducible apply State.markEnded_handed | split | intro _ | rfl

@[simp] theorem State.askExecutor_handed (h : Handed base s)  : Handed base (State.askExecutor s) := by
  unfold State.askExecutor
  try dsimp only
  repeat' first | with_reducible assumption | with_reducible apply Handed.postOnce | with_reducible apply Handed.foldl | with_reducible apply Handed.foldl_fst | split | intro _ | rfl

@[simp] theorem State.reservationNotice_handed (h : Handed base s) (a t : Nat) : Handed base (State.reservationNotice s a t) := by
  unfold State.reservationNotice
  try dsimp only
  repeat' first | with_reducible assumption | with_reducible apply State.releaseHeld_handed | with_reducible apply Handed.foldl | with_reducible apply Handed.foldl_fst | split | intro _ | rfl

@[simp] theorem State.handleNotice_handed (h : Handed base s) (n : Notice) : Handed base (State.handleNotice s n) := by
  unfold State.handleNotice
  try dsimp only
  repeat' first | with_reducible assumption | with_reducible apply Handed.postOnce | with_reducible apply State.resume_handed | with_reducible apply State.offerAgain_handed | with_reducible apply State.arbitrate_handed | with_reducible apply State.matrixChanged_handed | with_reducible apply State.surveyProgress_handed | with_reducible apply State.permitsChanged_handed | with_reducible apply State.trySend_handed | with_reducible apply State.recoveryWaitTest_handed | with_reducible apply State.dropNotice_handed | with_reducible apply State.arcCounted_handed | with_reducible apply State.diagProgress_handed | with_reducible apply State.claimLost_handed | with_reducible apply State.executorProgress_handed | with_reducible apply State.orderOutcome_handed | with_reducible apply State.preUseOutcome_handed | with_reducible apply State.executorPass_handed | with_reducible apply State.secondEvent_handed | with_reducible apply State.handoverNotice_handed | with_reducible apply State.readerServed_handed | with_reducible apply State.clientTold_handed | with_reducible apply State.askExecutor_handed | with_reducible apply State.reservationNotice_handed | split | intro _ | rfl

@[simp] theorem State.settle_handed (h : Handed base s)  (n : Nat) : Handed base (State.settle  n s) := by
  induction n generalizing s with
  | zero => exact h
  | succ n ih =>
    unfold State.settle
    try dsimp only
    repeat' first | with_reducible assumption | with_reducible apply State.handleNotice_handed | apply ih | split | intro _ | with_reducible refine Handed.withNotices (s := _) ?_ _ | rfl

@[simp] theorem State.settled_handed (h : Handed base s)  : Handed base (State.settled s) := by
  unfold State.settled
  try dsimp only
  repeat' first | with_reducible assumption | with_reducible apply State.settle_handed | split | intro _ | rfl

end Sys2Proof.Machine
end

