-- ==== Sys2Proof/Laws/Engine.lean ====
section
/-! SUPPORT. What carrying a command to its end can do: a request in a ready state is handled at once (R207), the first failing
check refuses it (R208), and the hand-overs that follow keep what `State.settled_handed` says. -/

namespace Sys2Proof.Machine

open Sys2Proof

theorem State.received_ready {s : State} (h : s.ready) : s.received.lc.held = none := h.2.1

/-- A request in a ready state is handled at once. -/
theorem hostRequest_ready {c : Instr} {f : State → State} {s : State} (h : s.ready) : hostRequest c f s = .next (f s.received) := by
  obtain ⟨h1, h2, h3⟩ := h
  simp [hostRequest, h1, h2, h3, State.received]

/-- A request that cannot be handled yet goes to the buffer. -/
theorem hostRequest_waits {c : Instr} {f : State → State} {s : State} (h : s.lc.serving = false)
    (hw : s.lc.held ≠ none ∨ s.lc.waiting ≠ []) : hostRequest c f s = .next (s.frameArrives (.request c)) := by
  unfold hostRequest
  rw [if_neg (by simp [h]), if_neg]
  rintro hc
  simp at hc
  rcases hw with hw | hw
  · exact hw hc.1
  · exact hw hc.2

theorem State.handle_refused {s : State} {k : Nat} {checks : List (Bool × Status)} {f : State → State} {c : Bool × Status}
    (h : checks.find? (fun c => c.1) = some c) : s.handle k checks f = s.answer k c.2 [] := by
  simp [State.handle, h]

theorem State.handle_accepted {s : State} {k : Nat} {checks : List (Bool × Status)} {f : State → State}
    (h : checks.find? (fun c => c.1) = none) : s.handle k checks f = f s := by
  simp [State.handle, h]

/-- With nothing to hand over, nothing follows. -/
theorem State.settled_quiet {s : State} (h : s.notices = []) : s.settled = s := by
  simp [State.settled, settleFuel, State.settle, h]

section
variable (s : State)

theorem State.settled_self : Handed s s.settled := State.settled_handed (Handed.refl s)

@[simp] theorem State.settled_pending : s.settled.pending = s.pending := congrArg Kept.pending s.settled_self.kept
@[simp] theorem State.settled_clock : s.settled.clock = s.clock := congrArg Kept.clock s.settled_self.kept
@[simp] theorem State.settled_straps : s.settled.straps = s.straps := congrArg Kept.straps s.settled_self.kept
@[simp] theorem State.settled_freeCount : s.settled.freeCount = s.freeCount := congrArg Kept.freeCount s.settled_self.kept
@[simp] theorem State.settled_ht : s.settled.ht = s.ht := congrArg Kept.ht s.settled_self.kept
@[simp] theorem State.settled_tb : s.settled.tb = s.tb := congrArg Kept.tb s.settled_self.kept
@[simp] theorem State.settled_array : s.settled.ss.array = s.ss.array := congrArg Kept.array s.settled_self.kept
@[simp] theorem State.settled_inputs : s.settled.pu.inputs = s.pu.inputs := congrArg Kept.inputs s.settled_self.kept
@[simp] theorem State.settled_arcHolds : s.settled.pu.arcHolds = s.pu.arcHolds := congrArg Kept.arcHolds s.settled_self.kept
@[simp] theorem State.settled_resetAlertAt : s.settled.pu.resetAlertAt = s.pu.resetAlertAt :=
  congrArg Kept.resetAlertAt s.settled_self.kept
@[simp] theorem State.settled_settings : s.settled.pt.settings = s.pt.settings := congrArg Kept.settings s.settled_self.kept
@[simp] theorem State.settled_windows : s.settled.pc.windows = s.pc.windows := congrArg Kept.windows s.settled_self.kept
@[simp] theorem State.settled_frozen : s.settled.pc.frozen = s.pc.frozen := congrArg Kept.frozen s.settled_self.kept
@[simp] theorem State.settled_lasting : s.settled.lc.lasting = s.lc.lasting := congrArg Kept.lc s.settled_self.kept
@[simp] theorem State.settled_sizes : s.settled.sizes = s.sizes := congrArg Kept.sizes s.settled_self.kept

end

/-- No reply is sent while no request is being handled. -/
theorem State.settled_reply {s : State} (h : s.lc.held = none) : s.settled.lc.reply = s.lc.reply ∧ s.settled.lc.held = none :=
  s.settled_self.reply h

end Sys2Proof.Machine
end

