-- ==== Sys2Proof/Laws/Config.lean ====
section
/-! SUPPORT. What a configuration record that can be read holds (1.5, R13, R14), and its tables cut to its counts (R4). -/

namespace Sys2Proof.Machine

open Sys2Proof

/-- A reading of two parts is the reading of the first and then of the second. -/
theorem Rd.bind_some {α β : Type} {x : Rd α} {f : α → Rd β} {bs : List Byte} {y : β × List Byte} (h : (x >>= f) bs = some y) :
    ∃ a rest, x bs = some (a, rest) ∧ f a rest = some y := by
  obtain ⟨p, hp, hf⟩ := Option.bind_eq_some_iff.mp (show (x bs).bind (fun p => f p.1 p.2) = some y from by rw [← h]; cases hx : x bs <;> simp [bind, StateT.bind, hx])
  exact ⟨p.1, p.2, hp, hf⟩

/-- Reading `n` items gives `n` items. -/
theorem rdList_length {α : Type} {r : Rd α} : ∀ {n : Nat} {bs rest : List Byte} {xs : List α},
    rdList n r bs = some (xs, rest) → xs.length = n := by
  intro n
  induction n with
  | zero =>
    intro bs rest xs h
    cases h
    rfl
  | succ n ih =>
    intro bs rest xs h
    obtain ⟨x, b1, -, h⟩ := Rd.bind_some h
    obtain ⟨ys, b2, h2, h⟩ := Rd.bind_some h
    cases h
    simp [ih h2]

/-- The tables of a configuration record that has been read. -/
theorem rdConfigRecord_lengths {bs rest : List Byte} {c : ConfigRecord} (h : rdConfigRecord bs = some (c, rest)) :
    c.txs.length = 12 ∧ c.ants.length = 24 ∧ c.inputs.length = 8 ∧ c.windows.length = 4 := by
  obtain ⟨f, b1, -, h⟩ := Rd.bind_some h
  split at h
  · obtain ⟨_, _, hf, -⟩ := Rd.bind_some h
    cases hf
  · obtain ⟨p, b2, -, h⟩ := Rd.bind_some h
    obtain ⟨txs, b3, h3, h⟩ := Rd.bind_some h
    obtain ⟨ants, b4, h4, h⟩ := Rd.bind_some h
    obtain ⟨st, b5, -, h⟩ := Rd.bind_some h
    obtain ⟨ins, b6, h6, h⟩ := Rd.bind_some h
    obtain ⟨ws, b7, h7, h⟩ := Rd.bind_some h
    cases h
    simp [rdList_length h3, rdList_length h4, rdList_length h6, rdList_length h7]

/-- A record that can be read defines 12 transmitter slots, 24 antenna slots, 8 safety inputs and 4 windows. -/
theorem readConfig_lengths {m : List Host.Cell} {source : Source} {c : ConfigRecord} (h : readConfig m = (source, some c)) :
    c.txs.length = 12 ∧ c.ants.length = 24 ∧ c.inputs.length = 8 ∧ c.windows.length = 4 := by
  unfold readConfig at h
  split at h
  · cases h
  · split at h
    · next d hd =>
      cases h
      unfold checkedRecord at hd
      split at hd
      · next x rest hx =>
        dsimp only at hd
        split at hd
        · cases hd
          exact rdConfigRecord_lengths hx
        · cases hd
      · cases hd
    · cases h

/-- A slot of a table cut to a count. -/
theorem nth_cutAbove {α : Type} (count : Nat) (xs : List (Option α)) (n : Nat) :
    nth (cutAbove count xs) none n = if n ≤ count then nth xs none n else none := by
  unfold nth cutAbove
  by_cases h : n = 0
  · simp [h]
  · have e : n - 1 < count ↔ n ≤ count := by omega
    simp only [h, if_false, List.getD_eq_getElem?_getD, List.getElem?_map, List.getElem?_zipIdx]
    cases xs[n - 1]? with
    | none => simp
    | some v => simp [e]

end Sys2Proof.Machine
end

