-- ==== Sys2Proof/Laws/Link.lean ====
section
/-! SUPPORT. What the host receiver can do with octets (R206): it changes the Link Controller alone, and inside a frame an octet is a
bad LEN, the last of the frame or one more octet taken. -/

namespace Sys2Proof.Machine

open Sys2Proof

/-- A frame that is complete changes the Link Controller alone (R207). -/
theorem State.frameArrives_link (s : State) (f : WaitingFrame) : ∃ l, s.frameArrives f = { s with lc := l } := by
  unfold State.frameArrives
  split
  · exact ⟨_, rfl⟩
  · exact ⟨_, rfl⟩

/-- So does an octet. -/
theorem State.takeHostOctet_link (s : State) (o : LineOctet) : ∃ l, s.takeHostOctet o = { s with lc := l } := by
  unfold State.takeHostOctet State.hostEvent
  dsimp only
  split
  · exact ⟨_, rfl⟩
  · exact ⟨_, rfl⟩
  · exact ⟨_, rfl⟩
  · exact s.frameArrives_link _

/-- So do several octets. -/
theorem State.takeHostOctets_link (os : List LineOctet) : ∀ s : State, ∃ l, os.foldl State.takeHostOctet s = { s with lc := l } := by
  induction os with
  | nil => exact fun s => ⟨s.lc, rfl⟩
  | cons o os ih =>
    intro s
    obtain ⟨l, hl⟩ := s.takeHostOctet_link o
    obtain ⟨k, hk⟩ := ih (s.takeHostOctet o)
    exact ⟨k, by rw [List.foldl_cons, hk, hl]⟩

section
variable {s : State} {octets : List Byte} {m : Nat} {d : Option Nat} {b : Byte}

/-- A LEN of 0 or above 250. -/
theorem State.takeHostOctet_badLength {x : Byte} (h : s.lc.receiver = .taking [x] m d) (hb : b = 0 ∨ 250 < b.toNat) :
    s.takeHostOctet (.value b) = s.discardFrame .badLength := by
  have hc : ([x] ++ [b]).length = 2 ∧ (b = 0 ∨ 250 < b.toNat) := ⟨rfl, hb⟩
  simp only [State.takeHostOctet, HostReceiver.take, h]
  rw [if_pos hc]
  rfl

/-- One more octet of a frame that is not yet complete. -/
theorem State.takeHostOctet_more (h : s.lc.receiver = .taking octets m d) (hb : octets.length = 1 → ¬(b = 0 ∨ 250 < b.toNat))
    (hl : octets.length + 1 < octetAt (octets ++ [b]) 1 + 4) :
    s.takeHostOctet (.value b) = { s with lc := { s.lc with receiver := .taking (octets ++ [b]) m d } } := by
  have hc : ¬((octets ++ [b]).length = 2 ∧ (b = 0 ∨ 250 < b.toNat)) := fun c => hb (by simpa using c.1) c.2
  have hd : ¬octetAt (octets ++ [b]) 1 + 4 ≤ (octets ++ [b]).length := by simp only [List.length_append, List.length_singleton]; omega
  simp only [State.takeHostOctet, HostReceiver.take, h]
  rw [if_neg hc, if_neg hd]
  rfl

/-- The last CRC octet of a frame. -/
theorem State.takeHostOctet_last (h : s.lc.receiver = .taking octets m d) (hb : octets.length ≠ 1)
    (hl : octetAt (octets ++ [b]) 1 + 4 ≤ octets.length + 1) :
    s.takeHostOctet (.value b) = s.hostEvent .hunt (checkHostFrame (octets ++ [b])) := by
  have hc : ¬((octets ++ [b]).length = 2 ∧ (b = 0 ∨ 250 < b.toNat)) := fun c => hb (by simpa using c.1)
  have hd : octetAt (octets ++ [b]) 1 + 4 ≤ (octets ++ [b]).length := by simpa using hl
  simp only [State.takeHostOctet, HostReceiver.take, h]
  rw [if_neg hc, if_pos hd]

end

end Sys2Proof.Machine
end

