-- ==== Sys2Proof/Laws/Memory.lean ====
section
/-! SUPPORT. The array of the season store: reads after writes, and every operation keeps its canonical form. -/

namespace Sys2Proof.Machine

open Sys2Proof

/-! ## The canonical form, cell by cell -/

/-- A canonical array: rising addresses, no cell that reads as an unlisted one. -/
theorem memWf_iff (m : List Host.Cell) :
    memWf m = true ↔ m.Pairwise (fun c d => c.1 < d.1) ∧ ∀ c ∈ m, c.2 ≠ 0xFF := by
  simp [memWf]

@[simp] theorem memWf_nil : memWf [] = true := by decide

theorem memWf_cons (c : Host.Cell) (m : List Host.Cell) :
    memWf (c :: m) = true ↔ (∀ d ∈ m, c.1 < d.1) ∧ c.2 ≠ 0xFF ∧ memWf m = true := by
  simp only [memWf_iff, List.pairwise_cons, List.mem_cons, forall_eq_or_imp]
  tauto

/-- A write lists no address that was not listed, but the one written. -/
theorem memWrite_addresses (m : List Host.Cell) (x : Nat) (v : Byte) (c : Host.Cell) (h : c ∈ memWrite m x v) :
    c.1 = x ∨ c ∈ m := by
  induction m with
  | nil =>
    unfold memWrite at h
    split at h
    · cases h
    · left
      simp at h
      rw [h]
  | cons d m ih =>
    obtain ⟨a, w⟩ := d
    unfold memWrite at h
    split at h
    · split at h
      · exact .inr h
      · simp only [List.mem_cons] at h ⊢
        rcases h with h | h
        · left
          rw [h]
        · exact .inr h
    · split at h
      · split at h
        · exact .inr (List.mem_cons_of_mem _ h)
        · simp only [List.mem_cons] at h ⊢
          rcases h with h | h
          · left
            rw [h]
          · exact .inr (.inr h)
      · simp only [List.mem_cons] at h ⊢
        rcases h with h | h
        · exact .inr (.inl h)
        · rcases ih h with h | h
          · exact .inl h
          · exact .inr (.inr h)

/-- One write keeps the canonical form. -/
theorem memWrite_wf (m : List Host.Cell) (x : Nat) (v : Byte) (h : memWf m = true) : memWf (memWrite m x v) = true := by
  induction m with
  | nil =>
    unfold memWrite
    split
    · rfl
    · next hv => exact (memWf_cons _ _).mpr ⟨by simp, hv, rfl⟩
  | cons d m ih =>
    obtain ⟨a, w⟩ := d
    obtain ⟨hlt, hne, hm⟩ := (memWf_cons _ _).mp h
    unfold memWrite
    split
    · next hx =>
      split
      · exact h
      · next hv =>
        refine (memWf_cons _ _).mpr ⟨?_, hv, h⟩
        intro d hd
        rcases List.mem_cons.mp hd with rfl | hd
        · exact hx
        · exact Nat.lt_trans hx (hlt d hd)
    · split
      · next hx =>
        split
        · exact hm
        · next hv => exact (memWf_cons _ _).mpr ⟨fun d hd => by simpa [hx] using hlt d hd, hv, hm⟩
      · next h1 h2 =>
        refine (memWf_cons _ _).mpr ⟨?_, hne, ih hm⟩
        intro d hd
        rcases memWrite_addresses m x v d hd with h | h
        · simp only [h]
          omega
        · exact hlt d h

/-- A run of writes keeps the canonical form. -/
theorem memWriteAll_wf (vs : List Byte) : ∀ (m : List Host.Cell) (x : Nat), memWf m = true → memWf (memWriteAll m x vs) = true := by
  induction vs with
  | nil => exact fun m x h => h
  | cons v vs ih => exact fun m x h => ih _ _ (memWrite_wf m x v h)

/-- A sector erase keeps the canonical form. -/
theorem memErase_wf (m : List Host.Cell) (k : Nat) (h : memWf m = true) : memWf (memErase m k) = true := by
  obtain ⟨h1, h2⟩ := (memWf_iff m).mp h
  exact (memWf_iff _).mpr ⟨h1.filter _, fun c hc => h2 c (List.mem_filter.mp hc).1⟩

/-! ## Reading -/

/-- An address below every listed one reads as erased. -/
theorem memRead_below (m : List Host.Cell) (x : Nat) (h : ∀ c ∈ m, x < c.1) : memRead m x = 0xFF := by
  induction m with
  | nil => rfl
  | cons c m ih =>
    have hc : c.1 ≠ x := by
      have := h c (by simp)
      omega
    unfold memRead
    rw [if_neg hc]
    exact ih fun d hd => h d (List.mem_cons_of_mem _ hd)

/-- What was written is read. -/
theorem memRead_memWrite_self (m : List Host.Cell) (x : Nat) (v : Byte) (h : memWf m = true) : memRead (memWrite m x v) x = v := by
  induction m with
  | nil =>
    unfold memWrite
    split
    · next hv => rw [hv]; rfl
    · simp [memRead]
  | cons d m ih =>
    obtain ⟨a, w⟩ := d
    obtain ⟨hlt, hne, hm⟩ := (memWf_cons _ _).mp h
    unfold memWrite
    split
    · next hx =>
      split
      · next hv =>
        rw [hv]
        refine memRead_below _ _ fun c hc => ?_
        rcases List.mem_cons.mp hc with rfl | hc
        · exact hx
        · exact Nat.lt_trans hx (hlt c hc)
      · simp [memRead]
    · split
      · next hx =>
        split
        · next hv =>
          rw [hv]
          exact memRead_below _ _ fun c hc => by simpa [hx] using hlt c hc
        · simp [memRead]
      · next h2 =>
        have : ¬ a = x := fun e => h2 e.symm
        simp [memRead, this, ih hm]

/-- Every other address reads as before. -/
theorem memRead_memWrite_ne (m : List Host.Cell) (x y : Nat) (v : Byte) (h : y ≠ x) : memRead (memWrite m x v) y = memRead m y := by
  have h' : ¬ x = y := fun e => h e.symm
  induction m with
  | nil =>
    unfold memWrite
    split <;> simp [memRead, h']
  | cons d m ih =>
    obtain ⟨a, w⟩ := d
    unfold memWrite
    split
    · split <;> simp [memRead, h']
    · split
      · next hx =>
        have ha : ¬ a = y := fun e => h' (hx.trans e)
        split <;> simp [memRead, h', ha]
      · simp only [memRead]
        split
        · rfl
        · exact ih

/-- Addresses outside a run of writes read as before. -/
theorem memRead_memWriteAll_outside (vs : List Byte) :
    ∀ (m : List Host.Cell) (x y : Nat), (y < x ∨ x + vs.length ≤ y) → memRead (memWriteAll m x vs) y = memRead m y := by
  induction vs with
  | nil => exact fun m x y _ => rfl
  | cons v vs ih =>
    intro m x y h
    simp only [List.length_cons] at h
    have hy : y ≠ x := by omega
    rw [memWriteAll, ih _ _ _ (by omega), memRead_memWrite_ne m x y v hy]

/-- Addresses inside a run of writes read what was written. -/
theorem memRead_memWriteAll_inside (vs : List Byte) :
    ∀ (m : List Host.Cell) (x k : Nat), memWf m = true → (hk : k < vs.length) → memRead (memWriteAll m x vs) (x + k) = vs[k] := by
  induction vs with
  | nil => exact fun m x k _ hk => absurd hk (Nat.not_lt_zero k)
  | cons v vs ih =>
    intro m x k hm hk
    rw [memWriteAll]
    cases k with
    | zero =>
      rw [memRead_memWriteAll_outside vs _ _ _ (by omega)]
      simpa using memRead_memWrite_self m x v hm
    | succ k =>
      have hk' : k < vs.length := by simpa using hk
      have := ih (memWrite m x v) (x + 1) k (memWrite_wf m x v hm) hk'
      rw [show x + (k + 1) = x + 1 + k by omega, this]
      rfl

/-- An erased sector reads 0xFF, and every other address as before. -/
theorem memRead_memErase (m : List Host.Cell) (k y : Nat) :
    memRead (memErase m k) y = if y / 4096 = k then 0xFF else memRead m y := by
  induction m with
  | nil => simp [memErase, memRead]
  | cons d m ih =>
    obtain ⟨a, w⟩ := d
    unfold memErase at ih ⊢
    by_cases ha : a / 4096 = k
    · simp only [List.filter_cons, ha, bne_self_eq_false, Bool.false_eq_true, if_false, ih, memRead]
      split
      · rfl
      · next hy =>
        have : ¬ a = y := fun e => hy (e ▸ ha)
        simp [this]
    · have hb : (a / 4096 != k) = true := by simpa using ha
      simp only [List.filter_cons, hb, if_true, memRead, ih]
      by_cases e : a = y
      · subst e
        simp [ha]
      · simp [e]

/-- A run that holds no listed octet is blank (R30). -/
theorem memRead_of_blank (m : List Host.Cell) (x n : Nat) (h : memBlank m x n = true) (k : Nat) (hk : k < n) :
    memRead m (x + k) = 0xFF := by
  induction m with
  | nil => rfl
  | cons c rest ih =>
    simp only [memBlank, List.all_cons, Bool.and_eq_true, decide_eq_true_eq] at h
    obtain ⟨a, v⟩ := c
    have : a ≠ x + k := by omega
    simp only [memRead, this, if_false]
    exact ih (by simpa [memBlank] using h.2)

theorem memReadAll_of_blank (m : List Host.Cell) (x n : Nat) (h : memBlank m x n = true) :
    memReadAll m x n = List.replicate n 0xFF := by
  apply List.ext_getElem
  · simp [memReadAll]
  · intro k h1 h2
    simpa [memReadAll] using memRead_of_blank m x n h k (by simpa [memReadAll] using h1)

theorem memReadAll_append (m : List Host.Cell) (x a b : Nat) :
    memReadAll m x (a + b) = memReadAll m x a ++ memReadAll m (x + a) b := by
  simp [memReadAll, List.range_add, Nat.add_assoc, Function.comp_def]

end Sys2Proof.Machine
end

