-- ==== Sys2Proof/WellFormed.lean ====
section
/-! DEFINITION. Which commands can reach the part: a host request whose fields fit the octets of its layout (R209), an event at a line,
mover, input or link that the part has. A request with a field outside its range is well formed: refusing it is the part's work. -/

namespace Sys2Proof

open Sys2Proof.Machine

/-- A field of one, two or four octets. -/
def fits8 (n : Nat) : Bool := decide (n < 256)
def fits16 (n : Nat) : Bool := decide (n < 65536)
def fits32 (n : Nat) : Bool := decide (n < 4294967296)

/-- A set carried as a mask of `width` bits: ascending members, none twice. -/
def isSet (width : Nat) (xs : List Nat) : Bool := decide (xs.Pairwise (· < ·)) && xs.all (Machine.within 1 width)

def HallParams.fits (p : HallParams) : Bool :=
  [p.txCount, p.antCount, p.motionSlots, p.crosspointDs, p.parkDs, p.testDs, p.settle, p.validate, p.coldDs, p.arcHoldDs,
   p.hostTimeoutMs, p.txStaleDs, p.txLinkDs, p.orderDs].all fits8 &&
  [p.horizonS, p.guardDs, p.parkGapS, p.antennaWaitS, p.scrubMs, p.presetQualityPm].all fits16

def TxFields.fits (f : TxFields) : Bool :=
  [f.inService, f.tuneKw].all fits8 &&
  [f.ratingKw, f.freqLow, f.freqHigh, f.rampUpDs, f.rampDownDs, f.presetDs, f.autotuneDs].all fits16

def AntFields.fits (f : AntFields) : Bool :=
  ([f.inService, f.slewRange, f.reverser, f.precheck, f.neighbours.length] ++ f.neighbours).all fits8 &&
  [f.bandLow, f.bandHigh, f.maxKw, f.slewStepDs, f.revDs, f.matchLimitPm].all fits16

def LicenceLine.fits (l : LicenceLine) : Bool :=
  [l.freqLow, l.freqHigh, l.maxKw].all fits16 && isSet 16 l.transmitters && isSet 32 l.antennas

def ProtSettings.fits (p : ProtSettings) : Bool :=
  [p.warnPm, p.foldPm, p.tripPm, p.foldIntervalDs, p.restoreIntervalS, p.recoveryDs, p.tripWindowS, p.arcWindowS].all fits16

def PresetFields.fits (f : PresetFields) : Bool :=
  fits8 f.antenna && [f.channel, f.s1, f.s2, f.s3, f.s4, f.quality].all fits16

/-- The fields of a report as its frame carries them (R140). -/
def Report.fits (r : Report) : Bool :=
  (match r.txState with | .other c => within 7 255 c | _ => true) &&
  (match r.lastAnswer with | .other c => within 3 255 c | _ => true) &&
  [r.freq, r.pf, r.pr].all fits16 && [r.lastNumber, r.reason, r.tripCode].all fits8 &&
  (match r.tune with | some x => [x.s1, x.s2, x.s3, x.s4, x.quality].all fits16 | none => true)

/-- A host request fits its layout; an event names a place that exists. -/
def WellFormed (c : Instr) : Bool :=
  match c with
  | .echo data => decide (data.length ≤ 249)
  | .alertClear flags => fits16 flags
  | .alertMask mask => fits16 mask
  | .unknownKindRequest kind => fits8 kind && !kindCodes.contains kind
  | .hostFrameQueued kind body => fits8 kind && decide (body.length ≤ 249)
  | .hallSet p => HallParams.fits p
  | .txDefine t f => fits8 t && TxFields.fits f
  | .txQuery t => fits8 t
  | .antDefine a f => fits8 a && AntFields.fits f
  | .antQuery a => fits8 a
  | .licenceWrite first total final lines =>
    [first, total, final, lines.length].all fits8 && lines.all LicenceLine.fits
  | .licenceQuery first => fits8 first
  | .timeSet day second => fits16 day && fits32 second
  | .storeRead address length => fits32 address && fits8 length
  | .storeProgram address data => fits32 address && fits8 data.length
  | .storeErase sector => fits8 sector
  | .bookOpen b season first last => fits8 b && [season, first, last].all fits16
  | .entryAdd b record => fits8 b && decide (record.length ≤ 248)
  | .bookSeal b count crc => fits8 b && fits16 count && fits32 crc
  | .bookVerify b => fits8 b
  | .bookQuery b => fits8 b
  | .findingsQuery b => fits8 b
  | .entryRead b position => fits8 b && fits16 position
  | .bookErase b => fits8 b
  | .handoverSet b day second => fits8 b && fits16 day && fits32 second
  | .handoverCancel b => fits8 b
  | .dutyQuery t => fits8 t
  | .txManual t => fits8 t
  | .txAuto t => fits8 t
  | .occurrenceSkip t entryId day => fits8 t && fits16 entryId && fits16 day
  | .move m position => fits16 m && fits8 position
  | .moverQuery m => fits16 m
  | .antennaStatus a => fits8 a
  | .moverClear m => fits16 m
  | .safetyDefine input kind level rows => [input, kind, level].all fits8 && isSet 16 rows
  | .txOrderTunePreset t freq => fits8 t && fits16 freq
  | .txOrderTuneAuto t freq => fits8 t && fits16 freq
  | .txOrderRfOn t power feed => fits8 t && fits16 power && fits8 feed
  | .txOrderRfOff t => fits8 t
  | .txOrderMute t => fits8 t
  | .txOrderPower t power => fits8 t && fits16 power
  | .txOrderFeed t feed => fits8 t && fits8 feed
  | .txOrderClearTrip t => fits8 t
  | .txStatus t => fits8 t
  | .protSet p => ProtSettings.fits p
  | .protQuery t => fits8 t
  | .lockoutClear t => fits8 t
  | .presetRead t n way => [t, n, way].all fits8
  | .presetWrite t n way f => [t, n, way].all fits8 && PresetFields.fits f
  | .presetFlush scope t a c => [scope, t, a].all fits8 && fits16 c
  | .presetFreeze state => fits8 state
  | .presetWindow w enabled base k => [w, enabled, k].all fits8 && fits16 base
  | .diagStart antennas steps => isSet 32 antennas && fits8 steps
  | .faultClear a flags => fits8 a && fits8 flags
  | .contactChange m p _ => within 1 372 m && (kindOf m).hasPosition p
  | .settleEnd m => within 1 372 m
  | .validateEnd m => within 1 372 m
  | .travelTimeout m => within 1 372 m
  | .watchEnd m => within 1 372 m
  | .moverReadEnd m => within 1 372 m
  | .rowCold r => within 1 12 r
  | .safetyInputEdge i _ => within 1 8 i
  | .releaseWindowEnd i => within 1 8 i
  | .arcInput a => within 1 24 a
  | .arcHoldEnd a => within 1 24 a
  | .txReport t r => within 1 12 t && Report.fits r
  | .txFrameDiscard t _ => within 1 12 t
  | .txLinkTimeout t => within 1 12 t
  | .reportStale t => within 1 12 t
  | .orderDeadline t => within 1 12 t
  | .tuneTimeout t => within 1 12 t
  | .rampFail t => within 1 12 t
  | .offTimeout t => within 1 12 t
  | .recoveryWaitEnd t => within 1 12 t
  | .txLinkSyncFound t => within 1 12 t
  | .busResult tag r => fits8 tag && (match r with | .ratio pm => fits16 pm | _ => true)
  | .coldReset => true
  | .restart => true
  | .ident => true
  | .alertQuery => true
  | .hostFrameDiscard _ => true
  | .hostReceiveTimeout => true
  | .hallQuery => true
  | .licenceLock => true
  | .configSave => true
  | .configLoad => true
  | .timeQuery => true
  | .storeStatus => true
  | .execStart => true
  | .execStop => true
  | .execHold => true
  | .execRelease => true
  | .survey => true
  | .permitQuery => true
  | .presetSave => true
  | .presetRestore => true
  | .presetError => true
  | .diagStop => true
  | .diagQuery => true
  | .timePulse => true
  | .oscillatorMark => true
  | .windowClose => true
  | .holdoverEntry => true
  | .pendingExpiry => true
  | .operationEnd _ => true
  | .operationOverrun => true
  | .progressGuardEnd => true
  | .verifyEnd => true
  | .reindexEnd => true
  | .safetyResetAlert => true
  | .scrubCheck => true
  | .restorePageRead => true
  | .measurementTimeout => true
  | .hostStartOctet => true
  | .huntStopBitError => true
  | .verifierRead => true

end Sys2Proof
end

