-- ==== Sys2Proof/Tests/Slice0.lean ====
section
/-! SUPPORT. Tests of the model: ill-formed commands are refused, frames decode as the layouts of 12.5 and 12.6 say, and the figures
and tables the spec works out come out. The expected results are the spec's own. The states that meet the hypotheses of the
statements stand in the second half. -/

set_option Elab.async false

namespace Sys2Proof.Tests

open Sys2Proof Sys2Proof.Machine

/-- The state a command leaves. -/
def after (c : Instr) (s : State) : State :=
  match exec c s with
  | .next t => t
  | .fault _ => s
  | .refused _ => s

/-! ## Well-formedness: one ill-formed term for each check -/

def badTx : TxFields :=
  { inService := 256, ratingKw := 1, freqLow := 0, freqHigh := 0, rampUpDs := 0, rampDownDs := 0, presetDs := 0, autotuneDs := 0,
    tuneKw := 0 }

def badAnt : AntFields :=
  { inService := 1, bandLow := 65536, bandHigh := 0, maxKw := 0, slewRange := 0, reverser := 0, slewStepDs := 0, revDs := 0,
    precheck := 0, neighbours := [], matchLimitPm := 0 }

def plainReport : Report :=
  { txState := .off, freq := 0, pf := 0, pr := 0, lastNumber := 0, lastAnswer := .none, reason := 0, tripCode := 0, tune := none }

def plainPreset : PresetFields := { antenna := 12, channel := 1900, s1 := 1, s2 := 2, s3 := 3, s4 := 4, quality := 35 }

theorem test_wellformed_refuses_link_and_hall_terms :
    ([.echo (List.replicate 250 0), .alertClear 65536, .alertMask 65536, .unknownKindRequest 256, .unknownKindRequest 0x01,
      .hostFrameQueued 256 [], .hostFrameQueued 1 (List.replicate 250 0), .hallSet { HallParams.defaults with txCount := 256 },
      .hallSet { HallParams.defaults with horizonS := 65536 }, .txDefine 256 badTx, .txDefine 1 badTx, .txQuery 256,
      .antDefine 256 badAnt, .antDefine 1 badAnt, .antQuery 256, .licenceWrite 256 1 1 [], .licenceQuery 256,
      .licenceWrite 1 1 1 [{ freqLow := 0, freqHigh := 0, maxKw := 0, transmitters := [2, 1], antennas := [] }]] : List Instr).all
        (fun c => !WellFormed c) = true := by decide +kernel

theorem test_wellformed_refuses_time_store_and_book_terms :
    ([.timeSet 65536 0, .timeSet 0 4294967296, .storeRead 4294967296 1, .storeRead 0 256, .storeProgram 4294967296 [],
      .storeProgram 0 (List.replicate 256 0), .storeErase 256, .bookOpen 256 0 0 0, .bookOpen 0 65536 0 0, .bookSeal 0 65536 0,
      .bookSeal 0 0 4294967296, .entryAdd 256 [], .entryAdd 0 (List.replicate 249 0), .bookVerify 256, .bookQuery 256,
      .findingsQuery 256, .entryRead 0 65536, .bookErase 256, .handoverSet 0 65536 0, .handoverCancel 256] : List Instr).all
        (fun c => !WellFormed c) = true := by decide +kernel

theorem test_wellformed_refuses_executor_and_order_terms :
    ([.dutyQuery 256, .txManual 256, .txAuto 256, .occurrenceSkip 1 65536 0, .move 65536 0, .moverQuery 65536, .antennaStatus 256,
      .moverClear 65536, .safetyDefine 256 0 0 [], .safetyDefine 1 0 0 [17], .txOrderTunePreset 1 65536, .txOrderTuneAuto 1 65536,
      .txOrderRfOn 1 65536 1, .txOrderRfOff 256, .txOrderMute 256, .txOrderPower 1 65536, .txOrderFeed 1 256,
      .txOrderClearTrip 256, .txStatus 256, .protSet { ProtSettings.defaults with warnPm := 65536 }, .protQuery 256,
      .lockoutClear 256] : List Instr).all (fun c => !WellFormed c) = true := by decide +kernel

theorem test_wellformed_refuses_preset_and_diagnostic_terms :
    ([.presetRead 256 0 0, .presetWrite 1 256 0 plainPreset, .presetWrite 1 0 0 { plainPreset with s1 := 65536 },
      .presetFlush 256 0 0 0, .presetFreeze 256, .presetWindow 256 0 0 0, .diagStart [2, 1] 1, .diagStart [] 256,
      .faultClear 256 0, .busResult 256 .pass, .busResult 0 (.ratio 65536)] : List Instr).all
        (fun c => !WellFormed c) = true := by decide +kernel

theorem test_wellformed_refuses_events_of_no_place :
    ([.contactChange 373 .opened true, .contactChange 1 .fwd true, .settleEnd 0, .validateEnd 373, .travelTimeout 0, .watchEnd 0,
      .moverReadEnd 373, .rowCold 13, .safetyInputEdge 9 .low, .releaseWindowEnd 0, .arcInput 25, .arcHoldEnd 0,
      .txReport 13 plainReport, .txReport 1 { plainReport with freq := 65536 }, .txFrameDiscard 0 [0], .txLinkTimeout 13,
      .reportStale 0, .orderDeadline 13, .tuneTimeout 0, .rampFail 13, .offTimeout 0, .recoveryWaitEnd 13,
      .txLinkSyncFound 0] : List Instr).all (fun c => !WellFormed c) = true := by decide +kernel

/-! ## Frames, 12.5 and 12.6 -/

theorem test_decode_time_set : decodeRequest 0x20 [0x23, 0xAC, 0x00, 0x00, 0xDA, 0x23] = .ok (.timeSet 9132 55843) := by decide +kernel
theorem test_decode_restart : decodeRequest 0x06 [] = .ok .restart := by decide +kernel
theorem test_decode_preset_freeze : decodeRequest 0x73 [1] = .ok (.presetFreeze 1) := by decide +kernel
theorem test_decode_order : decodeRequest 0x60 [4, 2, 0x00, 0xC6, 5] = .ok (.txOrderRfOn 4 198 5) := by decide +kernel
theorem test_decode_diag_start : decodeRequest 0x78 [0, 0, 0x01, 0x10, 7] = .ok (.diagStart [5, 9] 7) := by decide +kernel
theorem test_decode_unknown_kind : decodeRequest 0x07 [] = .error .unknownKind := by decide +kernel
theorem test_decode_short_frame : decodeRequest 0x20 [0x23] = .error .frame := by decide +kernel
theorem test_decode_table_word_gives_none : decodeTableWord 16 0x1234 = none := by decide +kernel

/-! ## Figures of the spec -/

def digits : List Byte := [0x31, 0x32, 0x33, 0x34, 0x35, 0x36, 0x37, 0x38, 0x39]

/-- 12.6: the CRC-16 and CRC-32 of "123456789", and the CRC-32 of nothing. -/
theorem test_crcs : crc16 digits = 0x29B1 ∧ crc32 digits = 0xCBF43926 ∧ crc32 [] = 0 := by decide +kernel

/-- 00_scope: mover numbers and channels; chapter 2: the weekday and the instant of 15:30:00 on day 9132. -/
theorem test_numbers_of_the_scope :
    crosspoint 4 12 = 84 ∧ slewDrive 12 = 336 ∧ channelOf 11800 = 1900 ∧ weekday 0 = 5 ∧ weekday 9132 = 2 ∧
    9132 * 86400 + 55800 = 789060600 := by decide +kernel

/-- R177: the three keys of set 40. -/
theorem test_key_sets : keySet 12 1900 = 40 ∧ keySet 7 1925 = 40 ∧ keySet 13 1895 = 40 := by decide +kernel

/-- 9.1 to 9.3: floors, folding from 250 kW, restoring from 157 kW and 77 kW, the ratio of 17.5 kW in 250 kW. -/
theorem test_powers : ceilDiv 250 4 = 63 ∧ ceilDiv 1 4 = 1 ∧ [250, 198, 157, 124, 98, 77].map foldOf = [198, 157, 124, 98, 77, 61] ∧
    foldOf 1 = 0 ∧ [157, 198, 77].map restoreOf = [198, 250, 97] ∧ ratioOf 2500 1750 = 70 := by decide +kernel

def licenceOfFive : List LicenceLine :=
  [{ freqLow := 5900, freqHigh := 6200, maxKw := 300, transmitters := [1, 2, 3, 4], antennas := [1, 2, 3, 4, 5, 6, 7, 8] },
   { freqLow := 9400, freqHigh := 9900, maxKw := 500, transmitters := [4, 5], antennas := [7, 8, 12] },
   { freqLow := 11600, freqHigh := 12100, maxKw := 250, transmitters := [4], antennas := [12] },
   { freqLow := 11600, freqHigh := 12100, maxKw := 500, transmitters := upTo 12, antennas := [13, 14, 15, 16] },
   { freqLow := 5900, freqHigh := 6200, maxKw := 300, transmitters := [1, 2, 3, 4], antennas := [1, 2, 3, 4, 5, 6, 7, 8] }]

/-- The licensed test of 1.4, row by row. -/
theorem test_licence_limits :
    [(4, 7, 9560), (4, 12, 11800), (4, 12, 9560), (2, 3, 6155), (6, 7, 9560), (4, 13, 11800)].map
      (fun x => licenceLimit licenceOfFive x.1 x.2.1 x.2.2) = [500, 250, 500, 300, 0, 500] := by decide +kernel

/-- The leads of 5.3, case 1 with a preset miss and with a hit, and case 2. -/
theorem test_leads : leadSeconds 20 10 601 50 20 = 71 ∧ leadSeconds 20 10 151 50 20 = 26 ∧ leadSeconds 0 0 133 50 20 = 21 := by decide +kernel

def preset : PresetRecord := newRecord 12 1900 1 2 3 4 35

/-- R177, R178: a record is good as written; one wrong bit is put right, two are found. -/
theorem test_check_code :
    preset.checked = (.good, preset) ∧ PresetRecord.checked { preset with s1 := 5 } = (.corrected, preset) ∧
    (PresetRecord.checked { preset with s1 := 4 }).1 = .double := by decide +kernel

/-- R166, R168 to R170: the trips of 9.8 at 1000, 1030 and 1055, and at 1070 in place of 1055. -/
def tripped (at_ : Nat) (x : Protection) : Protection × TripOutcome := x.trip .vswr 0 at_ 60

def onAir : Protection := { Protection.reset 0 0 with limit := some 250, floor := 63, commanded := 250, working := 250 }

theorem test_trips :
    (tripped 1000 onAir).1.restart = 198 ∧ (tripped 1000 onAir).2 = .recovery ∧
    (tripped 1055 (tripped 1030 (tripped 1000 onAir).1).1).2 = .lockout ∧
    (tripped 1070 (tripped 1030 (tripped 1000 onAir).1).1).2 = .recovery ∧
    (tripped 1080 (tripped 1070 (tripped 1030 (tripped 1000 onAir).1).1).1).2 = .lockout := by decide +kernel

/-! ## Commands, each on a small state -/

/-- Chapter 2's example: TIME_SET(9132, 55795) at 3.40 and the pulse at 4.00. -/
def armed : State := after (.timeSet 9132 55795) { State.reset with clock := 3400 }

theorem test_time_set_is_pending : armed.tb.state = .pending ∧ armed.tb.instant = none := by decide +kernel
theorem test_first_pulse_locks :
    (after .timePulse { armed with clock := 4000 }).tb.state = .locked ∧
    (after .timePulse { armed with clock := 4000 }).tb.instant = some (9132 * 86400 + 55795) ∧
    (after .timePulse { armed with clock := 4000 }).tb.expected = 5000 := by decide +kernel

theorem test_echo_answers_its_octets : (after (.echo [1, 2]) State.reset).lc.reply =
    some { kind := 0x01, status := .ok, body := [1, 2] } := by decide +kernel

theorem test_time_set_of_the_last_second_is_refused :
    (after (.timeSet 65535 86399) State.reset).lc.reply = some { kind := 0x20, status := .range, body := [] } := by decide +kernel

/-- Chapter 3's example: STORE_ERASE(100) at 0, and the status of a second erase while it runs. -/
theorem test_erase_then_busy :
    (after (.storeErase 100) State.reset).ss.state = .erasing 100 ∧
    (after (.storeErase 101) (after (.storeErase 100) State.reset)).lc.reply =
      some { kind := 0x2A, status := .busy, body := [] } := by decide +kernel

/-- 3.1: the host may not erase a book's region. -/
theorem test_erase_of_a_book_is_refused :
    (after (.storeErase 0) State.reset).lc.reply = some { kind := 0x2A, status := .writeProtected, body := [] } := by decide +kernel

theorem test_program_is_stored_at_its_end :
    memReadAll (after (.operationEnd true) (after (.storeProgram 409600 [1, 2]) State.reset)).ss.array 409600 3 = [1, 2, 0xFF] := by
  decide +kernel

/-- 10.8's example: the lookup of antenna 7 turns the mark to way 1, and the two-bit error of way 1 is latched by the scrubber. -/
def setForty : State := State.reset.setPresetSet 4 40
  { way0 := newRecord 7 1925 1 2 3 4 35, way1 := newRecord 12 1900 1 2 3 4 42, lru := 0 }

theorem test_lookup_turns_the_mark :
    ((setForty.lookup 4 7 1925).1.presetSet 4 40).lru = 1 ∧ (setForty.lookup 4 7 1925).2 = some (newRecord 7 1925 1 2 3 4 35) := by
  decide +kernel

theorem test_preset_window_of_the_example :
    (after (.presetWindow 1 1 1792 7) setForty).lc.reply = some { kind := 0x74, status := .ok, body := [0, 1] } := by decide +kernel

theorem test_protection_settings_out_of_order_are_refused :
    (after (.protSet { ProtSettings.defaults with foldPm := 40 }) State.reset).lc.reply =
      some { kind := 0x68, status := .range, body := [] } := by decide +kernel

theorem test_tick_of_an_empty_queue : step State.reset = .next { State.reset with clock := 1 } := by rfl

/-! ## States that meet the hypotheses of the statements

Each theorem `witness_<statement>` shows states and operands that meet the hypotheses of the statement of that name, one conjunct for
each clause that has hypotheses of its own. -/

theorem sized_of {s : State} (h : s.sizes = [12, 24, 12, 8, 24, 12, 12, 24, 372, 12, 24, 12, 12, 24, 24, 4] ++ List.replicate 12 64) :
    s.sized := h

theorem ready_of {s : State} (h : s.lc.serving = false ∧ s.lc.held = none ∧ s.lc.waiting = []) : s.ready := h

def txRec : TxRecord :=
  { inService := true, ratingKw := 500, freqLow := 5900, freqHigh := 26100, rampUpDs := 50, rampDownDs := 20, presetDs := 80,
    autotuneDs := 450, tuneKw := 10 }

def antRec : AntRecord :=
  { inService := true, bandLow := 5900, bandHigh := 26100, maxKw := 300, slewRange := 2, reverser := true, slewStepDs := 150,
    revDs := 300, precheck := false, neighbours := [], matchLimitPm := 150 }

def fullParams : HallParams := { HallParams.defaults with txCount := 12, antCount := 24 }

/-- Reset with every transmitter and antenna defined. -/
def hall : State :=
  { State.reset with ht := { State.reset.ht with params := fullParams, txs := List.replicate 12 (some txRec),
                                                 ants := List.replicate 24 (some antRec) } }

/-- The hall with the time LOCKED at 15:30:00 on day 9132. -/
def timed : State :=
  { hall with tb := { hall.tb with state := .locked, instant := some 789060600, expected := 1000, lastPulse := some 0 } }

/-- A configuration record of one transmitter and one antenna. -/
def savedConfig : ConfigRecord :=
  { State.reset.configRecord with params := { HallParams.defaults with txCount := 1, antCount := 1 }
                                  txs := some txRec :: List.replicate 11 none, ants := some antRec :: List.replicate 23 none }

/-- Its octets but for the CRC-32. -/
def recordBody : List Byte := (ConfigRecord.octets savedConfig).take 161

/-- An array that holds that record, with the CRC-32 written out. -/
def savedArray : List Host.Cell :=
  ((recordBody ++ [0xB8, 0xA2, 0x9C, 0x40]).zipIdx.map fun (p : Byte × Nat) => ((configAddress + p.2, p.1) : Host.Cell)).filter
    fun c => c.2 != 0xFF

def saved : State := { State.reset with ss := { State.reset.ss with array := savedArray } }

theorem crc32_recordBody : crc32 recordBody = 0xB8A29C40 := by
  have h : recordBody = recordBody.take 54 ++ ((recordBody.drop 54).take 54 ++ (recordBody.drop 54).drop 54) := by
    rw [List.take_append_drop, List.take_append_drop]
  rw [h, crc32, crc32More, List.foldl_append, List.foldl_append]
  have h1 : (recordBody.take 54).foldl crc32Octet 0xFFFFFFFF = BitVec.ofNat 32 0x85455795 := by decide +kernel
  have h2 : ((recordBody.drop 54).take 54).foldl crc32Octet (BitVec.ofNat 32 0x85455795) = BitVec.ofNat 32 0x035D19E3 := by decide +kernel
  rw [h1, h2]
  decide +kernel

theorem readConfig_of {m : List Host.Cell} {c : ConfigRecord} {rest : List Byte}
    (hb : memBlank m configAddress 8192 = false) (hr : rdConfigRecord (memReadAll m configAddress 1280) = some (c, rest))
    (hn : rest.length = 1119)
    (hc : longAt rest 0 = (crc32 ((memReadAll m configAddress 1280).take 161)).toNat) : readConfig m = (.loaded, some c) := by
  have hl : (memReadAll m configAddress 1280).length = 1280 := by simp [memReadAll]
  simp [readConfig, checkedRecord, hb, hr, hn, hl, hc]

/-- What follows the record in its sectors. -/
def savedRest : List Byte := [0xB8, 0xA2, 0x9C, 0x40] ++ List.replicate 1115 0xFF

theorem saved_blank : memBlank savedArray configAddress 8192 = false := by decide +kernel

theorem saved_octets : memReadAll savedArray configAddress 1280 = recordBody ++ savedRest := by
  have h : memBlank savedArray (configAddress + 165) 1115 = true := by decide +kernel
  have hr : memReadAll savedArray configAddress 165 = recordBody ++ [0xB8, 0xA2, 0x9C, 0x40] := by decide +kernel
  rw [show 1280 = 165 + 1115 from rfl, memReadAll_append, memReadAll_of_blank _ _ _ h, hr, savedRest, List.append_assoc]

theorem saved_reads : rdConfigRecord (recordBody ++ savedRest) = some (savedConfig, savedRest) := by decide +kernel

theorem recordBody_length : recordBody.length = 161 := by decide +kernel

theorem saved_record_reads : readConfig savedArray = (.loaded, some savedConfig) := by
  refine readConfig_of saved_blank (rest := savedRest) (by rw [saved_octets, saved_reads]) (by decide +kernel) ?_
  rw [saved_octets, List.take_append_of_le_length (by rw [recordBody_length]), List.take_of_length_le (by rw [recordBody_length]),
    crc32_recordBody]
  rfl

/-- R14: the tables and the fault sets of the record. -/
theorem test_config_record_is_applied :
    (State.reset.withConfig savedConfig).tx 1 = some txRec ∧ (State.reset.withConfig savedConfig).ant 1 = some antRec ∧
    (State.reset.withConfig savedConfig).tx 2 = none ∧ (State.reset.withConfig savedConfig).uncheckAll.faultSet 1 = 1 ∧
    (State.reset.withConfig savedConfig).uncheckAll.faultSet 2 = 0 := by decide +kernel

theorem witness_empty_queue_handles_a_waiting_frame_or_ticks :
    (∃ s : State, s.pending = [] ∧ s.lc.held = none ∧ s.lc.waiting = .request .ident :: [.request .ident]) ∧
    (∃ s : State, s.pending = [] ∧ s.lc.held = none ∧ s.lc.waiting = [.malformed 7 .frame]) ∧
    (State.reset.pending = [] ∧ State.reset.lc.waiting = []) :=
  ⟨⟨{ State.reset with lc := { State.reset.lc with waiting := [.request .ident, .request .ident] } }, rfl, rfl, rfl⟩,
   ⟨{ State.reset with lc := { State.reset.lc with waiting := [.malformed 7 .frame] } }, rfl, rfl, rfl⟩, rfl, rfl⟩

theorem witness_array_and_tables_keep_their_form :
    State.reset.arrayWf ∧ State.reset.sized ∧ ∃ t, step { State.reset with pending := [.storeErase 82] } = .next t :=
  ⟨rfl, sized_of (by decide +kernel), _, rfl⟩

theorem witness_time_base_stays_well_formed :
    timed.timeWf ∧ (∃ t, step { timed with pending := [.timePulse], clock := 1000 } = .next t) ∧
    (∃ t, exec .oscillatorMark { State.reset with tb := { State.reset.tb with elapsed := 4294967295 } } = .next t) :=
  ⟨by constructor <;> decide, ⟨_, rfl⟩, ⟨_, rfl⟩⟩

def flagged : State := { hall with lc := { hall.lc with alerts := 1 }, ld := { hall.ld with faults := hall.ld.faults.set 0 3 } }

theorem witness_set_flags_leave_only_where_the_rules_say :
    flagged.lc.alerts.getLsbD 0 = true ∧ (∃ t, exec .timePulse flagged = .next t) ∧
    (flagged.faultSet 1).getLsbD FaultFlag.unchecked.bit = true ∧ (∃ t, exec .diagStop flagged = .next t) ∧
    (flagged.faultSet 1).getLsbD FaultFlag.shortGnd.bit = true ∧ (∃ t, exec (.busResult 0 .pass) flagged = .next t) :=
  ⟨by decide, ⟨_, rfl⟩, by decide, ⟨_, rfl⟩, by decide, ⟨_, rfl⟩⟩

def lockedHall : State := { hall with ht := { hall.ht with locked := true } }

theorem witness_blocks_change_only_at_their_own_commands :
    Instr.changesHall .timePulse = false ∧ Instr.changesArray (.storeErase 82) = false ∧ Instr.changesTime .execStart = false ∧
    lockedHall.ht.locked = true ∧ (∃ t, exec (.licenceWrite 1 0 1 []) lockedHall = .next t) ∧
    (∃ t, exec .timePulse hall = .next t) ∧ (∃ t, exec (.storeErase 82) hall = .next t) ∧ (∃ t, exec .execStart hall = .next t) :=
  ⟨rfl, rfl, rfl, rfl, ⟨_, rfl⟩, ⟨_, rfl⟩, ⟨_, rfl⟩, ⟨_, rfl⟩⟩

theorem witness_request_is_carried_out_or_refused_without_effect :
    Instr.requestKind (.timeSet 65536 0) = some 0x20 ∧ Instr.refusalActs (.timeSet 65536 0) = false ∧ hall.ready :=
  ⟨rfl, rfl, ready_of ⟨rfl, rfl, rfl⟩⟩

theorem witness_request_waits_while_another_is_handled :
    ∃ s : State, Instr.requestKind .ident = some 0x02 ∧ s.lc.serving = false ∧ (s.lc.held ≠ none ∨ s.lc.waiting ≠ []) :=
  ⟨{ State.reset with lc := { State.reset.lc with held := some 0x28 } }, rfl, rfl, .inl (by decide)⟩

theorem witness_reports_are_answered_and_change_nothing :
    Instr.isQuery .ident = true ∧ hall.ready ∧ hall.params.txCount = 12 ∧ hall.params.antCount = 24 ∧
    ({ hall with ht := { hall.ht with licence := licenceOfFive } } : State).ht.licence.length = 5 ∧ hall.ht.licence = [] ∧
    (255 : Nat) ≠ 0 ∧
    hall.sb.scanRunning = false ∧ hall.notices = [] :=
  ⟨rfl, ready_of ⟨rfl, rfl, rfl⟩, rfl, rfl, rfl, rfl, by decide, rfl, rfl⟩

theorem witness_resets_begin_anew_or_keep_what_the_rules_say :
    hall.ready ∧ (∃ c, readConfig saved.cutShort.ss.array = (.loaded, some c) ∧ c.params.antCount = 1 ∧ c.ants[0]? = some (some antRec)) ∧
    saved.sized ∧ readConfig hall.cutShort.ss.array = (.blank, none) :=
  ⟨ready_of ⟨rfl, rfl, rfl⟩, ⟨_, saved_record_reads, rfl, rfl⟩, sized_of (by decide +kernel), by decide +kernel⟩

theorem witness_link_messages_answer_and_write_the_alert_words :
    hall.ready ∧ (0 : Nat) ≤ 65535 ∧ (65535 : Nat) ≤ 65535 := ⟨ready_of ⟨rfl, rfl, rfl⟩, by decide, by decide⟩

def taking : State := { hall with lc := { hall.lc with receiver := .taking [0x5A] 0 (some 50) } }

/-- The frame of a RESTART request after its start octet (12.6), its CRC-16 over LEN and kind written out. -/
def restartFrame : List Byte := [0x01, 0x06, 0x4E, 0xF8]

/-- R206: the octets of a frame one by one from HUNT, with other octets before it; and a frame of LEN 2 whose body is 0x5A. -/
theorem test_host_octets :
    (after (.hostFrameDiscard ([0x00, 0xFF, 0x5A, 0x01, 0x06, 0x4E].map .value)) hall).lc.receiver =
      .taking [0x5A, 0x01, 0x06, 0x4E] 0 (some 50) ∧
    (after (.hostFrameDiscard ((0x5A :: restartFrame).map .value)) hall).lc.waiting = [.request .restart] ∧
    (after (.hostFrameDiscard ([0x5A, 0x01, 0x06, 0x4E, 0xF9].map .value)) hall).lc.counters.crc = 1 ∧
    (after (.hostFrameDiscard ([0x5A, 0x02, 0x01, 0x5A, 0x5A].map .value)) hall).lc.receiver =
      .taking [0x5A, 0x02, 0x01, 0x5A, 0x5A] 0 (some 50) := by decide +kernel

theorem witness_receiver_counts_discards_and_takes_frames :
    (hall.lc.receiver = .hunt ∧ (0x5B : Byte) ≠ 0x5A) ∧
    (taking.lc.receiver = .taking [0x5A] 0 (some 50) ∧ 250 < (251 : Byte).toNat ∧
      (1 ≤ (250 : Byte).toNat ∧ (250 : Byte).toNat ≤ 250 ∧ ([250] ++ List.replicate 251 0 : List Byte).length < (250 : Byte).toNat + 3) ∧
      (restartFrame.length = (0x01 : Byte).toNat + 3 ∧
        (crc16 (restartFrame.take (restartFrame.length - 2))).toNat = wordAt restartFrame (restartFrame.length - 2) ∧
        (crc16 [0x01, 0x06]).toNat ≠ wordAt [0x01, 0x06, 0, 0] 2)) ∧
    (if hall.lc.held.isSome then 1 else 0) + hall.lc.waiting.length < 2 ∧ decodeRequest 0x06 [] = .ok .restart ∧
    decodeRequest 0x20 [0] = .error .frame ∧
    (∃ s : State, s = { hall with lc := { hall.lc with waiting := [.request .ident, .request .ident] } } ∧
      2 ≤ (if s.lc.held.isSome then 1 else 0) + s.lc.waiting.length) := by
  refine ⟨by decide +kernel, by decide +kernel, by decide +kernel, by decide +kernel, by decide +kernel, _, rfl, by decide +kernel⟩

theorem witness_hall_set_replaces_the_parameters :
    hall.ready ∧ HallParams.inRange { fullParams with txCount := 1, antCount := 1 } = true ∧ hall.se.state = .stopped ∧
    (∀ n, 1 < n → n ≤ 12 → (hall.tx n).isSome = true → (hall.seq n).state = .off ∨ (hall.seq n).state = .unknown) ∧
    (∀ a, 1 < a → a ≤ 24 → (hall.claim a).occupant = none ∧ (hall.claim a).reservation = none ∧
      (hall.claim a).testClaim = false) := by
  refine ⟨ready_of ⟨rfl, rfl, rfl⟩, by decide, rfl, ?_, ?_⟩
  · intro n h1 h2 _
    have : ∀ k : Fin 13, (hall.seq k.1).state = .off ∨ (hall.seq k.1).state = .unknown := by decide +kernel
    exact this ⟨n, by omega⟩
  · intro a h1 h2
    have : ∀ k : Fin 25, (hall.claim k.1).occupant = none ∧ (hall.claim k.1).reservation = none ∧
      (hall.claim k.1).testClaim = false := by decide +kernel
    exact this ⟨a, by omega⟩

def goodTx : TxFields := { badTx with inService := 1, ratingKw := 10, freqLow := 2300, freqHigh := 26100 }

def goodAnt : AntFields := { badAnt with bandLow := 2300, bandHigh := 26100, maxKw := 1, neighbours := [1, 23] }

/-- The hall with transmitter `t` in the host's hands and its sequencer in a state. -/
def hand (t : Nat) (st : SeqState) : State :=
  (hall.setDuty t { hall.duty t with mode := .manual }).setSeq t { hall.seq t with state := st, link := .up }

theorem witness_tx_and_ant_define_replace_one_record :
    ((hand 12 .off).ready ∧ TxFields.inRange goodTx = true ∧ ((hand 12 .off).duty 12).mode = .manual ∧
      ((hand 12 .off).seq 12).state = .off ∧ (hand 12 .off).params.txCount = 12) ∧
    (hall.ready ∧ hall.sized ∧ AntFields.inRange goodAnt 24 24 = true ∧ (hall.claim 24).occupant = none ∧
      (hall.claim 24).reservation = none ∧ (hall.claim 24).testClaim = false) :=
  ⟨⟨ready_of ⟨rfl, rfl, rfl⟩, by decide +kernel, by decide +kernel, by decide +kernel, rfl⟩,
   ready_of ⟨rfl, rfl, rfl⟩, sized_of (by decide +kernel), by decide +kernel, by decide +kernel, by decide +kernel, by decide +kernel⟩

theorem witness_licence_is_staged_then_in_force_then_locked :
    hall.ready ∧ hall.ht.locked = false ∧ hall.ss.work.length < 8 ∧ (∀ l ∈ licenceOfFive, LicenceLine.inRange l = true) ∧
    licenceOfFive.length < 32 ∧ licenceOfFive.length = 5 ∧ hall.itemPending ItemKind.isLicenceWrite = false :=
  ⟨ready_of ⟨rfl, rfl, rfl⟩, by decide +kernel, by decide +kernel, by decide +kernel, by decide, rfl, by decide +kernel⟩

theorem witness_config_is_saved_and_loaded :
    (hall.ready ∧ hall.ss.state = .ready ∧ hall.ss.operation = none ∧ hall.ss.item = none ∧ hall.ss.work = []) ∧
    (saved.ready ∧ saved.configHeld = false ∧ saved.itemPending ItemKind.isConfigWrite = false ∧
      (∃ c, readConfig saved.ss.array = (.loaded, some c) ∧ (∀ p ∈ saved.inputsDiffering c, (saved.input p.1).state = .inactive) ∧
        c.params.antCount = 1 ∧ c.ants[0]? = some (some antRec)) ∧ saved.sized) ∧
    (State.reset.configHeld = false ∧ readConfig State.reset.ss.array = (.blank, none)) := by
  refine ⟨⟨ready_of ⟨rfl, rfl, rfl⟩, rfl, rfl, rfl, rfl⟩, ⟨ready_of ⟨rfl, rfl, rfl⟩, by decide +kernel, by decide +kernel, ?_,
    sized_of (by decide +kernel)⟩, by decide +kernel, by decide +kernel⟩
  exact ⟨savedConfig, saved_record_reads, by decide +kernel, rfl, rfl⟩

/-! ### Chapter 2 -/

def withTime (tb : TimeBase) (clock : Nat) : State := { hall with tb := tb, clock := clock }

def pendingTime : TimeBase :=
  { hall.tb with state := .pending, pendingSet := some { instant := 5, moment := 100 } }

def holding : TimeBase := { timed.tb with state := .holdover, expected := 5000, openWindow := some 4000 }

theorem witness_armed_value_is_held_and_applied :
    (hall.ready ∧ ¬((65535 : Nat) = 65535 ∧ (86398 : Nat) = 86399)) ∧
    ((withTime pendingTime 1600).tb.state = .pending ∧
      (withTime pendingTime 1600).tb.pendingSet = some { instant := 5, moment := 100 } ∧
      (withTime pendingTime 1600).clock ≤ 100 + 1500) :=
  ⟨⟨ready_of ⟨rfl, rfl, rfl⟩, by decide⟩, rfl, rfl, by decide⟩

theorem witness_pulses_mark_and_phase_the_second :
    (∀ c ∈ [900, 1100], (withTime timed.tb c).tb.state = .locked ∧ (withTime timed.tb c).tb.instant = some 789060600 ∧
      (withTime timed.tb c).tb.expected ≤ (withTime timed.tb c).clock + 100 ∧
      (withTime timed.tb c).clock ≤ (withTime timed.tb c).tb.expected + 100 ∧ 789060601 ≠ 65535 * 86400 + 86399) ∧
    hall.tb.state = .invalid ∧
    ((withTime holding 4900).tb.state = .holdover ∧ (withTime holding 4900).tb.expected ≤ 4900 + 100 ∧
      (withTime holding 4900).tb.pendingSet = none) ∧
    ((withTime holding 4100).tb.openWindow = some 4000 ∧ (withTime holding 4100).clock ≤ 4000 + 100 ∧
      (withTime holding 4100).clock + 100 < (withTime holding 4100).tb.expected) := by
  decide +kernel

theorem witness_ignored_pulse_is_counted_and_offered_to_the_chain :
    (∀ chain ∈ [[], [1000], [0, 1000]], ∀ c ∈ [1899, 1900, 2100, 2101],
      (withTime { timed.tb with expected := 3000, chain := chain } c).tb.state = .locked ∧ chain.length ≤ 2 ∧ c + 100 < 3000) ∧
    2000 + 100 < (withTime timed.tb 2101).clock := by
  decide +kernel

theorem witness_seconds_are_marked_without_a_pulse :
    (789060601 ≠ 65535 * 86400 + 86399 ∧ hall.tb.state = .invalid ∧ hall.clock ≤ hall.tb.expected) ∧
    ((withTime holding 5000).tb.state = .holdover ∧ (withTime holding 5000).clock ≤ (withTime holding 5000).tb.expected) ∧
    ((withTime timed.tb 1100).tb.state = .locked ∧ (withTime timed.tb 1100).clock ≤ (withTime timed.tb 1100).tb.expected + 100) ∧
    (timed.tb.lastPulse = some 0 ∧ timed.clock ≤ 0 + 1500) ∧
    (withTime { timed.tb with instant := some (65535 * 86400 + 86398) } 1100).tb.instant = some (65535 * 86400 + 86398) := by
  decide +kernel

/-! ### Chapter 3 -/

def erasing : State :=
  { hall with ss := { hall.ss with
      state := .erasing 100, operation := some { op := .erase 100, owner := .host, startedAt := 0, guardEnd := some 20 },
      readWait := [{ reader := .verifier, held := false }] } }

/-- The host's erase of sector 100 is under way, with or without a running guard. -/
def erasingAlone (guard : Option Nat) : State :=
  { hall with ss := { hall.ss with
      state := .erasing 100, operation := some { op := .erase 100, owner := .host, startedAt := 0, guardEnd := guard } } }

theorem witness_host_store_requests_read_and_start :
    ((∀ g ∈ [none, some 20], (erasingAlone g).notices = [] ∧ (erasingAlone g).ss.readWait = [] ∧
        (erasingAlone g).ss.operation = some { op := .erase 100, owner := .host, startedAt := 0, guardEnd := g }) ∧
      (erasingAlone none).ready ∧ (erasingAlone (some 20)).ready ∧ StoreState.erasing 100 ≠ .suspended ∧
      StoreOp.touches (.erase 100) (101 * 4096) 1 = false ∧ StoreOp.touches (.erase 100) (101 * 4096 - 1) 1 = true) ∧
    (hall.ready ∧ hall.notices = [] ∧ hall.ss.operation = none ∧ (524287 + 1 - 1) / 4096 = 524287 / 4096) ∧
    (hall.ss.state = .ready ∧ (∀ k, k < 200 → memRead hall.ss.array (82 * 4096 + k) = 0xFF) ∧ hall.arrayWf ∧
      (82 * 4096 + 200 - 1) / 256 = 82 * 4096 / 256 ∧ (126 * 4096 + 4095) / 4096 = 126) ∧
    (hall.pc.save = none ∧ hall.pc.restore = none) :=
  ⟨⟨by decide +kernel, ready_of ⟨rfl, rfl, rfl⟩, ready_of ⟨rfl, rfl, rfl⟩, by decide, by decide, by decide⟩,
   ⟨ready_of ⟨rfl, rfl, rfl⟩, rfl, rfl, by decide⟩, ⟨rfl, fun _ _ => rfl, rfl, by decide, by decide⟩, rfl, rfl⟩

/-- A suspension serves the read, and the erase goes on under a new guard (R38). -/
theorem test_read_suspends_the_erase :
    (after (.storeRead 409600 1) (after (.storeErase 101) { hall with clock := 7 })).ss.suspensions = 1 ∧
    (after (.storeRead 409600 1) (after (.storeErase 101) { hall with clock := 7 })).ss.operation.map (·.guardEnd) = some (some 27) ∧
    (after (.storeRead 409600 1) (after (.storeErase 101) { hall with clock := 7 })).lc.reply =
      some { kind := 0x28, status := .ok, body := [0xFF] } := by decide +kernel

theorem witness_operation_ends_change_only_their_own_range :
    erasing.arrayWf ∧ erasing.ss.operation = some { op := .erase 100, owner := .host, startedAt := 0, guardEnd := some 20 } ∧
    erasing.clock ≤ 20 ∧ erasing.notices = [] ∧ (∃ w ∈ erasing.ss.readWait, w.held = false) ∧
    ({ erasing.ss with readWait := [] } : Store).readWait = [] ∧
    (∃ s : State, s.notices = [] ∧ s.ss.readWait = [{ reader := .hostRead 0 200, held := false }] ∧ s.lc.held ≠ none) ∧
    (∃ s : State, s.arrayWf ∧ s.ss.operation = some { op := .program 409600 [1, 2], owner := .host, startedAt := 0, guardEnd := none }) :=
  ⟨rfl, rfl, by decide, rfl, ⟨_, List.mem_singleton.2 rfl, rfl⟩, rfl,
   ⟨{ erasing with ss := { erasing.ss with readWait := [{ reader := .hostRead 0 200, held := false }] }
                   lc := { erasing.lc with held := some 0x28 } }, rfl, rfl, by decide⟩,
   ⟨{ hall with ss := { hall.ss with operation := some { op := .program 409600 [1, 2], owner := .host, startedAt := 0,
                                                          guardEnd := none } } }, rfl, rfl⟩⟩

/-! ### Chapter 4 -/

/-- Entry 7 of transmitter 4 on antenna 12, every day from 15:30 to 16:00, as its record (12.6). -/
def record : List Byte :=
  [0x14, 0x00, 0x07, 0x04, 0x7F, 0x03, 0xA2, 0x03, 0xC0, 0x2E, 0x18, 0x00, 0xFA, 0x0C, 0x00, 0x00, 0x03, 0x00, 0x00, 0x00]

def withBook (x : Book) : State := timed.setBook 1 x

def loading (records : List (List Byte)) : Book :=
  { Book.empty with state := .loading, season := some 1, firstDay := 0, lastDay := 65535, entriesAdded := records.length
                    slotA := .filling 1 records }

theorem witness_book_is_opened_filled_and_sealed :
    (timed.ready ∧ timed.sb.scanRunning = false ∧ (timed.book 1).state = .empty ∧ (timed.book (1 - 1)).state ≠ .loading ∧
      timed.ss.work.length < 8) ∧
    (recordMalformed record = false ∧ entryInRange record = true ∧
      (loading (List.replicate 11 record)).filling.2.2.flatten.length + record.length ≤ 256 ∧
      256 < (loading (List.replicate 12 record)).filling.2.2.flatten.length + record.length ∧
      ((loading (List.replicate 12 record)).slot (1 - 0)).isWaiting = false) ∧
    ((withBook (loading [])).book 1).filling.2.2 = [] ∧ ((withBook (loading [])).book 1).state = .loading ∧
    ((withBook (loading [])).book 1).entriesAdded = 0 ∧
    ((withBook (loading [record])).book 1).filling = (0, 1, [record]) ∧ ((withBook (loading [record])).book 1).entriesAdded = 1 ∧
    ((withBook { Book.empty with state := .sealed }).book 1).pendingHandover = none :=
  ⟨⟨ready_of ⟨rfl, rfl, rfl⟩, rfl, by decide +kernel, by decide +kernel, by decide +kernel⟩,
   ⟨by decide +kernel, by decide +kernel, by decide +kernel, by decide +kernel, by decide +kernel⟩,
   by decide +kernel, by decide +kernel, by decide +kernel, by decide +kernel, by decide +kernel, by decide +kernel⟩

def scanOf (reindex finished : Bool) : Verifier :=
  { book := 1, reindex := reindex, check := 1, page := 1, passed := 0, crc := 0, waiting := false, finished := finished }

def verifying (reindex finished : Bool) : State :=
  let s := withBook { Book.empty with state := .verifying }
  { s with sb := { s.sb with verifier := some (scanOf reindex finished) } }

theorem witness_verifier_reads_and_its_ends_are_taken :
    ((withBook { Book.empty with state := .sealed }).ready ∧ ((withBook { Book.empty with state := .sealed }).book 1).state = .sealed ∧
      (withBook { Book.empty with state := .sealed }).itemPending (fun k => k.loads 1) = false ∧
      ((withBook { Book.empty with state := .sealed }).book 1).waitingMarks = []) ∧
    (∃ v, (verifying false true).sb.verifier = some v ∧ v.book = 1 ∧ v.finished = true ∧ v.reindex = false) ∧
    ((verifying false true).book 1).findings.total = 0 ∧
    (∃ v, (verifying false false).sb.verifier = some v ∧ v.finished = false ∧ v.waiting = false ∧
      ((verifying false false).book v.book).state.verifiable = true) ∧
    (withBook { Book.empty with state := .retired }).book 1 = { Book.empty with state := .retired } ∧
    BookState.verifiable .retired = false ∧
    (∃ v, ({ verifying true true with tb := hall.tb } : State).sb.verifier = some v ∧ v.finished = true ∧ v.reindex = true) ∧
    ({ verifying true true with tb := hall.tb } : State).timeValid = false ∧
    ({ Findings.empty with total := 1 } : Findings).total ≠ 0 :=
  ⟨⟨ready_of ⟨rfl, rfl, rfl⟩, by decide +kernel, by decide +kernel, by decide +kernel⟩, ⟨_, rfl, rfl, rfl, rfl⟩, by decide +kernel,
   ⟨_, rfl, rfl, rfl, rfl⟩, rfl, rfl, ⟨_, rfl, rfl, rfl⟩, by decide +kernel, by decide⟩

def standby : State :=
  withBook { Book.empty with state := .standby, firstDay := 9132, lastDay := 9313, slots := [.used 5 true, .torn, .used 6 true, .blank] }

theorem witness_handover_set_uses_the_lowest_blank_slot :
    standby.ready ∧ standby.sb.scanRunning = false ∧ (standby.book 1).state = .standby ∧ standby.handoverPending = false ∧
    (nth (standby.book 1).slots .torn 4 = .blank ∧ ∀ k, 1 ≤ k → k < 4 → nth (standby.book 1).slots .torn k ≠ .blank) ∧ standby.now = some 789060600 ∧ 789060600 + 10 ≤ 9132 * 86400 + 55810 ∧
    (standby.book 1).firstDay ≤ 9132 ∧ standby.activeSince = none ∧ standby.ss.work.length < 8 :=
  ⟨ready_of ⟨rfl, rfl, rfl⟩, by decide +kernel, by decide +kernel, by decide +kernel,
   ⟨by decide +kernel, fun k h1 h2 => (show ∀ n : Fin 4, 1 ≤ n.1 → nth (standby.book 1).slots .torn n.1 ≠ .blank by decide +kernel)
     ⟨k, h2⟩ h1⟩,
   by decide +kernel, by decide, by decide +kernel, by decide +kernel, by decide +kernel⟩

def handing : State :=
  withBook { Book.empty with state := .standby, slots := [.used 789070000 false, .blank, .blank, .blank]
                             pendingHandover := some { slot := 1, instant := 789070000 } }

theorem witness_handover_cancel_withdraws_the_pending_handover :
    handing.ready ∧ ({ handing with sb := { handing.sb with scanRunning := true } } : State).sb.scanRunning = true ∧
    handing.sb.scanRunning = false ∧ (standby.book 1).pendingHandover = none ∧
    (handing.book 1).pendingHandover = some { slot := 1, instant := 789070000 } ∧ handing.ss.work.length < 8 ∧
    nth (handing.book 1).slots .torn 1 = .used 789070000 false ∧
    8 ≤ (List.replicate 8 ({ kind := .lockMark, ops := [] } : WorkItem)).length :=
  ⟨ready_of ⟨rfl, rfl, rfl⟩, by decide +kernel, by decide +kernel, by decide +kernel, by decide +kernel, by decide +kernel,
   by decide +kernel, by decide⟩

/-- Book 0 has a handover due, and the verifier waits for a page of book 1, which is ACTIVE. -/
def reindexing : State :=
  let s := (withBook { Book.empty with state := .active, sealed := some (1, 0) }).setBook 0
    { (handing.book 1) with runIndex := some (List.replicate 12 []) }
  { s with sb := { s.sb with scanRunning := true, verifier := some { scanOf true false with waiting := true } }
           ss := { s.ss with readWait := [{ reader := .verifier, held := false }] } }

/-- R32, R65: the verifier reads no further page of a book that a handover retires during its re-index. -/
theorem test_handover_ends_the_reindex :
    (let t := reindexing.handoversDue 789070000
     ((t.book 0).state, (t.book 1).state, t.ss.readWait, t.sb.verifier.map fun v => (v.waiting, v.finished)) =
       (.active, .retired, [], some (false, true))) := by decide +kernel

/-! ### Chapter 5 -/

/-- Book 1 is ACTIVE with the one entry. -/
def season : State :=
  { withBook { Book.empty with
      state := .active, season := some 1, firstDay := 9132, lastDay := 9313, sealed := some (1, 0), runIndex := some (List.replicate 12 []) } with
    ss := { timed.ss with array := memWriteAll [] (bookBase 1 + 256) record } }

theorem witness_executor_starts_holds_and_is_released :
    (season.ready ∧ season.se.state = .stopped ∧ season.now = some 789060600 ∧ season.activeBook = some 1 ∧
      (season.book 1).runIndex ≠ none ∧ season.sb.scanRunning = false ∧ season.mc.surveyed = true ∧
      789060600 / 86400 ≤ (season.book 1).lastDay) ∧
    hall.timeValid = false ∧
    ({ hall.se with state := .running } : Executor).state = .running ∧
    ({ hall.se with state := .held } : Executor).rebuild = false ∧
    ({ season with se := { season.se with state := .held } } : State).se.state = .held :=
  ⟨⟨ready_of ⟨rfl, rfl, rfl⟩, by decide +kernel, by decide +kernel, by decide +kernel, by decide +kernel, by decide +kernel,
    by decide +kernel, by decide +kernel⟩, by decide +kernel, rfl, rfl, rfl⟩

def planned : Changeover :=
  { entryId := 7, day := 9132, target := { antenna := 12, slew := 0, reversed := false }, substituted := false, alternate := none,
    freq := 11800, power := 250, feed := 3, kind := .reroute, tuneMode := .auto, leadS := 61, ps := 789060600, x := 789060661,
    lateness := 61, s := 789060600, endAt := 789062400, priorHandled := none, routeStart := none, actualOn := none, flags := 0,
    phase := .planned, cause := none, routeDs := 0, check := .notDue, closeOrdered := false, tuneOrdered := false, switched := false,
    powerWait := .awaited, feedWait := .awaited, parkOrdered := false, endCap := none, startAt := some 789060600, lateLimit := none }

def runningSeason : State := { season with se := { season.se with state := .running } }

theorem witness_exec_stop_and_occurrence_skip_take_effect :
    (runningSeason.ready ∧ runningSeason.sized ∧ runningSeason.se.state ≠ .stopped) ∧
    ((runningSeason.setChange 4 (some planned)).change 4 = some planned ∧
      (runningSeason.setChange 4 (some { planned with phase := .routing })).change 4 = some { planned with phase := .routing }) ∧
    (runningSeason.activeBook ≠ none ∧ (∃ o, runningSeason.namedOccurrence 4 7 9132 = some o) ∧
      (runningSeason.duty 4).handledThrough = none ∧ runningSeason.occurrenceCurrent 4 7 9132 = false ∧
      runningSeason.change 4 = none ∧ runningSeason.se.skip.length < 16 ∧ runningSeason.notices = [] ∧
      runningSeason.ss.operation = none) := by
  refine ⟨⟨ready_of ⟨rfl, rfl, rfl⟩, sized_of (by decide +kernel), by decide +kernel⟩, ⟨by decide +kernel, by decide +kernel⟩,
    by decide +kernel, ?_, by decide +kernel, by decide +kernel, by decide +kernel, by decide +kernel, rfl, rfl⟩
  exact ⟨(season.book 1).occurrence (entryOf record) 9132, by decide +kernel⟩

/-- R76: the occurrence joins the list with the instant at which its item leaves it. -/
theorem test_occurrence_skip_joins_the_list :
    (after (.occurrenceSkip 4 7 9133) runningSeason).se.skip = [{ tx := 4, entryId := 7, day := 9133, endAt := 789148800 }] ∧
    (after (.occurrenceSkip 4 7 9133) runningSeason).lc.reply = some { kind := 0x47, status := .ok, body := [] } := by decide +kernel

/-- A mover confirmed at a position, at REST. -/
def at_ (p : Position) : Mover := { Mover.reset [p] with confirmed := some p }

/-- Row 12 is routed to antenna 24; every other switch is open, the slews stand at 0 and the reversers at FWD. -/
def movers : List Mover :=
  (upTo 372).map fun m =>
    if m = 288 then at_ .closed else if m ≤ 324 then at_ .opened else if m ≤ 348 then at_ (.slew 0) else at_ .fwd

def routedHand (st : SeqState) : State := { hand 12 st with mc := { hall.mc with movers := movers } }

/-- R92: the route is given up on a row with a row fault too. -/
theorem test_row_with_a_row_fault_is_parked :
    (let t := ((routedHand .tuned).setRowFault 12 [.mover]).parkRow 12
     ((t.mover 288).target, (t.mover (parkSwitch 12)).target)) = (some .opened, some .closed) := by decide +kernel

/-- Transmitter 12 on air at 11000 kHz in the host's hands, with the time valid. -/
def adoptable : State :=
  let s : State := { routedHand .onAir with tb := timed.tb }
  s.setSeq 12 { s.seq 12 with tunedFreq := some 11000 }

theorem witness_transmitter_duty_moves_between_host_and_executor :
    (hall.ready ∧ hall.sized ∧ hall.params.txCount = 12 ∧ hall.change 12 = none ∧ (hall.duty 12).mode = .auto) ∧
    ((hand 12 .off).ready ∧ (hand 12 .off).sized ∧ ((hand 12 .off).duty 12).mode = .manual ∧ ((hand 12 .off).seq 12).state ≠ .fault ∧
      (hand 12 .off).onAirNow 12 = false) ∧
    (adoptable.sizes = hall.sizes ∧ (adoptable.duty 12).mode = .manual ∧ adoptable.onAirNow 12 = true ∧
      adoptable.routeAntenna 12 = some 24 ∧ (adoptable.mover (slewDrive 24)).confirmedAt = some (.slew 0) ∧
      adoptable.now = some 789060600 ∧ (adoptable.seq 12).tunedFreq = some 11000) ∧
    (((hand 1 .fault).seq 1).state = .fault ∧ ((hand 1 .fault).seq 1).outstanding = none ∧ ((hand 1 .fault).seq 1).queue = []) :=
  ⟨⟨ready_of ⟨rfl, rfl, rfl⟩, sized_of (by decide +kernel), rfl, by decide +kernel, by decide +kernel⟩,
   ⟨ready_of ⟨rfl, rfl, rfl⟩, sized_of (by decide +kernel), by decide +kernel, by decide +kernel, by decide +kernel⟩,
   by decide +kernel, by decide +kernel, by decide +kernel, by decide +kernel⟩

/-! ### Chapter 6 -/

/-- The hall with one mover's record replaced. -/
def withMover (m : Nat) (x : Mover) : State := hall.setMover m x

theorem witness_matrix_requests_are_taken :
    (hall.ready ∧ hall.present 336 = true ∧ hall.moveTarget 336 2 ≠ none ∧ hall.surveyRunning = false ∧
      (hall.mover 336).fault = none ∧ hall.moveAllowed 336 = true ∧ (hall.mover 336).phase = .rest ∧
      (hall.mover 336).confirmedAt ≠ hall.moveTarget 336 2) ∧
    (∃ s, s = withMover 372 { Mover.reset [.fwd] with fault := some .lost } ∧ s.ready ∧ s.sized ∧ s.present 372 = true ∧
      s.surveyRunning = false ∧ (s.mover 372).phase = .rest ∧ (s.mover 372).fault ≠ none ∧ (s.mover 372).requester = none ∧
      (s.mover 372).joined = [] ∧ s.rowFaulted 372 = false ∧ (s.mover 372).contacts.length < 2) ∧
    (∃ s : State, s.ready ∧ s.surveyRunning = false ∧ (∀ x ∈ s.mc.movers, x.phase = .rest) ∧
      (∀ c ∈ s.mc.claims, c.testClaim = false) ∧ s.se.state = .stopped ∧
      (∀ t, 1 ≤ t → t ≤ s.params.txCount → (s.permit t).cold = true)) := by
  refine ⟨⟨ready_of ⟨rfl, rfl, rfl⟩, by decide +kernel, by decide +kernel, by decide +kernel, by decide +kernel, by decide +kernel,
    by decide +kernel, by decide +kernel⟩, ⟨_, rfl, ready_of ⟨rfl, rfl, rfl⟩, sized_of (by decide +kernel), by decide +kernel,
    by decide +kernel, by decide +kernel, by decide +kernel, by decide +kernel, by decide +kernel, by decide +kernel,
    by decide +kernel⟩, ?_⟩
  refine ⟨{ hall with pu := { hall.pu with rows := List.replicate 12 { PermitRow.reset 0 with cold := true } } },
    ready_of ⟨rfl, rfl, rfl⟩, by decide +kernel, by decide +kernel, by decide +kernel, rfl, ?_⟩
  have : ∀ k : Fin 13, 1 ≤ k.1 → (nth (List.replicate 12 { PermitRow.reset 0 with cold := true }) (PermitRow.reset 0) k.1).cold
    = true := by decide +kernel
  intro t h1 h2
  exact this ⟨t, Nat.lt_succ_of_le h2⟩ h1

/-- A mover on its way to a position, for the host. -/
def moverTo (phase : MoverPhase) (p : Position) (contacts : List Position) : Mover :=
  { Mover.reset contacts with phase := phase, target := some p, requester := some .host, run := some p, timer := some 8000,
                              window := if phase = .moving then none else some 20 }

def idleWatch : Mover :=
  { Mover.reset [.opened] with confirmed := some .opened, watch := some { brokeAt := 0, endsAt := 68, madeSince := some 20 } }

def idleRead : Mover := { Mover.reset [.opened] with reading := some { endsAt := 68, steady := some .opened, fresh := false } }

theorem witness_contacts_windows_watches_and_reads_end_as_found :
    (∀ x ∈ [moverTo .moving .closed [], moverTo .settling .closed [.closed], moverTo .validating .closed [.closed]],
      (withMover 1 x).sizes = hall.sizes ∧ (withMover 1 x).present 1 = true ∧ (withMover 1 x).mover 1 = x ∧ x.fault = none ∧
      x.target = some .closed ∧ x.followOn = none ∧ (kindOf 1).hasPosition .closed = true ∧ x.requester = some .host ∧
      x.joined = []) ∧
    (hall.params.settle ≠ 0 ∧ hall.params.validate ≠ 0 ∧ (moverTo .settling .closed [.closed]).window = some 20) ∧
    (∀ x ∈ [idleWatch, idleRead], (withMover 1 x).sizes = hall.sizes ∧ (withMover 1 x).present 1 = true ∧
      (withMover 1 x).mover 1 = x ∧ x.requester = none ∧ x.joined = [] ∧ x.followOn = none ∧ x.phase = .rest) ∧
    (20 + hall.params.validate * 4 ≤ 68 ∧ 68 < 21 + hall.params.validate * 4) ∧ hall.sized := by
  refine ⟨by decide +kernel, by decide +kernel, by decide +kernel, by decide +kernel, sized_of (by decide +kernel)⟩

theorem witness_timeout_and_conflict_fault_the_mover :
    (∃ x : Mover, x = moverTo .moving .closed [] ∧ x.requester = some .host ∧ x.joined = [] ∧ (withMover 289 x).sized ∧
      (withMover 289 x).present 289 = true ∧ (withMover 289 x).mover 289 = x ∧ x.inMotion = true ∧ x.timer = some 8000 ∧
      (withMover 289 x).clock ≤ 8000) ∧
    ((Mover.reset [.opened]).contacts = [.opened] ∧ Position.closed ≠ .opened ∧ (kindOf 289).hasPosition .closed = true) :=
  ⟨⟨_, rfl, rfl, rfl, sized_of (by decide +kernel), by decide +kernel, by decide +kernel, by decide +kernel, rfl,
    by decide +kernel⟩, by decide +kernel⟩

/-! ### Chapter 7 -/

def rowOff : PermitRow := { PermitRow.reset 500 with cold := false }

theorem witness_lines_coldness_and_arcs_follow_the_permit_rules :
    (hall.sized ∧ (hall.permit 12).line = false ∧ (hall.permit 12).cold = false ∧ hall.reportsOff 12 = true ∧
      hall.clock ≤ (hall.permit 12).offSince + hall.params.coldDs * 100) ∧
    (24 ≤ hall.params.antCount ∧ hall.params.antCount ≤ 24) ∧
    ((hall.setArcHold 24 (some 500)).arcHold 24 = some 500 ∧ (hall.setArcHold 24 (some 500)).clock ≤ 500) :=
  ⟨⟨sized_of (by decide +kernel), by decide +kernel, by decide +kernel, by decide +kernel, by decide +kernel⟩, by decide +kernel,
   by decide +kernel⟩

/-- The hall with one safety input replaced. -/
def withInput (n : Nat) (i : SafetyInput) : State := { hall with pu := { hall.pu with inputs := setNth hall.pu.inputs n i } }

def inputAt (st : SafetyState) (sensed : Level) : SafetyInput :=
  { SafetyInput.reset 68 with state := st, sensed := sensed, window := if st = .releasing then some 68 else none }

theorem witness_safety_inputs_are_defined_and_follow_their_levels :
    (hall.ready ∧ hall.pu.inputs.length = 8 ∧ safetyKindOf 2 ≠ none ∧ levelOf 0 ≠ none ∧
      ((withInput 8 (inputAt .inactive .high)).input 8).state = .inactive ∧ (hall.input 1).state ≠ .inactive) ∧
    (∀ x ∈ [(SafetyState.inactive, Level.high, Level.low), (.active, .low, .high), (.releasing, .high, .low)],
      ((withInput 8 (inputAt x.1 x.2.1)).input 8).state = x.1 ∧ (inputAt x.1 x.2.1).sensed ≠ x.2.2 ∧
      (x.1 = .active ↔ x.2.2 ≠ (inputAt x.1 x.2.1).level)) ∧
    ((withInput 8 (inputAt .releasing .high)).input 8).window = some 68 ∧
    (hall.pu.resetAlertAt = some 68 ∧ hall.clock ≤ 68 ∧ (∀ i ∈ hall.pu.inputs, i.state ≠ .active) ∧
      (∃ i ∈ (withInput 8 (inputAt .active .low)).pu.inputs, i.state = .active)) :=
  ⟨⟨ready_of ⟨rfl, rfl, rfl⟩, by decide +kernel, by decide +kernel, by decide +kernel, by decide +kernel, by decide +kernel⟩,
   by decide +kernel, by decide +kernel, by decide +kernel, by decide +kernel, by decide +kernel, by decide +kernel⟩

/-! ### Chapter 8 -/

theorem free_hand (st : SeqState) : (hand 12 st).FreeForOrder 12 txRec :=
  ⟨ready_of ⟨rfl, rfl, rfl⟩, sized_of (by cases st <;> decide +kernel), by cases st <;> decide +kernel, by cases st <;> decide +kernel,
   by cases st <;> decide +kernel, by cases st <;> decide +kernel, by cases st <;> decide +kernel⟩

theorem witness_gated_orders_wait_for_the_line :
    (hand 12 .tuned).FreeForOrder 12 txRec ∧ ((hand 12 .tuned).permit 12).line = false ∧ ((hand 12 .tuned).seq 12).state = .tuned ∧
    500 ≤ txRec.ratingKw ∧ (hand 12 .tuned).routeAntenna 12 = none ∧ freqOk 11800 = true ∧
    (hand 12 .off).FreeForOrder 12 txRec ∧ ((hand 12 .off).permit 12).line = false ∧ ((hand 12 .off).seq 12).state = .off :=
  ⟨free_hand .tuned, by decide +kernel, by decide +kernel, by decide +kernel, by decide +kernel, by decide +kernel, free_hand .off,
   by decide +kernel, by decide +kernel⟩

theorem witness_host_orders_go_out_at_once :
    (∀ st ∈ [SeqState.rampUp, .onAir, .muted, .recoveryWait, .fault], (hand 12 st).FreeForOrder 12 txRec) ∧
    (∀ st ∈ [SeqState.rampUp, .onAir, .muted, .recoveryWait, .fault], ((hand 12 st).seq 12).deferred = [] ∧
      ((hand 12 st).seq 12).state = st) ∧
    (hand 12 .onAir).routeAntenna 12 = none ∧ SeqState.takesFeed .onAir = true :=
  ⟨fun st _ => free_hand st, by decide +kernel, by decide +kernel, by decide +kernel⟩

/-- The set of antenna 24 at 11000 kHz of transmitter 12 holds one record in way 0. -/
def routed (st : SeqState) (p : PresetRecord) : State :=
  (routedHand st).setPresetSet 12 ((channelOf 11000 + 5 * 24) % 64) { way0 := p, way1 := PresetRecord.invalid, lru := 0 }

def presetOf24 : PresetRecord := newRecord 24 (channelOf 11000) 1 2 3 4 35

theorem witness_tune_preset_takes_what_the_lookup_finds :
    (∀ p ∈ [presetOf24, PresetRecord.invalid], (routed .off p).sizes = hall.sizes ∧ ((routed .off p).duty 12).mode = .manual ∧
      (routed .off p).tx 12 = some txRec ∧ ((routed .off p).seq 12).outstanding = none ∧ ((routed .off p).seq 12).queue = [] ∧
      ((routed .off p).seq 12).state = .off ∧ (routed .off p).routeAntenna 12 = some 24) ∧
    ((routed .off presetOf24).lookup 12 24 (channelOf 11000)).2 = some presetOf24 ∧
    ((routed .off PresetRecord.invalid).lookup 12 24 (channelOf 11000)).2 = none ∧
    (freqOk 11000 = true ∧ txRec.freqLow ≤ 11000 ∧ 11000 ≤ txRec.freqHigh) ∧
    (hand 12 .off).FreeForOrder 12 txRec ∧ (hand 12 .off).routeAntenna 12 = none ∧ (hand 12 .off).notices = [] :=
  ⟨by decide +kernel, by decide +kernel, by decide +kernel, by decide +kernel, free_hand .off, by decide +kernel, rfl⟩

/-- The hand with an order outstanding. -/
def ordered (st : SeqState) (o : Order) : State :=
  (hand 12 st).setSeq 12 { (hand 12 st).seq 12 with
    outstanding := some { order := o, number := 7, owner := .host, sentAt := 0 }, timer := some 900,
    report := some { report := plainReport, arrived := 0 } }

theorem witness_reports_bring_the_link_up_and_answer_orders :
    (hall.sized ∧ 12 ≤ hall.params.txCount ∧ (hall.seq 12).state = .unknown ∧ (hall.seq 12).report = none ∧
      (hall.seq 12).outstanding = none ∧ plainReport.txState = .off) ∧ State.reset.params.txCount < 1 ∧
    ((ordered .tuned (.feed 5)).sized ∧ (ordered .tuned (.feed 5)).params.txCount = 12 ∧
      ((ordered .tuned (.feed 5)).seq 12).outstanding = some { order := .feed 5, number := 7, owner := .host, sentAt := 0 } ∧
      ((ordered .tuned (.feed 5)).seq 12).state = .tuned ∧ ((ordered .tuned (.feed 5)).seq 12).mute = none ∧
      ((ordered .tuned (.feed 5)).seq 12).queue = []) ∧
    ({ plainReport with txState := .tuned, lastNumber := 7, lastAnswer := .accepted } : Report).lastAnswer = .accepted :=
  ⟨⟨sized_of (by decide +kernel), by decide +kernel, by decide +kernel, by decide +kernel, by decide +kernel, rfl⟩,
   by decide +kernel, ⟨sized_of (by decide +kernel), by decide +kernel, by decide +kernel, by decide +kernel, by decide +kernel,
   by decide +kernel⟩, rfl⟩

/-- The link of transmitter 12 is in SYNC. -/
def syncing : State := hall.setSeq 12 { hall.seq 12 with receiver := .sync }

/-- A report of OFF as it comes in on a link: length, kind, body, CRC-16. -/
def reportOctets : List Byte := [13, 0x50, 0, 0, 0, 0, 0, 0, 0, 0, 0, 0, 0, 0, 0x88, 0xA1]

/-- R138: a frame with a wrong CRC-16 is counted, a report is taken. -/
theorem test_link_octets :
    ((after (.txFrameDiscard 12 (reportOctets.dropLast ++ [0])) syncing).seq 12).counters.crc = 1 ∧
    ((after (.txFrameDiscard 12 (reportOctets.take 5)) syncing).seq 12).receiver = .taking [13, 0x50, 0, 0, 0] ∧
    ((after (.txFrameDiscard 12 reportOctets) syncing).seq 12).counters.good = 1 ∧
    ((after (.txFrameDiscard 12 reportOctets) syncing).seq 12).link = .up := by decide +kernel

theorem witness_links_count_frames_grow_stale_and_are_lost :
    (12 ≤ hall.params.txCount ∧ hall.params.txCount < 13 ∧ (hall.seq 12).receiver = .hunt ∧
      ((hall.setSeq 12 { hall.seq 12 with receiver := .huntSync }).seq 12).receiver = .huntSync) ∧
    (syncing.sizes = hall.sizes ∧ (syncing.seq 12).receiver = .sync ∧ (0 : Byte) ≠ 0xB4 ∧ 60 < (61 : Byte).toNat ∧
      (reportOctets.take 15).length < (13 : Byte).toNat + 3 ∧ reportOctets.length = (13 : Byte).toNat + 3 ∧
      (crc16 [13, 0x50, 0, 0, 0, 0, 0, 0, 0, 0, 0, 0, 0, 0]).toNat = wordAt reportOctets 14 ∧ octetAt reportOctets 1 = 0x50 ∧
      ((reportOctets.take 14).drop 2).length = 12 ∧ octetAt ((reportOctets.take 14).drop 2) 11 = 0 ∧
      (crc16 [1, 0x51]).toNat = wordAt [1, 0x51, 0x64, 0xEA] 2 ∧ octetAt [1, 0x51, 0x64, 0xEA] 1 ≠ 0x50 ∧
      (crc16 [1, 0x51]).toNat ≠ wordAt [1, 0x51, 0, 0] 2) ∧
    ((ordered .tuned (.feed 5)).sized ∧ ((ordered .tuned (.feed 5)).seq 12).link = .up ∧
      ((ordered .tuned (.feed 5)).seq 12).report = some { report := plainReport, arrived := 0 } ∧
      (ordered .tuned (.feed 5)).clock ≤ 0 + hall.params.txLinkDs * 100 ∧
      (ordered .tuned (.feed 5)).clock ≤ 0 + hall.params.txStaleDs * 100 + 1) ∧
    (((ordered .fault (.feed 5)).seq 12).state = .fault ∧ ((ordered .fault (.feed 5)).seq 12).link = .up) :=
  ⟨by decide +kernel, by decide +kernel,
   ⟨sized_of (by decide +kernel), by decide +kernel, by decide +kernel, by decide +kernel, by decide +kernel⟩, by decide +kernel⟩

theorem witness_timers_and_deadlines_fault_or_trip :
    (∀ st ∈ [SeqState.tuned, .tuning, .rampDown, .rampUp], (ordered st .mute).sizes = hall.sizes ∧
      ((ordered st .mute).seq 12).outstanding = some { order := .mute, number := 7, owner := .host, sentAt := 0 } ∧
      ((ordered st .mute).seq 12).timer = some 900 ∧ ((ordered st .mute).seq 12).state = st ∧
      (ordered st .mute).clock ≤ 0 + (ordered st .mute).params.orderDs * 100 ∧ (ordered st .mute).clock ≤ 900 ∧
      ((ordered st .mute).prot 12).lockout = false) ∧ hall.sized :=
  ⟨by decide +kernel, sized_of (by decide +kernel)⟩

def entryNow : CurrentEntry :=
  { entryId := 7, day := some 9132, startAt := some 789060600, endAt := 789062400, antenna := some 24, onAlternate := false,
    freq := 11000, power := 250, slew := 0, reversed := false, feed := 3, alternate := none }

/-- Transmitter 12 in RECOVERY_WAIT on its route, in AUTO duty with a current entry or in the host's hands; or off its route. -/
def recovering (auto good : Bool) : State :=
  let s := if good then routedHand .recoveryWait else hand 12 .recoveryWait
  let q := s.setSeq 12 { s.seq 12 with timer := some 900, restart := some 198 }
  q.setDuty 12 { q.duty 12 with mode := if auto then .auto else .manual, current := some entryNow }

theorem witness_recovery_wait_ends_in_restart_or_rf_off :
    (∀ a ∈ [true, false], ∀ g ∈ [true, false], (recovering a g).sizes = hall.sizes ∧
      ((recovering a g).seq 12).state = .recoveryWait ∧ ((recovering a g).seq 12).timer = some 900 ∧ (recovering a g).clock ≤ 900 ∧
      ((recovering a g).duty 12).mode = (if a then DutyMode.auto else .manual) ∧ (recovering a g).change 12 = none ∧
      ((recovering a g).duty 12).current = some entryNow ∧ (recovering a g).conditionsHold 12 = g ∧
      ((recovering a g).seq 12).restart = some 198) ∧ hall.sized := by
  refine ⟨by decide +kernel, sized_of (by decide +kernel)⟩

/-! ### Chapter 9 -/

/-- Transmitter 12 on air with 250 kW. -/
def airing (x : Protection) : State := (hand 12 .onAir).setProt 12 x

theorem witness_fresh_report_is_evaluated_on_air :
    (airing onAir).sized ∧ (airing onAir).params.txCount = 12 ∧ ((airing onAir).seq 12).state = .onAir ∧
    ((airing onAir).seq 12).outstanding = none ∧ ((airing onAir).seq 12).feedback = none ∧
    ((airing onAir).prot 12).commanded * 10 ≤ 2500 * 20 ∧ min 999 (100 * 75 / 2500) < (airing onAir).pt.settings.warnPm ∧
    ((airing onAir).prot 12).folded = false :=
  ⟨sized_of (by decide +kernel), by decide +kernel, by decide +kernel, by decide +kernel, by decide +kernel, by decide +kernel,
   by decide +kernel, by decide +kernel⟩

/-- One ratio at each boundary of the table: 111 and 112 trip, 64 and 110 fold or wait, 40 and 63 do nothing, 39 restores. -/
theorem witness_ratio_decisions_follow_the_table :
    ProtSettings.defaults.warnPm < ProtSettings.defaults.foldPm ∧ ProtSettings.defaults.foldPm < ProtSettings.defaults.tripPm ∧
    ProtSettings.defaults.tripPm ≤ 111 ∧ (ProtSettings.defaults.foldPm ≤ 110 ∧ 110 < ProtSettings.defaults.tripPm) ∧
    ProtSettings.defaults.foldPm ≤ 64 ∧ ({ onAir with lastFold := some 0 } : Protection).lastFold = some 0 ∧
    0 + ProtSettings.defaults.foldIntervalDs * 100 ≤ 1000 ∧ 999 < 0 + ProtSettings.defaults.foldIntervalDs * 100 ∧
    (ProtSettings.defaults.warnPm ≤ 63 ∧ 63 < ProtSettings.defaults.foldPm) ∧ 39 < ProtSettings.defaults.warnPm ∧
    onAir.folded = false ∧ ({ onAir with folded := true } : Protection).folded = true := by decide +kernel

theorem witness_fold_and_restore_steps_change_the_power :
    ((airing onAir).sized ∧ ((airing onAir).seq 12).state = .onAir ∧ ((airing onAir).seq 12).outstanding = none ∧
      ((airing onAir).seq 12).queue = [] ∧ 1 ≤ onAir.floor) ∧
    (77 * 813 / 1024 < onAir.floor ∧ onAir.floor ≤ 80 * 813 / 1024) ∧
    (({ onAir with restoreRun := some 0, commanded := 198 } : Protection).limit = some 250 ∧
      9999 < 0 + ProtSettings.defaults.restoreIntervalS * 1000 ∧ 0 + ProtSettings.defaults.restoreIntervalS * 1000 ≤ 10000 ∧
      250 ≤ (198 * 1024 + 812) / 813 ∧ (157 * 1024 + 812) / 813 < 250 ∧ onAir.restoreRun = none) :=
  ⟨⟨sized_of (by decide +kernel), by decide +kernel, by decide +kernel, by decide +kernel, by decide +kernel⟩, by decide +kernel,
   by decide +kernel⟩

theorem witness_counted_trip_recovers_or_locks_out :
    TripCause.vswr.counted = true ∧ onAir.lockout = false ∧ onAir.limit = some 250 ∧ onAir.history.length ≤ 3 ∧
    1060 - 1000 ≤ 60 ∧ 60 < 1061 - 1000 ∧
    [1000, 1030, 1060] = (if [1000, 1030].length < 3 then [1000, 1030] else [1000, 1030].drop 1) ++ [1060] ∧
    [1030, 1060, 1091] = (if [1000, 1030, 1060].length < 3 then [1000, 1030, 1060] else [1000, 1030, 1060].drop 1) ++ [1091] := by
  decide +kernel

def locked (link : LinkState) : State :=
  let s := hand 12 .lockout
  (s.setSeq 12 { s.seq 12 with link := link }).setProt 12 { onAir with lockout := true, history := [1, 2, 3] }

theorem witness_prot_set_and_lockout_clear_take_effect :
    (hall.ready ∧ ProtSettings.inRange ProtSettings.defaults = true ∧
      ProtSettings.inRange { ProtSettings.defaults with foldPm := 40 } = false) ∧
    (∀ l ∈ [LinkState.up, .lost], (locked l).sizes = hall.sizes ∧ ((locked l).prot 12).lockout = true ∧
      ((locked l).seq 12).state = .lockout ∧ ((locked l).seq 12).link = l) ∧
    ((hall.prot 12).lockout = false ∧ hall.params.txCount = 12) :=
  ⟨⟨ready_of ⟨rfl, rfl, rfl⟩, by decide +kernel, by decide +kernel⟩, by decide +kernel, by decide +kernel⟩

/-! ### Chapter 10 -/

theorem witness_check_code_repairs_one_bit_and_detects_two :
    preset.antenna < 32 ∧ preset.channel < 8192 ∧ preset.s1 < 4096 ∧ preset.s2 < 4096 ∧ preset.s3 < 4096 ∧ preset.s4 < 4096 ∧
    preset.quality < 1024 ∧ preset.check = preset.code := by decide +kernel

/-- Set 63 of transmitter 12 with one record in way 1. -/
def cached (r : PresetRecord) : State :=
  hall.setPresetSet 12 63 { way0 := PresetRecord.invalid, way1 := r, lru := 1 }

theorem witness_preset_read_checks_the_record :
    hall.ready ∧ hall.sized ∧ (((hall.presetSet 1 0).way 0).valid = false) ∧
    (((cached preset).presetSet 12 63).way 1).checked.1 = .good ∧
    (((cached { preset with s1 := 5 }).presetSet 12 63).way 1).checked.1 = .corrected ∧
    (((cached { preset with s1 := 4 }).presetSet 12 63).way 1).checked.1 = .double ∧ preset.valid = true ∧ hall.pc.latch = none ∧
    ({ hall.pc with latch := some { kind := .double, tx := 1, setNo := 0, way := 0, source := .host, elapsed := 0 } } :
      PresetCache).latch ≠ none :=
  ⟨ready_of ⟨rfl, rfl, rfl⟩, sized_of (by decide +kernel), by decide +kernel, by decide +kernel, by decide +kernel,
   by decide +kernel, by decide +kernel, by decide +kernel, by decide +kernel⟩

/-- PRESET_WRITE of antenna 12, channel 1900 into set 40, way 0: over nothing, and beside the same key in way 1. -/
theorem witness_preset_write_replaces_one_way :
    hall.ready ∧ hall.sized ∧ (plainPreset.channel + 5 * plainPreset.antenna) % 64 = 40 ∧
    (∀ w ∈ hall.pc.windows, ¬(w.enabled = true ∧ w.base ≤ plainPreset.channel ∧ plainPreset.channel < w.base + 2 ^ w.exponent)) ∧
    ((((hall.received.checkWay 12 40 1 .host).1).presetSet 12 40).way 1).valid = false ∧
    (let s := hall.setPresetSet 12 40 { way0 := PresetRecord.invalid, way1 := preset, lru := 0 }
     ((((s.received.checkWay 12 40 1 .host).1).presetSet 12 40).way 1).valid = true) ∧
    (preset.antenna = plainPreset.antenna ∧ preset.channel = plainPreset.channel ∧ preset.valid = true ∧ preset.check = preset.code ∧
      preset.s4 = plainPreset.s4 ∧ preset.quality = plainPreset.quality) :=
  ⟨ready_of ⟨rfl, rfl, rfl⟩, sized_of (by decide +kernel), by decide +kernel, by decide +kernel, by decide +kernel,
   by decide +kernel, by decide +kernel⟩

theorem witness_preset_flush_invalidates_by_scope :
    hall.ready ∧ hall.sized ∧ ((setForty.received.readSet 4 ((1925 + 5 * 7) % 64) .host).presetSet 4 40).find 7 1925 = some 0 ∧
    (setForty.presetSet 4 40).find 24 4760 = none :=
  ⟨ready_of ⟨rfl, rfl, rfl⟩, sized_of (by decide +kernel), by decide +kernel, by decide +kernel⟩

def restoring : State :=
  let counts : RestoreCounts := { blank := 0, invalid := 0, bad := 0, windowed := 0, present := 0, full := 0, installed := 0 }
  { hall with pc := { hall.pc with restore := some { next := 94, dueAt := 5, waiting := false, counts := counts } } }

theorem witness_freeze_windows_and_error_latch_are_set :
    hall.ready ∧ hall.pc.restore = none ∧ restoring.ready ∧ restoring.pc.restore ≠ none :=
  ⟨ready_of ⟨rfl, rfl, rfl⟩, rfl, ready_of ⟨rfl, rfl, rfl⟩, by decide +kernel⟩

/-- R192: a saved image is installed in way 0 of a blank set, one of another set is BAD, one with valid indicator 0 is INVALID. -/
def noCounts : RestoreCounts := { blank := 0, invalid := 0, bad := 0, windowed := 0, present := 0, full := 0, installed := 0 }

theorem test_restored_images :
    (hall.restoreImage 4 40 (PresetRecord.imageOctets preset) noCounts).2.installed = 1 ∧
    ((hall.restoreImage 4 40 (PresetRecord.imageOctets preset) noCounts).1.presetSet 4 40) =
      { way0 := preset, way1 := PresetRecord.invalid, lru := 1 } ∧
    (hall.restoreImage 4 41 (PresetRecord.imageOctets preset) noCounts).2.bad = 1 ∧
    (hall.restoreImage 4 40 (PresetRecord.imageOctets { preset with valid := false }) noCounts).2.invalid = 1 ∧
    (setForty.restoreImage 4 40 (PresetRecord.imageOctets preset) noCounts).2.present = 1 := by decide +kernel

/-- A key of set 40 that `setForty` does not hold. -/
def otherPreset : PresetRecord := newRecord 13 1895 1 2 3 4 35

theorem witness_save_offers_pages_and_restore_takes_them :
    (hall.notices = [] ∧ hall.ss.operation = none ∧ hall.ready ∧ hall.arrayWf ∧ hall.ss.idle ∧ hall.pc.save = none ∧
      hall.pc.restore = none ∧ (∀ x, saveAddress ≤ x → x < saveAddress + 65536 → memRead hall.ss.array x = 0xFF)) ∧
    (∃ s : State, s = { hall with ss := { hall.ss with array := [(saveAddress + 65535, 0)] } } ∧ s.arrayWf ∧
      memRead s.ss.array (saveAddress + 65535) ≠ 0xFF) ∧
    ({ hall.pc with frozen := true } : PresetCache).frozen = true ∧ hall.pc.frozen = false ∧
    (∃ run, restoring.pc.restore = some run ∧ run.waiting = false ∧ run.next < 95 ∧ restoring.clock ≤ run.dueAt ∧
      restoring.notices = [] ∧ restoring.ss.operation = none ∧
      restoring.ss.readWait = [] ∧ (∀ k, k < 256 → memRead restoring.ss.array (saveAddress + run.next * 256 + k) = 0xFF)) ∧
    (setForty.sized ∧ (∃ b ∈ PresetRecord.imageOctets otherPreset, b ≠ 0xFF) ∧
      imageRecord (PresetRecord.imageOctets otherPreset) = otherPreset ∧ octetAt (PresetRecord.imageOctets otherPreset) 0 = 1 ∧
      otherPreset.checked = (.good, otherPreset) ∧ (PresetRecord.checked { preset with s1 := 4 }).1 = .double ∧
      SavedKeyFits otherPreset otherPreset 40 ∧ ¬SavedKeyFits preset preset 41 ∧
      (PresetWindow.covers { enabled := true, base := 1895, exponent := 0 } 1895 = true) ∧
      (∀ z ∈ setForty.pc.windows, z.covers 1895 = false) ∧
      ((setForty.readSet 4 40 .fill).presetSet 4 40).way0.holds 13 1895 = false ∧
      ((setForty.readSet 4 40 .fill).presetSet 4 40).way1.holds 13 1895 = false ∧
      ((setForty.readSet 4 40 .fill).presetSet 4 40).way0.valid = true ∧
      ((setForty.readSet 4 40 .fill).presetSet 4 40).way1.valid = true ∧
      ((setForty.readSet 4 40 .fill).presetSet 4 40).way0.holds 7 1925 = true ∧
      ((hall.readSet 4 40 .fill).presetSet 4 40).way0.valid = false) :=
  ⟨⟨rfl, rfl, ready_of ⟨rfl, rfl, rfl⟩, rfl, ⟨rfl, rfl, rfl, rfl, rfl, rfl⟩, rfl, rfl, fun _ _ _ => rfl⟩,
   ⟨_, rfl, rfl, by decide +kernel⟩, rfl, rfl, ⟨_, rfl, rfl, by decide, by decide, rfl, rfl, rfl, fun _ _ => rfl⟩,
   sized_of (by decide +kernel), by decide +kernel, by decide +kernel, by decide +kernel, by decide +kernel, by decide +kernel,
   by unfold SavedKeyFits; decide +kernel, by unfold SavedKeyFits; decide +kernel, by decide +kernel, by decide +kernel,
   by decide +kernel, by decide +kernel, by decide +kernel, by decide +kernel, by decide +kernel, by decide +kernel⟩

/-- The scrubber stands at way 0 or 1 of set 63 of transmitter 12, the last of all. -/
def scrubbing (way : Nat) (r : PresetRecord) : State :=
  let s := hall.setPresetSet 12 63 ({ way0 := PresetRecord.invalid, way1 := PresetRecord.invalid, lru := 0 } : PresetSet)
  let u := s.setPresetSet 12 63 ((s.presetSet 12 63).setWay way r)
  { u with pc := { u.pc with scrubTx := 12, scrubSet := 63, scrubWay := way } }

/-- The scrubber at the last way of all, with the set's other way valid too. -/
def scrubbingBoth (other : PresetRecord) : State := (scrubbing 1 preset).setPresetSet 12 63 { way0 := other, way1 := preset, lru := 0 }

/-- A good record of another key of the same set. -/
def presetElsewhere : PresetRecord := let r := { preset with antenna := preset.antenna + 1 }; { r with check := r.code }

theorem witness_scrub_checks_one_record_and_advances :
    (∀ way ∈ [0, 1], ∀ r ∈ [PresetRecord.invalid, preset, { preset with s1 := 5 }, { preset with s1 := 4 }],
      (scrubbing way r).sizes = hall.sizes ∧
      (scrubbing way r).pc.scrubAt = some 50 ∧ (scrubbing way r).clock ≤ 50 ∧ (scrubbing way r).pc.scrubWay = way ∧
      (scrubbing way r).pc.scrubSet = 63 ∧ ((scrubbing way r).presetSet 12 63).way way = r ∧ (scrubbing way r).pc.latch = none) ∧
    (preset.valid = true ∧ preset.checked.1 = .good ∧ (PresetRecord.checked { preset with s1 := 5 }).1 = .corrected ∧
      (PresetRecord.checked { preset with s1 := 4 }).1 = .double) ∧
    (∀ other ∈ [preset, presetElsewhere], (scrubbingBoth other).sizes = hall.sizes ∧ (scrubbingBoth other).pc.scrubAt = some 50 ∧
      (scrubbingBoth other).pc.scrubWay = 1 ∧ (scrubbingBoth other).presetSet 12 63 = { way0 := other, way1 := preset, lru := 0 } ∧
      other.valid = true ∧ other.checked.1 = .good) ∧
    preset.holds preset.antenna preset.channel = true ∧
    preset.holds presetElsewhere.antenna presetElsewhere.channel = false ∧ hall.sized ∧ hall.pc.scrubSet < 63 := by
  refine ⟨by decide +kernel, by decide +kernel, by decide +kernel, by decide +kernel, by decide +kernel,
    sized_of (by decide +kernel), by decide +kernel⟩

/-! ### Chapter 11 -/

def entryOfPlan (a : Nat) : PlanEntry := { PlanEntry.blank a with insul := some .pass }

/-- A run with antenna 24 as its first. -/
def running (phase : RunPhase) (step : DiagStep) : State :=
  { hall with ld := { hall.ld with
      run := .active, plan := [entryOfPlan 24], position := some { index := 0, phase := phase, step := step, neighbour := 0 } } }

/-- The run's measurement is outstanding. -/
def measuring (phase : RunPhase) (step : DiagStep) (order : BusOrder) : State :=
  let s := running phase step
  { s with ld := { s.ld with measurement := some { order := order, tag := 9, sentAt := 0, discard := false } } }

/-- The run has antenna 24 connected. -/
def connected (phase : RunPhase) : State :=
  let s := (measuring phase .insul (.insul 24)).setMover 324 (at_ .closed)
  { s with ld := { s.ld with closedSwitch := some 24 } }

/-- The run has given the bus up: its test switch moves to OPEN, or stands there. -/
def yielded (phase : RunPhase) : State :=
  let x : Mover := if phase = .yielded then at_ .opened else
    { at_ .closed with phase := .moving, target := some .opened, requester := some .diagRun, priority := 2 }
  let s := (running phase .loop).setMover 324 x
  { s with ld := { s.ld with closedSwitch := some 24 } }

/-- DIAG_STOP of a run that has yielded marks no antenna ABORTED (R202, notes/assumptions/34.md). -/
theorem test_stop_of_a_yielded_run : (match exec .diagStop (yielded .yielded) with
    | .next t => t.ld.plan.map (·.outcome) == [.notReached] && t.ld.outcome == some .stopped
    | _ => false) = true := by decide +kernel

theorem witness_diagnostic_run_starts_and_stops :
    (∀ ph ∈ [RunPhase.connecting, .measuring, .disconnecting], (connected ph).sizes = hall.sizes ∧ (connected ph).ld.run = .active ∧
      (connected ph).ld.position.map (·.phase) = some ph ∧ (connected ph).ld.closedSwitch = some 24 ∧
      ((connected ph).planAt 0).antenna = 24 ∧ (connected ph).mover (testSwitch 24) = at_ .closed ∧
      (connected ph).present (testSwitch 24) = true) ∧
    (∀ ph ∈ [RunPhase.yielding, .yielded], (yielded ph).sizes = hall.sizes ∧ (yielded ph).ld.run = .active ∧
      (yielded ph).ld.position.map (·.phase) = some ph ∧ (yielded ph).ld.closedSwitch = some 24 ∧
      (yielded ph).present (testSwitch 24) = true ∧ ((yielded ph).mover (testSwitch 24)).fault = none ∧
      (ph = .yielding → ((yielded ph).mover (testSwitch 24)).phase = .moving ∧
        ((yielded ph).mover (testSwitch 24)).target = some .opened) ∧
      (ph = .yielded → (yielded ph).mover (testSwitch 24) = at_ .opened)) ∧
    (hall.ready ∧ (∀ a ∈ [24], 1 ≤ a ∧ a ≤ 24) ∧ (∃ a ∈ [24], hall.ant a ≠ none) ∧ hall.safetyHalt = false ∧ hall.ld.run = .idle ∧
      hall.ld.busFault = none ∧ hall.ld.closedSwitch = none) ∧
    (({ hall.ld with busFault := some (.timeout, 0) } : Diagnostics).busFault ≠ none ∧ hall.ld.run ≠ .active) ∧
    ((running .waitBus .insul).ready ∧ (running .waitBus .insul).ld.run = .active ∧
      (∃ p, (running .waitBus .insul).ld.position = some p ∧ p.phase.connected = false) ∧
      (running .waitBus .insul).ld.closedSwitch = none) :=
  ⟨by decide +kernel, by decide +kernel, ⟨ready_of ⟨rfl, rfl, rfl⟩, by decide, ⟨24, by decide, by decide +kernel⟩, by decide +kernel, rfl, rfl, rfl⟩,
   ⟨by decide +kernel, by decide +kernel⟩, ready_of ⟨rfl, rfl, rfl⟩, rfl, ⟨_, rfl, rfl⟩, rfl⟩

theorem witness_fault_clear_removes_the_named_flags :
    hall.ready ∧ (24 ≤ hall.params.antCount ∧ (24 = 0 ∨ 255 ≤ 255)) ∧ ¬25 ≤ hall.params.antCount ∧
    ((withMover 324 { Mover.reset [] with fault := some .timeout }).mover (testSwitch 24)).fault ≠ none ∧
    (255 : Nat).testBit FaultFlag.drive.bit = true ∧ (2 : Nat).testBit FaultFlag.drive.bit = false ∧
    (2 : Nat).testBit FaultFlag.route.bit = false ∧ (hall.faultSet 24) &&& ~~~ BitVec.ofNat 8 2 = 0 :=
  ⟨ready_of ⟨rfl, rfl, rfl⟩, by decide +kernel, by decide +kernel, by decide +kernel, by decide +kernel, by decide +kernel,
   by decide +kernel, by decide +kernel⟩

theorem witness_bus_results_and_timeouts_end_the_measurement :
    hall.sized ∧
    (∀ x ∈ [(RunPhase.selfCheck, DiagStep.insul, BusOrder.selfCheck), (.measuring, .loop, .loop 24), (.measuring, .insul, .insul 24)],
      (measuring x.1 x.2.1 x.2.2).sizes = hall.sizes ∧ (measuring x.1 x.2.1 x.2.2).ld.measurement.map (·.tag) = some 9 ∧
      (measuring x.1 x.2.1 x.2.2).ld.preUse = none ∧ (measuring x.1 x.2.1 x.2.2).ld.closedSwitch = none ∧
      (measuring x.1 x.2.1 x.2.2).ld.position.map (·.phase) = some x.1 ∧ ((measuring x.1 x.2.1 x.2.2).planAt 0).antenna = 24 ∧
      (measuring x.1 x.2.1 x.2.2).ld.preUseQueue = [] ∧ (measuring x.1 x.2.1 x.2.2).clock ≤ 0 + 10000) ∧
    (hall.ant 24 ≠ none ∧ hall.ld.measurement = none ∧ (entryOfPlan 24).insul = some .pass) := by
  refine ⟨sized_of (by decide +kernel), by decide +kernel, by decide +kernel⟩

/-! ### What every step keeps -/

def quietInputs : List SafetyInput := hall.pu.inputs.map fun i => { i with state := .inactive, window := none }

/-- Two queued motions of row 12 and of antenna 1, every row cold. -/
def queuedHall : State :=
  let cold : PermitRow := { PermitRow.reset 0 with cold := true }
  let s : State := { hall with clock := 5000, pu := { hall.pu with rows := List.replicate 12 cold, inputs := quietInputs }
                               mc := { hall.mc with movers := movers } }
  let q := fun (p : Position) (age : Nat) (x : Mover) =>
    ({ x with phase := .queued, target := some p, requester := some .host, priority := 3, age := age } : Mover)
  (s.setMover 288 (q .opened 1 (at_ .closed))).setMover 325 (q (.slew 2) 2 (at_ (.slew 0)))

/-- R110: of two eligible requests of one priority the older is granted first, and then the other. -/
theorem test_arbiter_grants_the_older : queuedHall.nextGrant = some 288 ∧ queuedHall.arbitrate.slotsInUse = 1 ∧
    (queuedHall.post .arbiter).settled.slotsInUse = 2 := by decide +kernel

/-- Transmitter 12 on air with its line ASSERTED by right. -/
def asserted : State :=
  let s : State := { routedHand .onAir with pu := { hall.pu with inputs := quietInputs } }
  let u := s.setSeq 12 { s.seq 12 with report := some { report := { plainReport with txState := .on }, arrived := 0 } }
  u.setPermit 12 { u.permit 12 with line := true, request := true, cold := false }

/-- R151: the power in force when the report arrives is tested, not the one that a fold at this report gives: 1800 is below 9 × 250.
R127: a request that has stood within one report makes the line rise and fall with cause REQUEST. -/
theorem test_report_transitions :
    (let s := (routedHand .rampUp).setProt 12 onAir
     let u := after (.txReport 12 { plainReport with txState := .on, pf := 1800, pr := 1260 }) s
     ((u.prot 12).commanded, (u.seq 12).state) = (198, .rampUp)) ∧
    (let s := asserted.setPermit 12 { asserted.permit 12 with line := false, request := false }
     let m : Outstanding := { order := .mute, number := 7, owner := .sequencer, sentAt := 0 }
     let s := s.setSeq 12 { s.seq 12 with state := .muted, mute := some { origin := .rampDown, accepted := false, notice := none },
                                          outstanding := some m }
     let u := after (.txReport 12 { plainReport with txState := .tuned, lastNumber := 7, lastAnswer := .accepted }) s
     ((u.permit 12).line, (u.permit 12).offSince, (u.permit 12).lastFall) =
       (false, s.clock, some (FallCause.request, s.tb.elapsed))) := by decide +kernel

theorem witness_arbiter_antennas_and_lines_keep_their_rules :
    (queuedHall.sized ∧ queuedHall.eligible 288 = true ∧ queuedHall.eligible 325 = true ∧ queuedHall.slotsInUse = 0 ∧
      0 < queuedHall.params.motionSlots ∧ (queuedHall.mover 288).age < (queuedHall.mover 325).age ∧
      (queuedHall.mover 288).contacts ≠ (queuedHall.mover 288).target.toList ∧ hall.slotsInUse = 0) ∧
    (∃ t, exec (.settleEnd 1) queuedHall = .next t) ∧
    (hall.sized ∧ (∀ k : Fin 25, (hall.claim k.1).occupant = none ∧ (hall.claim k.1).testClaim = false)) ∧
    (asserted.sized ∧ asserted.notices = [] ∧ (asserted.permit 12).line = true ∧
      ((asserted.seq 12).requesting && asserted.conditionsHold 12) = true ∧
      (∀ k : Fin 12, (asserted.permit k.1).line = false)) ∧
    (∃ t, step { asserted with pending := [.arcInput 24] } = .next t ∧ t.notices = [] ∧ (t.permit 12).line = false) :=
  ⟨⟨sized_of (by decide +kernel), by decide +kernel, by decide +kernel, by decide +kernel, by decide +kernel, by decide +kernel,
    by decide +kernel, by decide +kernel⟩, ⟨_, rfl⟩, ⟨sized_of (by decide +kernel), by decide +kernel⟩,
   ⟨sized_of (by decide +kernel), rfl, by decide +kernel, by decide +kernel, by decide +kernel⟩,
   ⟨_, rfl, by decide +kernel, by decide +kernel⟩⟩

/-- Antenna 12 as the target of transmitter 4. -/
def toTwelve : Target := { antenna := 12, slew := 0, reversed := false }

theorem witness_work_trips_leads_and_power_stay_in_bounds :
    ((List.replicate 8 ({ kind := .lockMark, ops := [] } : WorkItem)).length ≤ 8 ∧
      ∃ t, step { hall with pending := [.operationEnd true] } = .next t) ∧
    ([1, 2, 3].length ≤ 3 ∧ planned.leadS ≤ 600 ∧ planned.x = planned.ps + planned.leadS ∧
      (runningSeason.setChange 4 (some planned)).change 4 = some planned) ∧
    (∃ s : State, s = { runningSeason with
        ld := { hall.ld with faults := List.replicate 24 0 }
        ht := { hall.ht with licence := licenceOfFive } } ∧
      s.sized ∧ s.candidateCause 4 toTwelve 11800 250 = none ∧ s.candidateCause 4 toTwelve 11800 251 = some .licence ∧
      (s.planLead 4 toTwelve 11800 789060600 789060600).2.x = 789060600 + 83 ∧
      ((s.planLead 4 toTwelve 11800 789060600 789060600).1.reserveTarget 4 12).2 = true) ∧
    ((airing onAir).sizes = hall.sizes ∧ ((airing onAir).prot 12).limit = some 250 ∧ ((airing onAir).prot 12).floor = (250 + 3) / 4 ∧
      ((airing onAir).prot 12).floor ≤ ((airing onAir).prot 12).commanded ∧ ((airing onAir).prot 12).commanded ≤ 250 ∧
      (((airing onAir).ratioDecision 12 64).seq 12).state = ((airing onAir).seq 12).state) := by
  refine ⟨⟨by decide, _, rfl⟩, by decide +kernel, ⟨_, rfl, sized_of (by decide +kernel), by decide +kernel, by decide +kernel,
    by decide +kernel, by decide +kernel⟩, by decide +kernel⟩

end Sys2Proof.Tests
end

/-! # HANDOVER_CANCEL (R64)

The request is settled in two parts: which check fails first, read off `State.handoverCancelChecks` once, and what the request leaves
in either case. -/

namespace Sys2Proof.Machine

open Sys2Proof

section Requests

variable {s : State} {k : Nat} {checks : List (Bool × Status)} {f : State → State}

/-- R208 for a request that is carried out to its end. -/
theorem State.request_refused {c : Bool × Status} (h : checks.find? (fun c => c.1) = some c) :
    s.request k checks f = s.answer k c.2 [] :=
  State.handle_refused h

theorem State.request_accepted (h : checks.find? (fun c => c.1) = none) : s.request k checks f = (f s).settled :=
  State.handle_accepted h

end Requests

section HandoverCancel

variable {b : Nat} {s : State}

/-- The first failing check, in the order of R64. -/
theorem State.handoverCancelChecks_find? (b : Nat) (s : State) :
    (s.handoverCancelChecks b).find? (fun c => c.1) =
      if 1 < b then some (true, .range)
      else if s.sb.scanRunning = true then some (true, .busy)
      else if (s.book b).pendingHandover = none then some (true, .state)
      else if 8 ≤ s.ss.work.length then some (true, .busy)
      else none := by
  simp only [State.handoverCancelChecks, State.bookChecks, State.listHasRoom, List.cons_append, List.nil_append]
  split
  next hb => simp [hb]
  next hb =>
    split
    next hscan => simp [hb, hscan]
    next hscan =>
      split
      next hnone => simp [hb, hscan, hnone]
      next hnone =>
        split
        next hfull => simp [hb, hscan, hnone, hfull]
        next hroom => simp [hb, hscan, hnone, hroom]

theorem exec_handoverCancel_meaning (b : Nat) (s : State) : exec (.handoverCancel b) s = execHandoverCancel b s := rfl

theorem exec_handoverCancel_ready (h : s.ready) :
    exec (.handoverCancel b) s = .next (s.received.request 0x39 (s.handoverCancelChecks b) fun u =>
      (u.cancelHandover b).answer 0x39 .ok []) := by
  rw [exec_handoverCancel_meaning, execHandoverCancel, hostRequest_ready h]
  rfl

theorem exec_handoverCancel_refused {status : Status} (h : s.ready)
    (hc : (s.handoverCancelChecks b).find? (fun c => c.1) = some (true, status)) :
    exec (.handoverCancel b) s = .next (s.received.answer 0x39 status []) := by
  rw [exec_handoverCancel_ready h, State.request_refused hc]

theorem exec_handoverCancel_accepted (h : s.ready) (hc : (s.handoverCancelChecks b).find? (fun c => c.1) = none) :
    exec (.handoverCancel b) s = .next ((s.received.cancelHandover b).answer 0x39 .ok []).settled := by
  rw [exec_handoverCancel_ready h, State.request_accepted hc]

/-- What R64 withdraws: the pending handover of a used slot, which stays used. -/
theorem State.cancelHandover_used {h : Handover} {i : Nat} {c : Bool} (hp : (s.book b).pendingHandover = some h)
    (hslot : nth (s.book b).slots .torn h.slot = .used i c) :
    s.cancelHandover b = (s.setBook b
      { s.book b with slots := setNth (s.book b).slots h.slot (.used i true), pendingHandover := none }).markDue b
        (.slotCancelled h.slot) [] := by
  simp only [State.cancelHandover, hp, hslot, HandoverSlot.cancel]

end HandoverCancel

/-- Settles O28: each refusal is the first failing check of R64, and an accepted request finds no failing check. -/
theorem handover_cancel_withdraws_the_pending_handover : Obligations.handover_cancel_withdraws_the_pending_handover := by
  intro b s hs
  refine ⟨fun hb => ?range, fun hb hscan => ?scanning, fun hb hscan hnone => ?nothingPending,
    fun h hb hscan hp hfull => ?listFull, fun h i c hb hscan hp hroom hslot => ?accepted⟩
  case range => exact exec_handoverCancel_refused hs (by rw [State.handoverCancelChecks_find?, if_pos hb])
  case scanning =>
    exact exec_handoverCancel_refused hs (by rw [State.handoverCancelChecks_find?, if_neg (Nat.not_lt.mpr hb), if_pos hscan])
  case nothingPending =>
    exact exec_handoverCancel_refused hs (by simp [State.handoverCancelChecks_find?, Nat.not_lt.mpr hb, hscan, hnone])
  case listFull =>
    exact exec_handoverCancel_refused hs (by simp [State.handoverCancelChecks_find?, Nat.not_lt.mpr hb, hscan, hp, hfull])
  case accepted =>
    have passes : (s.handoverCancelChecks b).find? (fun c => c.1) = none := by
      simp [State.handoverCancelChecks_find?, Nat.not_lt.mpr hb, hscan, hp, hroom]
    have withdrawn := State.cancelHandover_used (s := s.received) hp hslot
    rw [exec_handoverCancel_accepted hs passes, withdrawn]
    rfl

end Sys2Proof.Machine

/-! # The decision table of an evaluation (R165)

One lemma per row of the table. `State.ratioDecision_of_warn_le` says once what the rows but the last share: the restore run ends first,
and the row's own act is taken on the state it leaves. -/

namespace Sys2Proof.Machine

open Sys2Proof

section RatioDecision

variable {s : State} {t q : Nat}

/-- R165's last sentence but one: every row but the last acts on a state whose restore run is none. -/
def State.endRestoreRun (s : State) (t : Nat) : State := s.setProt t { s.prot t with restoreRun := none }

/-- What opens the fold-step row: the last fold is none, or is at least fold_interval_ds old. -/
def State.foldIsDue (s : State) (t : Nat) : Bool :=
  (s.prot t).lastFold.all fun m => decide (m + s.pt.settings.foldIntervalDs * 100 ≤ s.clock)

theorem State.foldIsDue_iff :
    s.foldIsDue t = true ↔ ∀ m, (s.prot t).lastFold = some m → m + s.pt.settings.foldIntervalDs * 100 ≤ s.clock := by
  simp only [State.foldIsDue, Option.all_eq_true, decide_eq_true_eq]

theorem State.not_foldIsDue {m : Nat} (hm : (s.prot t).lastFold = some m)
    (hsoon : s.clock < m + s.pt.settings.foldIntervalDs * 100) : ¬ s.foldIsDue t = true :=
  fun hdue => Nat.not_le.mpr hsoon (State.foldIsDue_iff.mp hdue m hm)

theorem State.ratioDecision_of_warn_le (hwarn : s.pt.settings.warnPm ≤ q) :
    s.ratioDecision t q =
      if s.pt.settings.tripPm ≤ q then (s.endRestoreRun t).tripWith t .vswr 0 .protection
      else if s.pt.settings.foldPm ≤ q ∧ s.foldIsDue t = true then (s.endRestoreRun t).foldStep t
      else s.endRestoreRun t := by
  simp only [State.ratioDecision, if_pos hwarn, State.endRestoreRun, State.setProt_clock]
  refine if_congr Iff.rfl rfl ?_
  by_cases hfold : s.pt.settings.foldPm ≤ q
  case neg => rw [if_neg hfold, if_neg fun hopen => hfold hopen.1]
  case pos =>
    rw [if_pos hfold]
    split
    next hnone => rw [if_pos ⟨hfold, State.foldIsDue_iff.mpr (by simp [hnone])⟩]
    next m hm => exact if_congr (by simp [State.foldIsDue_iff, hm, hfold]) rfl rfl

theorem State.ratioDecision_trip (hwarn : s.pt.settings.warnPm ≤ q) (htrip : s.pt.settings.tripPm ≤ q) :
    s.ratioDecision t q = (s.endRestoreRun t).tripWith t .vswr 0 .protection := by
  rw [State.ratioDecision_of_warn_le hwarn, if_pos htrip]

theorem State.ratioDecision_fold (hwarn : s.pt.settings.warnPm ≤ q) (hfold : s.pt.settings.foldPm ≤ q)
    (htrip : q < s.pt.settings.tripPm) (hdue : s.foldIsDue t = true) :
    s.ratioDecision t q = (s.endRestoreRun t).foldStep t := by
  rw [State.ratioDecision_of_warn_le hwarn, if_neg (Nat.not_le.mpr htrip), if_pos ⟨hfold, hdue⟩]

/-- The two rows "no step": the ratio is below fold_pm, or the last fold is too recent. -/
theorem State.ratioDecision_noStep (hwarn : s.pt.settings.warnPm ≤ q) (htrip : q < s.pt.settings.tripPm)
    (hno : ¬(s.pt.settings.foldPm ≤ q ∧ s.foldIsDue t = true)) : s.ratioDecision t q = s.endRestoreRun t := by
  rw [State.ratioDecision_of_warn_le hwarn, if_neg (Nat.not_le.mpr htrip), if_neg hno]

/-- The last row leaves the restore run to R167, which acts only while FOLDED is set. -/
theorem State.ratioDecision_of_lt_warn (hwarn : q < s.pt.settings.warnPm) :
    s.ratioDecision t q = if (s.prot t).folded = true then s.restoreRunStep t else s := by
  rw [State.ratioDecision, if_neg (Nat.not_le.mpr hwarn)]

end RatioDecision

/-- Settles O45: each row of R165 is reached because warn_pm < fold_pm < trip_pm puts every ratio of the rows but the last at or above
warn_pm. -/
theorem ratio_decisions_follow_the_table : Obligations.ratio_decisions_follow_the_table := by
  rintro t q s v p x rfl rfl hwf hft rfl
  refine ⟨fun htrip => ?trip, fun hfold htrip hdue => ?fold, fun m hfold htrip hm hsoon => ?foldedLately,
    fun hwarn hfold => ?belowFold, fun hwarn hfolded => ?folded, fun hwarn hclear => ?clear⟩
  case trip => exact State.ratioDecision_trip (hwf.le.trans (hft.le.trans htrip)) htrip
  case fold => exact State.ratioDecision_fold (hwf.le.trans hfold) hfold htrip (State.foldIsDue_iff.mpr hdue)
  case foldedLately =>
    exact State.ratioDecision_noStep (hwf.le.trans hfold) htrip fun hopen => State.not_foldIsDue hm hsoon hopen.2
  case belowFold =>
    exact State.ratioDecision_noStep hwarn (hfold.trans hft) fun hopen => Nat.not_le.mpr hfold hopen.1
  case folded => rw [State.ratioDecision_of_lt_warn hwarn, if_pos hfolded]
  case clear => rw [State.ratioDecision_of_lt_warn hwarn, hclear, if_neg Bool.false_ne_true]

end Sys2Proof.Machine

/-! # PRESET_WRITE (R188)

The request is settled in three parts: how a set and a directory read after an update, what the check of the other way leaves alone
(R178), and the two checks of R188 with what the write leaves in either case. -/

namespace Sys2Proof.Machine

open Sys2Proof

/-! ## Sets and directories -/

section Sets

variable {s : State} {t n way : Nat}

@[simp] theorem PresetSet.way_setWay_self (x : PresetSet) (way : Nat) (r : PresetRecord) : (x.setWay way r).way way = r := by
  unfold PresetSet.setWay PresetSet.way
  split <;> rfl

theorem PresetSet.way_setWay_other (x : PresetSet) (r : PresetRecord) (h : way ≤ 1) :
    (x.setWay way r).way (1 - way) = x.way (1 - way) := by
  obtain rfl | rfl := Nat.le_one_iff_eq_zero_or_eq_one.mp h <;> rfl

@[simp] theorem PresetSet.setWay_lru (x : PresetSet) (way : Nat) (r : PresetRecord) : (x.setWay way r).lru = x.lru := by
  unfold PresetSet.setWay
  split <;> rfl

theorem PresetRecord.holds_iff (r : PresetRecord) (ant channel : Nat) :
    r.holds ant channel = true ↔ r.valid = true ∧ r.antenna = ant ∧ r.channel = channel := by
  simp [PresetRecord.holds, and_assoc]

/-- A set is read from the directories alone. -/
theorem State.presetSet_congr {u : State} (h : u.pc.directories = s.pc.directories) (t n : Nat) :
    u.presetSet t n = s.presetSet t n := by
  rw [State.presetSet, State.presetSet, h]

/-- The directories stand after the 16 other tables of `State.sizes`. -/
theorem State.sized.directory_lengths (h : s.sized) : s.pc.directories.map List.length = List.replicate 12 64 :=
  congrArg (List.drop 16) h

theorem State.sized.directories_length (h : s.sized) : s.pc.directories.length = 12 := by
  simpa using congrArg List.length h.directory_lengths

theorem State.sized.directory_length (h : s.sized) (ht : 1 ≤ t) (ht' : t ≤ 12) : (nth s.pc.directories [] t).length = 64 := by
  have hlt : t - 1 < s.pc.directories.length := by rw [h.directories_length]; omega
  have hmem : (s.pc.directories[t - 1]).length ∈ s.pc.directories.map List.length :=
    List.mem_map_of_mem (List.getElem_mem hlt)
  rw [h.directory_lengths] at hmem
  simpa [nth, Nat.ne_of_gt ht, hlt] using List.eq_of_mem_replicate hmem

/-- A set of R177 that was put into a directory is read from it. -/
theorem State.presetSet_setPresetSet (x : PresetSet) (h : s.sized) (ht : 1 ≤ t) (ht' : t ≤ 12) (hn : n ≤ 63) :
    (s.setPresetSet t n x).presetSet t n = x := by
  have hset : n < (nth s.pc.directories [] t).length := by rw [h.directory_length ht ht']; omega
  rw [State.presetSet, State.setPresetSet, nth_setNth_self _ _ _ _ ht (by rw [h.directories_length]; exact ht')]
  simp [List.getD, hset]

end Sets

/-! ## The check of one way, R178 -/

section CheckWay

variable {s : State} {t n way : Nat} {source : PresetSource}

theorem State.presetError_frame (s : State) (kind : PresetErrorKind) (t n way : Nat) (source : PresetSource) :
    (s.presetError kind t n way source).pc.directories = s.pc.directories ∧
    (s.presetError kind t n way source).pc.save = s.pc.save ∧ (s.presetError kind t n way source).ss = s.ss := by
  unfold State.presetError
  cases s.pc.latch <;> cases kind <;> exact ⟨rfl, rfl, rfl⟩

/-- A read writes at most the way it reads, and reaches neither the store nor a save. -/
theorem State.checkWay_frame (s : State) (t n way : Nat) (source : PresetSource) :
    ((s.checkWay t n way source).1.pc.directories = s.pc.directories ∨
      ∃ r, (s.checkWay t n way source).1.pc.directories =
        (s.setPresetSet t n ((s.presetSet t n).setWay way r)).pc.directories) ∧
    (s.checkWay t n way source).1.pc.save = s.pc.save ∧ (s.checkWay t n way source).1.ss = s.ss := by
  unfold State.checkWay
  dsimp only
  split
  next invalid => exact ⟨.inl rfl, rfl, rfl⟩
  next valid =>
    split
    next corrected => exact ⟨.inr ⟨_, rfl⟩, rfl, rfl⟩
    next double =>
      obtain ⟨hdirs, hsave, hss⟩ := State.presetError_frame
        (s.setPresetSet t n ((s.presetSet t n).setWay way ((s.presetSet t n).way way).checked.2)) .double t n way source
      exact ⟨.inr ⟨_, hdirs⟩, hsave, hss⟩
    next good => exact ⟨.inl rfl, rfl, rfl⟩

theorem State.sized.checkWay (h : s.sized) (t n way : Nat) (source : PresetSource) : (s.checkWay t n way source).1.sized :=
  (congrArg Kept.sizes (State.checkWay_handed (Handed.refl s) t n way source).kept).trans h

/-- A read changes no LRU mark of the set it reads. -/
theorem State.checkWay_lru (h : s.sized) (ht : 1 ≤ t) (ht' : t ≤ 12) (hn : n ≤ 63) :
    ((s.checkWay t n way source).1.presetSet t n).lru = (s.presetSet t n).lru := by
  obtain ⟨same | ⟨r, written⟩, -, -⟩ := State.checkWay_frame s t n way source
  · rw [State.presetSet_congr same]
  · rw [State.presetSet_congr written, State.presetSet_setPresetSet _ h ht ht' hn, PresetSet.setWay_lru]

end CheckWay

/-! ## The request, R188 -/

section PresetWrite

variable {s : State} {t n way : Nat} {f : PresetFields}

theorem State.windowed_eq_false_iff (s : State) (c : Nat) :
    s.windowed c = false ↔ ∀ w ∈ s.pc.windows, ¬(w.enabled = true ∧ w.base ≤ c ∧ c < w.base + 2 ^ w.exponent) := by
  simp [State.windowed, PresetWindow.covers]

theorem badPlace_eq_false_iff (t n way : Nat) : badPlace t n way = false ↔ (1 ≤ t ∧ t ≤ 12) ∧ n ≤ 63 ∧ way ≤ 1 := by
  simp [badPlace, within, and_assoc]

/-- Check 1 of R188. -/
theorem State.presetWrite_inRange_iff (s : State) (t n way : Nat) (f : PresetFields) :
    (badPlace t n way || !s.presetWriteOk n f) = false ↔
      1 ≤ t ∧ t ≤ 12 ∧ n ≤ 63 ∧ way ≤ 1 ∧ 1 ≤ f.antenna ∧ f.antenna ≤ 24 ∧ f.channel ≤ 4760 ∧ f.s1 ≤ 4095 ∧ f.s2 ≤ 4095 ∧
      f.s3 ≤ 4095 ∧ f.s4 ≤ 4095 ∧ f.quality ≤ 999 ∧ (f.channel + 5 * f.antenna) % 64 = n ∧
      ∀ w ∈ s.pc.windows, ¬(w.enabled = true ∧ w.base ≤ f.channel ∧ f.channel < w.base + 2 ^ w.exponent) := by
  rw [← State.windowed_eq_false_iff, Bool.or_eq_false_iff, badPlace_eq_false_iff]
  simp [State.presetWriteOk, within, keySet, and_assoc]

theorem exec_presetWrite_meaning (t n way : Nat) (f : PresetFields) (s : State) :
    exec (.presetWrite t n way f) s = execPresetWrite t n way f s := rfl

theorem exec_presetWrite_ready (h : s.ready) :
    exec (.presetWrite t n way f) s = .next (s.received.handle 0x71
      [(badPlace t n way || !s.received.presetWriteOk n f, .range)] fun u => u.writeWay t n way f) := by
  rw [exec_presetWrite_meaning, execPresetWrite, hostRequest_ready h]

theorem exec_presetWrite_refused (h : s.ready) (hbad : (badPlace t n way || !s.received.presetWriteOk n f) = true) :
    exec (.presetWrite t n way f) s = .next (s.received.answer 0x71 .range []) := by
  rw [exec_presetWrite_ready h, State.handle_refused (c := (true, .range)) (by simp [hbad])]

theorem exec_presetWrite_inRange (h : s.ready) (hok : (badPlace t n way || !s.received.presetWriteOk n f) = false) :
    exec (.presetWrite t n way f) s = .next (s.received.writeWay t n way f) := by
  rw [exec_presetWrite_ready h, State.handle_accepted (by simp [hok])]

/-- Check 2 of R188, on what the read of the other way leaves. -/
theorem State.writeWay_eq {u : State} (hu : u = (s.checkWay t n (1 - way) .host).1) :
    s.writeWay t n way f =
      if ((u.presetSet t n).way (1 - way)).holds f.antenna f.channel = true then u.answer 0x71 .conflict []
      else (u.setPresetSet t n ((u.presetSet t n).setWay way
        (newRecord f.antenna f.channel f.s1 f.s2 f.s3 f.s4 f.quality))).answer 0x71 .ok [] := by
  rw [State.writeWay, hu]

/-- The code of R177 covers the data bits, not the check code that stands beside them. -/
theorem PresetRecord.code_setCheck (r : PresetRecord) (c : BitVec 16) : PresetRecord.code { r with check := c } = r.code := rfl

/-- Only one valid record has given fields that fit R177's widths and its own check code, because the code is taken from the fields
alone. -/
theorem PresetRecord.eq_newRecord {r : PresetRecord} (hvalid : r.valid = true) (hcheck : r.check = r.code) (h1 : r.s1 ≤ 4095)
    (h2 : r.s2 ≤ 4095) (h3 : r.s3 ≤ 4095) (h4 : r.s4 ≤ 4095) (hq : r.quality ≤ 999) :
    r = newRecord r.antenna r.channel r.s1 r.s2 r.s3 r.s4 r.quality := by
  have fits {k m : Nat} (hk : k ≤ m) (w : Nat) (hw : m < w) : k % w = k := Nat.mod_eq_of_lt (hk.trans_lt hw)
  simp only [newRecord, fits h1 4096 (by decide), fits h2 4096 (by decide), fits h3 4096 (by decide), fits h4 4096 (by decide),
    fits hq 1024 (by decide)]
  obtain ⟨valid, antenna, channel, s1, s2, s3, s4, quality, check⟩ := r
  subst hvalid
  exact congrArg (PresetRecord.mk true antenna channel s1 s2 s3 s4 quality) (hcheck.trans (PresetRecord.code_setCheck _ _).symm)

end PresetWrite

/-- Settles O51: check 1 is `State.presetWrite_inRange_iff`, check 2 and the write are `State.writeWay_eq`, and the record the request
writes is the only one with the fields given and a code of its own. -/
theorem preset_write_replaces_one_way : Obligations.preset_write_replaces_one_way := by
  intro t n way f s u inRange hready hsized hrange hu
  have hpass : (badPlace t n way || !s.received.presetWriteOk n f) = false ↔ inRange :=
    (s.received.presetWrite_inRange_iff t n way f).trans hrange.symm
  refine ⟨fun hbad => ?range, fun hok hvalid hant hchannel => ?conflict,
    fun r hvalid hant hchannel h1 h2 h3 h4 hq hcheck hok hfree => ?written⟩
  case range => exact exec_presetWrite_refused hready (by rwa [← hpass, Bool.not_eq_false] at hbad)
  case conflict =>
    rw [exec_presetWrite_inRange hready (hpass.mpr hok), State.writeWay_eq hu,
      if_pos ((PresetRecord.holds_iff _ _ _).mpr ⟨hvalid, hant, hchannel⟩)]
  case written =>
    obtain ⟨ht, ht', hn, hway, -, -, -, hs1, hs2, hs3, hs4, hqual, -⟩ := hrange.mp hok
    have hr : r = newRecord f.antenna f.channel f.s1 f.s2 f.s3 f.s4 f.quality := by
      simp only [← hant, ← hchannel, ← h1, ← h2, ← h3, ← h4, ← hq] at hs1 hs2 hs3 hs4 hqual ⊢
      exact PresetRecord.eq_newRecord hvalid hcheck hs1 hs2 hs3 hs4 hqual
    have husized : u.sized := hu ▸ State.sized.checkWay (s := s.received) hsized t n (1 - way) .host
    have hread (k : Nat) (st : Status) (b : List Byte) (x : PresetSet) :
        ((u.setPresetSet t n x).answer k st b).presetSet t n = x :=
      State.presetSet_setPresetSet x husized ht ht' hn
    have hlru : (u.presetSet t n).lru = (s.presetSet t n).lru :=
      hu ▸ State.checkWay_lru (s := s.received) hsized ht ht' hn
    obtain ⟨-, hsave, hss⟩ := State.checkWay_frame s.received t n (1 - way) .host
    rw [← hu] at hsave hss
    refine ⟨_, ?_, rfl, rfl, ?_, ?_, ?_, hss, hsave⟩
    · rw [exec_presetWrite_inRange hready (hpass.mpr hok), State.writeWay_eq hu,
        if_neg (fun hholds => hfree ((PresetRecord.holds_iff _ _ _).mp hholds)), ← hr]
    · rw [hread, PresetSet.way_setWay_self]
    · rw [hread, PresetSet.way_setWay_other _ _ hway]
    · rw [hread, PresetSet.setWay_lru, hlru]

end Sys2Proof.Machine

/-! # What every command keeps

`Keeps c s t` says, block by block, what command `c` may have changed from `s` to `t`; it is a preorder, hand-overs keep all of it, and
every command does. O3 and the frames of O5 to O8 are read off it. -/

namespace Sys2Proof

/-- The commands at which alert flags are cleared (R17, R210, R211). -/
def Instr.clearsAlerts : Instr → Bool
  | .coldReset => true
  | .restart => true
  | .alertClear _ => true
  | _ => false

/-- The commands at which flag `k` of antenna `a` may leave the fault set (R194 to R196). -/
def Instr.clearsFault (a k : Nat) : Instr → Bool
  | .coldReset => true
  | .configLoad => true
  | .hallSet _ => true
  | .faultClear b _ => b == a
  | .busResult _ _ => k == Machine.FaultFlag.unchecked.bit
  | _ => false

/-- The commands that set the protection settings (R14, R16, R174). -/
def Instr.setsProtection : Instr → Bool
  | .coldReset => true
  | .configLoad => true
  | .protSet _ => true
  | _ => false

/-- The commands that set the preset windows (R14, R16, R179). -/
def Instr.setsWindows : Instr → Bool
  | .coldReset => true
  | .configLoad => true
  | .presetWindow _ _ _ _ => true
  | _ => false

/-- The commands that set the freeze (R182, R193). -/
def Instr.setsFreeze : Instr → Bool
  | .coldReset => true
  | .presetFreeze _ => true
  | _ => false

/-- The commands that set the alert mask (R210, R211). -/
def Instr.setsMask : Instr → Bool
  | .coldReset => true
  | .alertMask _ => true
  | _ => false

/-- The commands that define the safety inputs (R14, R16, R134). -/
def Instr.definesInputs : Instr → Bool
  | .coldReset => true
  | .configLoad => true
  | .safetyDefine _ _ _ _ => true
  | _ => false

variable {c : Instr}

theorem Instr.clearsAlerts_eq_false (restart : c ≠ .restart) (cold : c ≠ .coldReset) (clear : ∀ f, c ≠ .alertClear f) :
    c.clearsAlerts = false := by
  unfold Instr.clearsAlerts; split <;> simp_all

theorem Instr.clearsFault_eq_false {a k : Nat} (cold : c ≠ .coldReset) (load : c ≠ .configLoad) (hall : ∀ p, c ≠ .hallSet p)
    (clear : ∀ f, c ≠ .faultClear a f) (bus : (∀ tag r, c ≠ .busResult tag r) ∨ k ≠ Machine.FaultFlag.unchecked.bit) :
    c.clearsFault a k = false := by
  unfold Instr.clearsFault
  split <;> simp_all

theorem Instr.setsProtection_eq_false (cold : c ≠ .coldReset) (load : c ≠ .configLoad) (set : ∀ p, c ≠ .protSet p) :
    c.setsProtection = false := by
  unfold Instr.setsProtection; split <;> simp_all

theorem Instr.setsWindows_eq_false (cold : c ≠ .coldReset) (load : c ≠ .configLoad) (set : ∀ w e b k, c ≠ .presetWindow w e b k) :
    c.setsWindows = false := by
  unfold Instr.setsWindows
  split
  next => exact absurd rfl cold
  next => exact absurd rfl load
  next w e b k => exact absurd rfl (set w e b k)
  next => rfl

theorem Instr.setsFreeze_eq_false (cold : c ≠ .coldReset) (set : ∀ x, c ≠ .presetFreeze x) : c.setsFreeze = false := by
  unfold Instr.setsFreeze; split <;> simp_all

theorem Instr.setsMask_eq_false (cold : c ≠ .coldReset) (set : ∀ m, c ≠ .alertMask m) : c.setsMask = false := by
  unfold Instr.setsMask; split <;> simp_all

theorem Instr.definesInputs_eq_false (cold : c ≠ .coldReset) (load : c ≠ .configLoad)
    (set : ∀ n k l r, c ≠ .safetyDefine n k l r) : c.definesInputs = false := by
  unfold Instr.definesInputs
  split
  next => exact absurd rfl cold
  next => exact absurd rfl load
  next n k l r => exact absurd rfl (set n k l r)
  next => rfl

end Sys2Proof

namespace Sys2Proof.Machine

open Sys2Proof

-- Each default proof of a field waits for all the text before it; in order, no theorem holds a thread while it does.
set_option Elab.async false

/-- Two inputs have one definition (R129). -/
def SafetyInput.SameDefinition (i j : SafetyInput) : Prop := i.kind = j.kind ∧ i.level = j.level ∧ i.rows = j.rows

/-- What `c` has left as it was in `s`, where its rules do not name it. -/
structure Keeps (c : Instr) (s t : State) : Prop where
  pending : t.pending = s.pending := by rfl
  clock : s.clock ≤ t.clock := by exact le_rfl
  sized : s.sized → t.sized := by exact id
  arrayWf : s.arrayWf → t.arrayWf := by exact id
  hall : c.changesHall = false → t.ht = s.ht := by exact fun _ => rfl
  locked : c ≠ .coldReset → s.ht.locked = true → t.ht.locked = true ∧ t.ht.licence = s.ht.licence := by exact fun _ h => ⟨h, rfl⟩
  array : c.changesArray = false → t.ss.array = s.ss.array := by exact fun _ => rfl
  time : c.changesTime = false → t.tb = s.tb := by exact fun _ => rfl
  settings : c.setsProtection = false → t.pt.settings = s.pt.settings := by exact fun _ => rfl
  windows : c.setsWindows = false → t.pc.windows = s.pc.windows := by exact fun _ => rfl
  frozen : c.setsFreeze = false → t.pc.frozen = s.pc.frozen := by exact fun _ => rfl
  mask : c.setsMask = false → t.lc.mask = s.lc.mask := by exact fun _ => rfl
  inputs : c.definesInputs = false → ∀ n, (t.input n).SameDefinition (s.input n) := by exact fun _ _ => ⟨rfl, rfl, rfl⟩
  alerts : c.clearsAlerts = false → ∀ k, s.lc.alerts.getLsbD k = true → t.lc.alerts.getLsbD k = true := by exact fun _ _ h => h
  faults : ∀ a k, c.clearsFault a k = false → (s.faultSet a).getLsbD k = true → (t.faultSet a).getLsbD k = true := by
    exact fun _ _ _ h => h

/-- A command ends with a next state and keeps what it must. -/
def Carries (c : Instr) (s : State) (o : Host.Outcome State Fault Refusal) : Prop := ∃ t, o = .next t ∧ Keeps c s t

variable {c : Instr} {b s t : State}

theorem State.sized_of_sizes (h : t.sizes = s.sizes) (hs : s.sized) : t.sized := h.trans hs

theorem Keeps.refl (c : Instr) (s : State) : Keeps c s s := {}

theorem Keeps.trans (h : Keeps c b s) (k : Keeps c s t) : Keeps c b t where
  pending := k.pending.trans h.pending
  clock := h.clock.trans k.clock
  sized := k.sized ∘ h.sized
  arrayWf := k.arrayWf ∘ h.arrayWf
  hall hc := (k.hall hc).trans (h.hall hc)
  locked hc hl := ⟨(k.locked hc (h.locked hc hl).1).1, (k.locked hc (h.locked hc hl).1).2.trans (h.locked hc hl).2⟩
  array hc := (k.array hc).trans (h.array hc)
  time hc := (k.time hc).trans (h.time hc)
  settings hc := (k.settings hc).trans (h.settings hc)
  windows hc := (k.windows hc).trans (h.windows hc)
  frozen hc := (k.frozen hc).trans (h.frozen hc)
  mask hc := (k.mask hc).trans (h.mask hc)
  inputs hc n := by
    obtain ⟨hk, hl, hr⟩ := h.inputs hc n
    obtain ⟨kk, kl, kr⟩ := k.inputs hc n
    exact ⟨kk.trans hk, kl.trans hl, kr.trans hr⟩
  alerts hc i hi := k.alerts hc i (h.alerts hc i hi)
  faults a i hc hi := k.faults a i hc (h.faults a i hc hi)

/-- Hand-overs keep all of it. -/
theorem Handed.keeps (h : Handed s t) : Keeps c s t where
  pending := congrArg Kept.pending h.kept
  clock := (congrArg Kept.clock h.kept).ge
  sized := State.sized_of_sizes (congrArg Kept.sizes h.kept)
  arrayWf hs := by
    have same : t.ss.array = s.ss.array := h.array
    rwa [State.arrayWf, same]
  hall _ := congrArg Kept.ht h.kept
  locked _ hl := by
    have same : t.ht = s.ht := congrArg Kept.ht h.kept
    rw [same]
    exact ⟨hl, rfl⟩
  array _ := h.array
  time _ := congrArg Kept.tb h.kept
  settings _ := congrArg Kept.settings h.kept
  windows _ := congrArg Kept.windows h.kept
  frozen _ := congrArg Kept.frozen h.kept
  mask _ := congrArg (fun k => k.lc.mask) h.kept
  inputs _ n := by
    have same : t.pu.inputs = s.pu.inputs := congrArg Kept.inputs h.kept
    simp only [State.input, same]
    exact ⟨rfl, rfl, rfl⟩
  alerts _ := h.alerts
  faults a k _ := h.faults a k

/-- Hand-overs after what has been kept so far. -/
theorem Keeps.handed (h : Keeps c b s) (k : Handed s t) : Keeps c b t := h.trans k.keeps

theorem Keeps.settled (h : Keeps c b s) : Keeps c b s.settled := h.handed s.settled_self

/-! ## Plain updates -/

theorem Keeps.reach (h : Keeps c b s) (m : Nat) : Keeps c b (s.reach m) := h.trans { clock := Nat.le_max_left _ _ }

/-- The Link Controller's receiver, buffer, counters and reply are not kept; its alert flags and mask are. -/
theorem Keeps.withLink (h : Keeps c b s) (l : LinkController) (alerts : l.alerts = s.lc.alerts) (mask : l.mask = s.lc.mask) :
    Keeps c b { s with lc := l } :=
  h.trans { mask := fun _ => mask, alerts := fun _ k hk => by rwa [← alerts] at hk }

theorem Keeps.answer (h : Keeps c b s) (k : Nat) (status : Status) (body : List Byte) : Keeps c b (s.answer k status body) :=
  h.withLink _ rfl rfl

theorem Keeps.hold (h : Keeps c b s) (k : Nat) : Keeps c b (s.hold k) := h.withLink _ rfl rfl

theorem Keeps.alert (h : Keeps c b s) (f : Alert) : Keeps c b (s.alert f) := h.handed ((Handed.refl s).alert f)

theorem Keeps.postOnce (h : Keeps c b s) (n : Notice) : Keeps c b (s.postOnce n) := h.handed ((Handed.refl s).postOnce n)

theorem Keeps.foldl {α : Type} {f : State → α → State} (hf : ∀ s x, Keeps c b s → Keeps c b (f s x)) (xs : List α) (s : State)
    (h : Keeps c b s) : Keeps c b (xs.foldl f s) := by
  induction xs generalizing s with
  | nil => exact h
  | cons x xs ih => exact ih _ (hf s x h)

/-- A command that changes the hall tables. -/
theorem Keeps.withHall (h : Keeps c b s) (x : HallTables) (allowed : c.changesHall = true)
    (sizes : x.txs.length = s.ht.txs.length ∧ x.ants.length = s.ht.ants.length ∨ ¬ s.sized)
    (locked : s.ht.locked = true → x.locked = true ∧ x.licence = s.ht.licence) : Keeps c b { s with ht := x } :=
  h.trans {
    sized := fun hs => by
      obtain ⟨txs, ants⟩ := sizes.resolve_right (not_not_intro hs)
      exact State.sized_of_sizes (by simp [State.sizes, txs, ants]) hs
    hall := fun hc => by simp [allowed] at hc
    locked := fun _ => locked }

theorem Keeps.setTime (h : Keeps c b s) (x : TimeBase) (allowed : c.changesTime = true) : Keeps c b (s.setTime x) :=
  h.trans { time := fun hc => by simp [allowed] at hc }

/-- An input changes its state, not its definition. -/
theorem Keeps.setInput (h : Keeps c b s) (n : Nat) (i : SafetyInput) (same : i.SameDefinition (s.input n) ∨ c.definesInputs = true) :
    Keeps c b (s.setInput n i) :=
  h.trans {
    sized := State.sized_of_sizes (by simp [State.sizes, State.setInput, Matrix.sizes, Executor.sizes])
    inputs := fun hc k => by
      have same := same.resolve_right (by simp [hc])
      by_cases hk : k = n
      · subst hk
        by_cases hin : 1 ≤ k ∧ k ≤ s.pu.inputs.length
        · rwa [State.input_setInput _ _ _ hin.1 hin.2]
        · have unchanged : setNth s.pu.inputs k i = s.pu.inputs := by
            unfold setNth
            split
            · rfl
            · exact List.set_eq_of_length_le (by omega)
          simp only [State.input, State.setInput_inputs, unchanged]
          exact ⟨rfl, rfl, rfl⟩
      · rw [State.input_setInput_ne _ _ _ _ hk]
        exact ⟨rfl, rfl, rfl⟩ }

/-- Arc holds and the armed reset alert are not kept; the rows' and inputs' tables are. -/
theorem Keeps.withPermits (h : Keeps c b s) (x : PermitUnit) (inputs : x.inputs = s.pu.inputs) (rows : x.rows.length = s.pu.rows.length)
    (holds : x.arcHolds.length = s.pu.arcHolds.length) : Keeps c b { s with pu := x } :=
  h.trans {
    sized := State.sized_of_sizes (by simp [State.sizes, inputs, rows, holds])
    inputs := fun _ n => by simp only [State.input, inputs]; exact ⟨rfl, rfl, rfl⟩ }

/-- The cache's directories and positions are not kept. -/
theorem Keeps.withCache (h : Keeps c b s) (x : PresetCache) (sizes : x.sizes = s.pc.sizes)
    (windows : x.windows = s.pc.windows ∨ c.setsWindows = true) (frozen : x.frozen = s.pc.frozen ∨ c.setsFreeze = true) :
    Keeps c b { s with pc := x } :=
  h.trans {
    sized := State.sized_of_sizes (by simp [State.sizes, sizes])
    windows := fun hc => windows.resolve_right (by simp [hc])
    frozen := fun hc => frozen.resolve_right (by simp [hc]) }

/-- A fault set keeps its flags, or loses those that the command may clear. -/
theorem Keeps.setFaultSet (h : Keeps c b s) (a : Nat) (f : FaultSet)
    (flags : ∀ k, c.clearsFault a k = false → (s.faultSet a).getLsbD k = true → f.getLsbD k = true) : Keeps c b (s.setFaultSet a f) :=
  h.trans {
    sized := State.sized_of_sizes (congrArg Kept.sizes (State.setFaultSet_kept s a f))
    faults := fun d k hc hk => by
      by_cases hd : d = a
      · subst hd
        by_cases hin : 1 ≤ d ∧ d ≤ s.ld.faults.length
        · rw [State.faultSet_setFaultSet _ _ _ hin.1 hin.2]
          exact flags k hc hk
        · have unchanged : setNth s.ld.faults d f = s.ld.faults := by
            unfold setNth
            split
            · rfl
            · exact List.set_eq_of_length_le (by omega)
          simpa only [State.faultSet, State.setFaultSet, unchanged] using hk
      · rwa [State.faultSet_setFaultSet_ne _ _ _ _ hd] }

/-! ## Requests -/

theorem Keeps.handleChecked (h : Keeps c b s) {f : State → State} (k : Nat) (checks : List (Bool × Status))
    (hf : checks.find? (fun c => c.1) = none → Keeps c b (f s)) : Keeps c b (s.handle k checks f) := by
  unfold State.handle
  split
  · exact h.answer _ _ _
  · next passed => exact hf passed

theorem Keeps.handle (h : Keeps c b s) {f : State → State} (k : Nat) (checks : List (Bool × Status)) (hf : Keeps c b (f s)) :
    Keeps c b (s.handle k checks f) := h.handleChecked k checks fun _ => hf

theorem Keeps.request (h : Keeps c b s) {f : State → State} (k : Nat) (checks : List (Bool × Status)) (hf : Keeps c b (f s)) :
    Keeps c b (s.request k checks f) := h.handle k checks hf.settled

theorem Keeps.report (h : Keeps c b s) (k : Nat) (checks : List (Bool × Status)) (body : List Byte) :
    Keeps c b (s.report k checks body) := h.handle k checks (h.answer _ _ _)

theorem Keeps.frameArrives (h : Keeps c b s) (f : WaitingFrame) : Keeps c b (s.frameArrives f) := by
  unfold State.frameArrives
  split
  · exact h.withLink _ rfl rfl
  · exact (h.withLink { s.lc with receiver := .hunt, counters := { s.lc.counters with
      overflow := satSucc 65535 s.lc.counters.overflow } } rfl rfl).alert _

/-- A request keeps what its handler keeps, whenever its frame is served. -/
theorem hostRequest_carries {f : State → State} (hf : ∀ u, Keeps c s u → Keeps c s (f u)) : Carries c s (hostRequest c f s) := by
  have h := Keeps.refl c s
  unfold hostRequest
  split
  · exact ⟨_, rfl, hf _ (h.withLink _ rfl rfl)⟩
  · split
    · exact ⟨_, rfl, hf _ (h.withLink _ rfl rfl)⟩
    · exact ⟨_, rfl, h.frameArrives _⟩

/-- A request whose effect is a hand-over, and then its reply. -/
theorem request_carries {k : Nat} {checks : State → List (Bool × Status)} {f : State → State} {body : State → List Byte}
    (hf : ∀ u, Handed u (f u)) :
    Carries c s (hostRequest c (fun u => u.request k (checks u) fun u => (f u).answer k .ok (body u)) s) :=
  hostRequest_carries fun u hu => hu.request _ _ ((hu.handed (hf u)).answer _ _ _)

theorem report_carries {k : Nat} {checks : State → List (Bool × Status)} {body : State → List Byte} :
    Carries c s (hostRequest c (fun u => u.report k (checks u) (body u)) s) :=
  hostRequest_carries fun _ hu => hu.report _ _ _

theorem Keeps.carries (h : Keeps c s t) : Carries c s (.next t) := ⟨t, rfl, h⟩

theorem carries_unchanged : Carries c s (.next s) := (Keeps.refl c s).carries

/-- An event whose effect is a hand-over, at the moment of its deadline or not. -/
theorem event_carries (h : Handed s t) : Carries c s (.next t.settled) := (h.keeps.settled).carries

theorem deadline_carries {m : Nat} (h : Handed (s.reach m) t) : Carries c s (.next t.settled) :=
  (((Keeps.refl c s).reach m).handed h).settled.carries

end Sys2Proof.Machine

namespace Sys2Proof.Machine

open Sys2Proof

set_option Elab.async false

variable {c : Instr} {b s t : State}

/-! ## The tables' lengths -/

/-- Every table has its length, table by table. -/
theorem State.sized_iff : s.sized ↔
    (s.ht.txs.length = 12 ∧ s.ht.ants.length = 24) ∧ (s.pu.rows.length = 12 ∧ s.pu.inputs.length = 8 ∧ s.pu.arcHolds.length = 24) ∧
    s.tq.length = 12 ∧ (s.pt.txs.length = 12 ∧ s.pt.arcs.length = 24) ∧
    (s.mc.movers.length = 372 ∧ s.mc.rowFaults.length = 12 ∧ s.mc.claims.length = 24) ∧
    (s.se.duties.length = 12 ∧ s.se.changeovers.length = 12) ∧ (s.ld.faults.length = 24 ∧ s.ld.lastChecked.length = 24) ∧
    s.pc.windows.length = 4 ∧ s.pc.directories.map List.length = List.replicate 12 64 := by
  simp only [State.sized, State.sizes, Matrix.sizes, Executor.sizes, Diagnostics.sizes, PresetCache.sizes, List.cons_append,
    List.nil_append, List.cons.injEq]
  tauto

/-! ## The Link Controller -/

theorem Keeps.discardFrame (h : Keeps c b s) (cause : FrameDiscard) : Keeps c b (s.discardFrame cause) :=
  (h.withLink { s.lc with receiver := .hunt, counters := s.lc.counters.discard cause } rfl rfl).alert _

theorem Keeps.takeHostOctet (h : Keeps c b s) (o : LineOctet) : Keeps c b (s.takeHostOctet o) := by
  unfold State.takeHostOctet State.hostEvent
  dsimp only
  split
  · exact h.withLink _ rfl rfl
  · exact h.withLink _ rfl rfl
  · exact h.discardFrame _
  · exact h.frameArrives _

theorem Keeps.clearAlerts (h : Keeps c b s) (flags : Nat) (allowed : c.clearsAlerts = true) : Keeps c b (s.clearAlerts flags) :=
  h.trans { alerts := fun hc => by simp [allowed] at hc }

/-! ## The hall tables -/

theorem cutAbove_length {α : Type} (n : Nat) (xs : List (Option α)) : (cutAbove n xs).length = xs.length := by simp [cutAbove]

theorem Keeps.resetSlot (h : Keeps c b s) (t : Nat) : Keeps c b (s.resetSlot t) := by
  refine h.handed ?_
  unfold State.resetSlot
  dsimp only
  have plan : Handed s (match s.change t with
      | some c => (s.releaseReservation t c.target.antenna).withdrawPreUse t
      | none => s) := by
    split
    · exact State.withdrawPreUse_handed (State.releaseReservation_handed (Handed.refl s) _ _) _
    · exact Handed.refl s
  exact (((plan.setDuty _ _).setChange _ _).setProt _ _).setSeq _ _

theorem Keeps.forgetAntenna (h : Keeps c b s) (a : Nat) (allowed : ∀ a k, c.clearsFault a k = true) :
    Keeps c b (s.forgetAntenna a) :=
  (h.setFaultSet a 0 fun k hc => by simp [allowed] at hc).handed ((Handed.refl _).setLastChecked a none)

theorem Keeps.checkLink (h : Keeps c b s) (t : Nat) : Keeps c b (s.checkLink t) := by
  unfold State.checkLink State.linkBecomesLost
  split
  · exact (h.handed (State.linkLossAt_handed (((Handed.refl s).setSeq t _).alert _) t)).postOnce _
  · exact h

theorem Keeps.checkStale (h : Keeps c b s) (t : Nat) : Keeps c b (s.checkStale t) := by
  unfold State.checkStale
  split
  · exact h.handed ((Handed.refl s).setProt _ _)
  · exact h

theorem Keeps.nextScrub (h : Keeps c b s) : Keeps c b s.nextScrub := h.withCache _ rfl (.inl rfl) (.inl rfl)

/-- What follows a change of the hall tables (R4, R98, R139, R194). -/
theorem Keeps.tablesChanged (h : Keeps c b s) (before : State) (allowed : ∀ a k, c.clearsFault a k = true) :
    Keeps c b (s.tablesChanged before) := by
  have slots := Keeps.foldl (fun u t (hu : Keeps c b u) => hu.resetSlot t)
    (slotsBetween before.params.txCount s.params.txCount) s h
  have antennas := Keeps.foldl (fun u a (hu : Keeps c b u) => hu.forgetAntenna a allowed)
    ((upTo 24).filter fun a => decide
      (((slotsBetween before.params.txCount s.params.txCount).foldl (fun s t => s.resetSlot t) s).params.antCount < a)) _ slots
  have present := antennas.handed (State.presenceChanged_handed (Handed.refl _) before)
  have links := Keeps.foldl (fun u t (hu : Keeps c b u) => (hu.checkLink t).checkStale t) (upTo 12) _ present
  unfold State.tablesChanged
  dsimp only
  split
  · exact (links.nextScrub.postOnce _).postOnce _
  · exact (links.postOnce _).postOnce _

theorem Keeps.setHall (h : Keeps c b s) (p : HallParams) (allowed : c.changesHall = true)
    (faults : ∀ a k, c.clearsFault a k = true) : Keeps c b (s.setHall p) :=
  (h.withHall (s.ht.withParams p) allowed (.inl (by simp [HallTables.withParams, cutAbove_length])) fun hl => ⟨hl, rfl⟩).tablesChanged
    s faults

theorem Keeps.setAnt (h : Keeps c b s) (a : Nat) (r : AntRecord) (allowed : c.changesHall = true) : Keeps c b (s.setAnt a r) := by
  have tables := h.withHall { s.ht with ants := setNth s.ht.ants a (some r) } allowed (.inl (by simp)) fun hl => ⟨hl, rfl⟩
  unfold State.setAnt
  exact (tables.handed (State.presenceChanged_handed ((Handed.refl _).addFault a .unchecked) s)).postOnce _

/-- A licence is only put in force while the lock is open (R10, R11). -/
theorem Keeps.takeLicence (h : Keeps c b s) (first total final : Nat) (lines : List LicenceLine) (allowed : c.changesHall = true)
    (unlocked : s.ht.locked = false) : Keeps c b (s.takeLicence first total final lines) := by
  unfold State.takeLicence
  dsimp only
  split
  · exact (h.withHall { s.ht with licence := s.stagedWith first lines, staging := none } allowed (.inl ⟨rfl, rfl⟩) fun hl => by
      simp [unlocked] at hl).handed (State.offer_handed (Handed.refl _) _ _)
  · exact h.withHall _ allowed (.inl ⟨rfl, rfl⟩) fun hl => ⟨hl, rfl⟩

/-! ## Safety inputs -/

theorem Keeps.activate (h : Keeps c b s) (n : Nat) : Keeps c b (s.activate n) := by
  have set := ((h.setInput n { s.input n with
    state := .active, activations := satSucc 65535 (s.input n).activations } (.inl ⟨rfl, rfl, rfl⟩)).postOnce .permits).alert .safety
  unfold State.activate
  dsimp only
  split
  · exact (set.handed (State.haltAll_handed (Handed.refl _))).postOnce _
  · exact set

theorem Keeps.beginRelease (h : Keeps c b s) (n : Nat) : Keeps c b (s.beginRelease n) :=
  h.setInput n _ (.inl ⟨rfl, rfl, rfl⟩)

theorem Keeps.inputReleased (h : Keeps c b s) (n : Nat) : Keeps c b (s.inputReleased n) := by
  have set := (h.setInput n { s.input n with state := .inactive, window := none } (.inl ⟨rfl, rfl, rfl⟩)).postOnce .permits
  unfold State.inputReleased
  dsimp only
  split
  · exact (set.handed (State.releaseHalt_handed (Handed.refl _))).postOnce _
  · exact set

theorem Keeps.defineInput (h : Keeps c b s) (n : Nat) (kind : SafetyKind) (level : Level) (rows : List Nat)
    (allowed : c.definesInputs = true) : Keeps c b (s.defineInput n kind level rows) := by
  have set := h.setInput n { s.input n with kind := kind, level := level, rows := rows } (.inr allowed)
  unfold State.defineInput
  dsimp only
  split
  · exact set.activate n
  · exact set

theorem State.input_setInput_cases (s : State) (n k : Nat) (x : SafetyInput) :
    (s.setInput n x).input k = x ∨ (s.setInput n x).input k = s.input k := by
  by_cases hk : k = n
  · subst hk
    by_cases hin : 1 ≤ k ∧ k ≤ s.pu.inputs.length
    · exact .inl (State.input_setInput _ _ _ hin.1 hin.2)
    · refine .inr ?_
      have unchanged : setNth s.pu.inputs k x = s.pu.inputs := by
        unfold setNth
        split
        · rfl
        · exact List.set_eq_of_length_le (by omega)
      simp [State.input, unchanged]
  · exact .inr (State.input_setInput_ne _ _ _ _ hk)

theorem Keeps.inputEdge (h : Keeps c b s) (n : Nat) (level : Level) : Keeps c b (s.inputEdge n level) := by
  have sensed := h.setInput n { s.input n with sensed := level } (.inl ⟨rfl, rfl, rfl⟩)
  unfold State.inputEdge
  dsimp only
  split
  · split
    · exact sensed.activate n
    · exact sensed
  · split
    · exact sensed
    · exact sensed.beginRelease n
  · split
    · refine sensed.setInput n _ (.inl ?_)
      obtain e | e := s.input_setInput_cases n n { s.input n with sensed := level } <;> rw [e] <;> exact ⟨rfl, rfl, rfl⟩
    · exact sensed

theorem Keeps.resetInputs (h : Keeps c b s) : Keeps c b s.resetInputs := by
  unfold State.resetInputs
  refine Keeps.foldl (fun u n hu => ?_) _ _ h
  dsimp only
  have active := hu.setInput n { u.input n with state := .active, window := none } (.inl ⟨rfl, rfl, rfl⟩)
  split
  · exact active
  · exact active.beginRelease n

theorem Keeps.restartInputs (h : Keeps c b s) : Keeps c b s.restartInputs := by
  have judged := h.resetInputs
  unfold State.restartInputs
  generalize s.resetInputs = u at judged
  exact judged.withPermits { u.pu with resetAlertAt := some (u.clock + u.contactMs) } rfl rfl rfl

theorem Keeps.resetAlert (h : Keeps c b s) : Keeps c b s.resetAlert := by
  have disarmed := h.withPermits { s.pu with resetAlertAt := none } rfl rfl rfl
  unfold State.resetAlert
  dsimp only
  split
  · exact disarmed.alert _
  · exact disarmed

theorem Keeps.setArcHold (h : Keeps c b s) (a : Nat) (d : Option Nat) : Keeps c b (s.setArcHold a d) :=
  h.withPermits _ rfl rfl (by simp)

/-! ## The configuration record -/

theorem Keeps.setWindow (h : Keeps c b s) (w : Nat) (x : PresetWindow) (allowed : c.setsWindows = true) :
    Keeps c b (s.setWindow w x) :=
  (h.withCache { s.pc with windows := setNth s.pc.windows w x } (by simp [PresetCache.sizes]) (.inr allowed) (.inl rfl)).handed
    (State.mapSets_handed (Handed.refl _) _)

theorem Keeps.withConfig (h : Keeps c b s) (x : ConfigRecord) (lengths : x.txs.length = 12 ∧ x.ants.length = 24)
    (hall : c.changesHall = true) (settings : c.setsProtection = true) : Keeps c b (s.withConfig x) := by
  have tables := h.withHall (HallTables.withParams { s.ht with txs := x.txs, ants := x.ants, configSource := .loaded } x.params) hall
    (by
      by_cases hs : s.sized
      · obtain ⟨⟨txs, ants⟩, -⟩ := State.sized_iff.mp hs
        exact .inl (by simp [HallTables.withParams, cutAbove_length, lengths, txs, ants])
      · exact .inr hs) fun hl => ⟨hl, rfl⟩
  exact tables.trans { settings := fun hc => by simp [settings] at hc }

theorem Keeps.applyConfig (h : Keeps c b s) (x : ConfigRecord) (lengths : x.txs.length = 12 ∧ x.ants.length = 24)
    (hall : c.changesHall = true) (settings : c.setsProtection = true) (inputs : c.definesInputs = true)
    (windows : c.setsWindows = true) (faults : ∀ a k, c.clearsFault a k = true) : Keeps c b (s.applyConfig x) := by
  have tables := h.withConfig x lengths hall settings
  have defined := Keeps.foldl (fun u (p : Nat × SafetyDef) (hu : Keeps c b u) =>
    hu.defineInput p.1 p.2.kind p.2.level p.2.rows inputs) (s.inputsDiffering x) _ tables
  have windowed := Keeps.foldl (fun u (p : Nat × PresetWindow) (hu : Keeps c b u) => hu.setWindow p.1 p.2 windows)
    ((x.windows.zipIdx).map fun p => (p.2 + 1, p.1)) _ defined
  have unchecked := Keeps.foldl (fun u a (hu : Keeps c b u) => hu.handed ((Handed.refl u).addFault a .unchecked)) (upTo 24) _ windowed
  exact unchecked.tablesChanged s faults

/-! ## The Time Base -/

theorem Keeps.timeEnds (h : Keeps c b s) (allowed : c.changesTime = true) : Keeps c b s.timeEnds := (h.setTime _ allowed).alert _

theorem Keeps.markSecond (h : Keeps c b s) (x : TimeBase) (n : Notice) (allowed : c.changesTime = true) :
    Keeps c b ((s.setTime x).post n) := (h.setTime x allowed).handed ((Handed.refl _).post n)

theorem Keeps.secondMark (h : Keeps c b s) (allowed : c.changesTime = true) : Keeps c b s.secondMark := by
  have elapsed := h.setTime s.tb.elapse allowed
  unfold State.secondMark
  dsimp only
  split
  · split <;> split
    · exact elapsed.timeEnds allowed
    · exact elapsed.markSecond _ _ allowed
    · exact elapsed.timeEnds allowed
    · exact elapsed.markSecond _ _ allowed
  · split <;> split
    · exact elapsed.timeEnds allowed
    · exact elapsed.markSecond _ _ allowed
    · exact elapsed.timeEnds allowed
    · exact elapsed.markSecond _ _ allowed
  · exact elapsed

theorem Keeps.firstMark (h : Keeps c b s) (p : PendingSet) (x : TimeState) (m : Option Nat) (allowed : c.changesTime = true) :
    Keeps c b (s.firstMark p x m) := h.markSecond _ _ allowed

theorem Keeps.acceptPulse (h : Keeps c b s) (allowed : c.changesTime = true) : Keeps c b s.acceptPulse := h.setTime _ allowed

theorem Keeps.ignorePulse (h : Keeps c b s) (allowed : c.changesTime = true) : Keeps c b s.ignorePulse := by
  unfold State.ignorePulse
  dsimp only
  split
  · exact h.setTime _ allowed
  · split
    · split
      · exact h.setTime _ allowed
      · exact h.setTime _ allowed
    · exact h.setTime _ allowed

theorem Keeps.pulse (h : Keeps c b s) (allowed : c.changesTime = true) : Keeps c b s.pulse := by
  unfold State.pulse
  split
  · exact h
  · split
    · exact h.firstMark _ _ _ allowed
    · exact h
  · split
    · exact (h.acceptPulse allowed).secondMark allowed
    · exact h.ignorePulse allowed
  · split
    · exact (h.acceptPulse allowed).secondMark allowed
    · split
      · split
        · exact h.acceptPulse allowed
        · exact h.ignorePulse allowed
      · exact h.ignorePulse allowed

/-! ## The Season Store -/

/-- An operation writes the array, in its canonical form. -/
theorem Keeps.withArray (h : Keeps c b s) (x : Store) (n : Nat) (allowed : c.changesArray = true)
    (wf : s.arrayWf → memWf x.array = true) : Keeps c b { s with ss := x, freeCount := n } :=
  h.trans { arrayWf := wf, array := fun hc => by simp [allowed] at hc }

theorem Keeps.undefine (h : Keeps c b s) (address length : Nat) (allowed : c.changesArray = true) :
    Keeps c b (s.undefine address length) := h.withArray _ _ allowed fun hs => memWriteAll_wf _ _ _ hs

theorem Keeps.cutShort (h : Keeps c b s) (allowed : c.changesArray = true) : Keeps c b s.cutShort := by
  unfold State.cutShort
  split
  · exact h.undefine _ _ allowed
  · exact h

theorem StoreOp.apply_wf (op : StoreOp) (m : List Host.Cell) (h : memWf m = true) : memWf (op.apply m) = true := by
  cases op with
  | erase k => exact memErase_wf m k h
  | program a data => exact memWriteAll_wf data m a h

theorem Keeps.operationPassed (h : Keeps c b s) (o : Operation) (allowed : c.changesArray = true) :
    Keeps c b (s.operationPassed o) := by
  unfold State.operationPassed
  dsimp only
  have written := h.withArray { s.ss with
    array := o.op.apply s.ss.array
    failedSectors := match o.op with
      | .erase k => s.ss.failedSectors.filter (· != k)
      | .program _ _ => s.ss.failedSectors } s.freeCount allowed fun hs => o.op.apply_wf _ hs
  split
  · exact written.handed (State.operationDone_handed (State.hostOpEnds_handed (Handed.refl _) _))
  · exact written.handed (State.operationDone_handed (Handed.refl _))

theorem Keeps.operationFailed (h : Keeps c b s) (o : Operation) (allowed : c.changesArray = true) :
    Keeps c b (s.operationFailed o) := by
  have undefined : Keeps c b (match o.op with
      | .erase k => s.undefineSector k
      | .program a data => s.undefine a data.length) := by
    split
    · exact h.undefine _ _ allowed
    · exact h.undefine _ _ allowed
  unfold State.operationFailed
  extract_lets u
  have recorded : Keeps c b u := undefined.handed (State.recordFailure_handed (Handed.refl _) _ _ _)
  split
  · exact recorded.handed (State.operationDone_handed (State.hostOpEnds_handed (Handed.refl u) _))
  · exact recorded.handed (State.operationDone_handed (State.itemEnds_handed (Handed.setStore (Handed.refl u) (by rfl)) _ _))

/-- An overrun once its failure has been recorded (R37). -/
theorem State.overrun_recorded {s base : State} {o : Operation}
    (hbase : (s.undefineSector o.op.sector).recordFailure o.op o.owner .overrun = base) : Handed base (s.overrun o) := by
  unfold State.overrun
  rw [hbase]
  extract_lets recorded _ stopped _ ended _ emptied
  have records : Handed base recorded := Handed.refl base
  have stops : Handed base stopped := State.serveAll_handed (records.setStore (by rfl))
  have ends : Handed base ended := by
    unfold ended
    split
    · exact State.hostOpEnds_handed stops _
    · exact State.itemEnds_handed (stops.setStore (by rfl)) _ _
  have empties : Handed base emptied := Handed.foldl (fun v x hv => State.itemEnds_handed hv _ _) _ _ (ends.setStore (by rfl))
  split
  · exact empties
  · exact empties.postOnce _

theorem Keeps.overrun (h : Keeps c b s) (o : Operation) (allowed : c.changesArray = true) : Keeps c b (s.overrun o) :=
  ((h.undefine _ _ allowed).handed (State.recordFailure_handed (Handed.refl _) _ _ _)).handed (State.overrun_recorded rfl)

/-! ## The Preset Cache -/

theorem Keeps.setFreeze (h : Keeps c b s) (on : Bool) (allowed : c.setsFreeze = true) : Keeps c b (s.setFreeze on) := by
  have set := h.withCache { s.pc with frozen := on } rfl (.inl rfl) (.inr allowed)
  unfold State.setFreeze
  dsimp only
  split
  · exact set.handed (State.endRestore_handed (Handed.refl _) _)
  · exact set

/-- A directory replaced by one of its own length. -/
theorem setNth_lengths (ds : List (List PresetSet)) (t : Nat) (f : PresetSet → PresetSet) :
    (setNth ds t ((nth ds [] t).map f)).map List.length = ds.map List.length := by
  unfold setNth nth
  split
  · rfl
  · rw [List.map_set, List.length_map]
    by_cases hin : t - 1 < ds.length
    · have same : (List.map List.length ds)[t - 1]'(by simpa using hin) = ds[t - 1].length := List.getElem_map _
      simp only [List.getD, List.getElem?_eq_getElem hin, Option.getD_some, ← same, List.set_getElem_self]
    · exact List.set_eq_of_length_le (by simpa using Nat.le_of_not_lt hin)

theorem Keeps.flush (h : Keeps c b s) (scope t ant channel : Nat) : Keeps c b (s.flush scope t ant channel) := by
  unfold State.flush
  split
  · refine h.handed ?_
    have read := State.readSet_handed (Handed.refl s) t (keySet ant channel) .host
    unfold State.flushKey
    dsimp only
    split
    · exact read.setPresetSet _ _ _
    · exact read
  · split
    · refine h.withCache _ ?_ (.inl rfl) (.inl rfl)
      simp [PresetCache.sizes, setNth_lengths]
    · exact h.handed (State.mapSets_handed (Handed.refl s) _)

theorem PresetCache.advanceScrub_frame (x : PresetCache) :
    x.advanceScrub.sizes = x.sizes ∧ x.advanceScrub.windows = x.windows ∧ x.advanceScrub.frozen = x.frozen := by
  unfold PresetCache.advanceScrub
  split
  · exact ⟨rfl, rfl, rfl⟩
  · split
    · exact ⟨rfl, rfl, rfl⟩
    · exact ⟨rfl, rfl, rfl⟩

theorem State.scrubRecord_handed (h : Handed b s) : Handed b s.scrubRecord := by
  unfold State.scrubRecord
  dsimp only
  split
  · exact State.checkWay_handed h _ _ _ _
  · split
    · exact h
    · split
      · exact State.checkDuplicate_handed (State.checkWay_handed (State.checkWay_handed h _ _ _ _) _ _ _ _) _ _ _
      · exact State.checkWay_handed h _ _ _ _

theorem Keeps.scrub (h : Keeps c b s) : Keeps c b s.scrub := by
  obtain ⟨sizes, windows, frozen⟩ := s.scrubRecord.pc.advanceScrub_frame
  exact ((h.handed (State.scrubRecord_handed (Handed.refl s))).withCache _ sizes (.inl windows) (.inl frozen)).nextScrub

/-! ## Line diagnostics -/

theorem Keeps.removeFaults (h : Keeps c b s) (a flags : Nat) (allowed : ∀ k, c.clearsFault a k = true) :
    Keeps c b (s.removeFaults a flags) := (h.setFaultSet a _ fun k hc => by simp [allowed] at hc).postOnce _

/-- A result removes UNCHECKED alone (R196). -/
theorem Keeps.removeUnchecked (h : Keeps c b s) (a : Nat) (allowed : c.clearsFault a FaultFlag.unchecked.bit = true) :
    Keeps c b (s.removeUnchecked a) := by
  refine (h.setFaultSet a _ fun k hc hk => ?_).postOnce _
  have other : k ≠ 0 := by
    rintro rfl
    exact absurd allowed (by simp [show FaultFlag.unchecked.bit = 0 from rfl, hc])
  have width := BitVec.lt_of_getLsbD hk
  have clear : FaultFlag.unchecked.mask.getLsbD k = false := by
    have := (by decide : ∀ k : Fin 8, k ≠ 0 → FaultFlag.unchecked.mask.getLsbD k = false) ⟨k, width⟩
    exact this (by simpa [Fin.ext_iff] using other)
  rw [BitVec.getLsbD_and, BitVec.getLsbD_not, clear, hk]
  simp [width]

theorem Keeps.checkUnchecked (h : Keeps c b s) (i : Nat) (allowed : ∀ a, c.clearsFault a FaultFlag.unchecked.bit = true) :
    Keeps c b (s.checkUnchecked i) := by
  unfold State.checkUnchecked
  dsimp only
  split
  · exact h.removeUnchecked _ (allowed _)
  · exact h

theorem Keeps.stepResult (h : Keeps c b s) (i : Nat) (d : DiagStep) (r : BusResult)
    (allowed : ∀ a, c.clearsFault a FaultFlag.unchecked.bit = true) : Keeps c b (s.stepResult i d r) := by
  have flagged : ∀ e f, Keeps c b ((s.setPlan i e).runFlag i f) := fun e f =>
    h.handed (State.runFlag_handed (State.setPlan_handed (Handed.refl s) i e) i f)
  unfold State.stepResult
  dsimp only
  split
  · exact (h.handed (State.setPlan_handed (State.insulPassed_handed (Handed.refl s) _) i _)).checkUnchecked i allowed
  · exact flagged _ _
  · exact (h.handed (State.setPlan_handed (Handed.refl s) i _)).checkUnchecked i allowed
  · exact flagged _ _
  · have limited : ∀ (limit : Nat) (e f : PlanEntry) (q : Nat),
        Keeps c b (if q ≤ limit then s.setPlan i e else (s.setPlan i f).runFlag i .mismatch) := fun limit e f q => by
      split
      · exact h.handed (State.setPlan_handed (Handed.refl s) i e)
      · exact flagged _ _
    exact limited _ _ _ _
  · exact h
  · exact h

theorem State.crossResult_handed (h : Handed b s) (i a : Nat) (discard : Bool) (r : BusResult) :
    Handed b (s.crossResult i a discard r) := by
  have plan := fun e => State.setPlan_handed h i e
  unfold State.crossResult
  dsimp only
  generalize (if discard = true then CrossResult.notTested else if r = .pass then .pass else .fail) = found
  split
  · exact (State.markPlan_handed (State.runFlag_handed (plan _) i .cross) a .cross).addFault _ _
  · exact plan _

theorem State.preUseResult_handed (h : Handed b s) (u : PreUse) (r : BusResult) : Handed b (s.preUseResult u r) := by
  unfold State.preUseResult
  dsimp only
  split
  · exact State.openPreUse_handed ((State.insulPassed_handed h _).post _) _
  · exact State.openPreUse_handed ((h.addFault _ _).post _) _

theorem Keeps.measurementAnswered (h : Keeps c b s) (m : Measurement) (r : BusResult)
    (allowed : ∀ a, c.clearsFault a FaultFlag.unchecked.bit = true) : Keeps c b (s.measurementAnswered m r) := by
  have cleared := h.handed ((Handed.refl s).setDiag (x := { s.ld with measurement := none }) rfl rfl)
  unfold State.measurementAnswered
  dsimp only
  refine Keeps.postOnce ?_ _
  split
  · exact cleared.handed (State.preUseResult_handed (Handed.refl _) _ _)
  · exact cleared
  · split
    · split
      · exact cleared.handed (State.setPosition_handed ((Handed.refl _).setDiag (by rfl) (by rfl)) _)
      · exact cleared.handed (State.endRun_handed (State.setBusFault_handed (Handed.refl _) _) _)
    · refine cleared.handed ?_
      split
      · exact State.crossNext_handed (State.crossResult_handed (Handed.refl _) _ _ _ _) 4 _
      · exact State.stepsGoOn_handed (State.crossNext_handed (State.crossResult_handed (Handed.refl _) _ _ _ _) 4 _) _ _ _
    · split
      · exact cleared
      · exact (cleared.stepResult _ _ _ allowed).handed (State.stepsGoOn_handed (Handed.refl _) _ _ _)
    · exact cleared

theorem Keeps.takeBusResult (h : Keeps c b s) (tag : Nat) (r : BusResult)
    (allowed : ∀ a, c.clearsFault a FaultFlag.unchecked.bit = true) : Keeps c b (s.takeBusResult tag r) := by
  unfold State.takeBusResult
  split
  · exact h
  · split
    · exact h
    · split
      · exact h.measurementAnswered _ _ allowed
      · exact h.handed (State.measurementLost_handed (Handed.refl s))

/-! ## Transmitter links -/

theorem Keeps.takeLinkOctet (h : Keeps c b s) (t : Nat) (x : Byte) : Keeps c b (s.takeLinkOctet t x) := by
  unfold State.takeLinkOctet
  dsimp only
  split
  · exact h.handed ((Handed.refl s).setSeq _ _)
  · exact h.handed ((Handed.refl s).setSeq _ _)
  · exact h.handed ((Handed.refl s).setSeq _ _)
  · exact (h.handed (State.takeReport_handed (Handed.refl s) _ _)).settled

end Sys2Proof.Machine

namespace Sys2Proof.Machine

open Sys2Proof

set_option Elab.async false

variable {c : Instr} {b s t : State}

/-! ## The resets -/

theorem Keeps.resetMatrix (h : Keeps c b s) : Keeps c b s.resetMatrix := by
  have blank : Keeps c s { s with mc := { Matrix.reset with
      movers := s.mc.movers.map (fun x => Mover.reset x.contacts), survey := .running none false, surveyed := false } } :=
    { sized := fun hs => by
        obtain ⟨hall, permits, seqs, prots, ⟨movers, -, -⟩, rest⟩ := State.sized_iff.mp hs
        exact State.sized_iff.mpr ⟨hall, permits, seqs, prots, ⟨(List.length_map _).trans movers, rfl, rfl⟩, rest⟩ }
  exact (h.trans blank).handed (State.startSurvey_handed (Handed.refl _) none)

theorem State.coldBlocks_sized (hs : s.sized) : s.coldBlocks.sized := by
  obtain ⟨-, ⟨-, inputs, -⟩, -, -, ⟨movers, -, -⟩, -⟩ := State.sized_iff.mp hs
  have inputs' : s.coldBlocks.pu.inputs.length = 8 := (List.length_map _).trans inputs
  have movers' : s.coldBlocks.mc.movers.length = 372 := (List.length_map _).trans movers
  exact State.sized_iff.mpr ⟨⟨rfl, rfl⟩, ⟨rfl, inputs', rfl⟩, rfl, ⟨rfl, rfl⟩, ⟨movers', rfl, rfl⟩, ⟨rfl, rfl⟩, ⟨rfl, rfl⟩, rfl, rfl⟩

theorem State.restartBlocks_sized (hs : s.sized) : s.restartBlocks.sized := by
  obtain ⟨hall, ⟨-, inputs, -⟩, seqs, ⟨txs, arcs⟩, matrix, -, diag, cache⟩ := State.sized_iff.mp hs
  have seqs' : s.restartBlocks.tq.length = 12 := (List.length_map _).trans seqs
  have txs' : s.restartBlocks.pt.txs.length = 12 := (List.length_map _).trans txs
  have arcs' : s.restartBlocks.pt.arcs.length = 24 := (List.length_map _).trans arcs
  exact State.sized_iff.mpr ⟨hall, ⟨rfl, inputs, rfl⟩, seqs', ⟨txs', arcs'⟩, matrix, ⟨rfl, rfl⟩, diag, cache⟩

theorem Keeps.coldBlocks (h : Keeps .coldReset b s) : Keeps .coldReset b s.coldBlocks :=
  h.trans {
    sized := State.coldBlocks_sized
    hall := nofun, locked := fun hc => absurd rfl hc, time := nofun, settings := nofun, windows := nofun, frozen := nofun
    mask := nofun, inputs := nofun, alerts := nofun, faults := nofun }

theorem Keeps.loadConfig (h : Keeps .coldReset b s) : Keeps .coldReset b s.loadConfig := by
  unfold State.loadConfig
  split
  · next source x hx =>
    obtain ⟨txs, ants, inputs, windows⟩ := readConfig_lengths hx
    exact (h.withConfig x ⟨txs, ants⟩ rfl rfl).trans {
      sized := fun hs => by
        rw [State.sized_iff] at hs ⊢
        obtain ⟨hall, ⟨rows, defs, holds⟩, rest⟩ := hs
        simp_all
      windows := nofun, inputs := nofun, faults := nofun }
  · exact h.withHall _ rfl (.inl ⟨rfl, rfl⟩) fun hl => ⟨hl, rfl⟩

theorem Keeps.loadLicence (h : Keeps .coldReset b s) : Keeps .coldReset b s.loadLicence :=
  h.trans { sized := State.sized_of_sizes rfl, hall := nofun, locked := fun hc => absurd rfl hc }

theorem Keeps.coldReset (h : Keeps .coldReset b s) : Keeps .coldReset b s.coldReset :=
  ((h.cutShort rfl).coldBlocks.loadConfig.loadLicence.restartInputs.nextScrub).resetMatrix.handed
    (State.startScan_handed (Handed.refl _))

theorem Keeps.restartBlocks (h : Keeps .restart b s) : Keeps .restart b s.restartBlocks :=
  h.trans {
    sized := State.restartBlocks_sized
    hall := nofun, alerts := nofun }

theorem Keeps.restart (h : Keeps .restart b s) : Keeps .restart b s.restart := by
  have ended := h.handed (State.endRestore_handed (State.endSave_handed (Handed.refl s) .reset) .reset)
  exact ((ended.cutShort rfl).restartBlocks.restartInputs).resetMatrix.handed (State.startScan_handed (Handed.refl _))

/-! ## Orders of the host, R159 -/

theorem Keeps.orderTaken (h : Keeps c b s) (t : Nat) (kind : OrderKind) : Keeps c b (s.orderTaken t kind) := h.settled.answer _ _ _

theorem order_carries {k : Nat} {checks : State → List (Bool × Status)} {f : State → State} {t : Nat} {kind : OrderKind}
    (hf : ∀ u, Handed u (f u)) :
    Carries c s (hostRequest c (fun u => u.request k (checks u) fun u => (f u).orderTaken t kind) s) :=
  hostRequest_carries fun u hu => hu.request _ _ ((hu.handed (hf u)).orderTaken _ _)

theorem Keeps.hostTunePreset (h : Keeps c b s) (t freq : Nat) : Keeps c b (s.hostTunePreset t freq) := by
  have taken := h.handed (State.takeTunePreset_handed (Handed.refl s) t freq .host)
  unfold State.hostTunePreset
  dsimp only
  split
  · exact taken.orderTaken _ _
  · exact taken.answer _ _ _

/-! ## Books, matrix and executor -/

theorem State.offerLoadPage_handed (h : Handed b s) (n slot page : Nat) (records : List (List Byte)) :
    Handed b (s.offerLoadPage n slot page records) := State.offer_handed h _ _

theorem State.addEntry_handed (h : Handed b s) (n : Nat) (record : List Byte) : Handed b (s.addEntry n record) := by
  unfold State.addEntry
  dsimp only
  split
  · exact h.setBook _ _
  · exact State.offerLoadPage_handed (h.setBook _ _) _ _ _ _

theorem State.sealBook_handed (h : Handed b s) (n count crc : Nat) : Handed b (s.sealBook n count crc) := by
  unfold State.sealBook
  dsimp only
  split
  · exact State.markDue_handed (h.setBook _ _) _ _ _
  · exact State.markDue_handed ((State.offerLoadPage_handed (h.setBook _ _) _ _ _ _).setBook _ _) _ _ _

theorem State.eraseBook_handed (h : Handed b s) (n : Nat) : Handed b (s.eraseBook n) := (State.offer_handed h _ _).setBook _ _

theorem State.cancelHandover_handed (h : Handed b s) (n : Nat) : Handed b (s.cancelHandover n) := by
  unfold State.cancelHandover
  dsimp only
  split
  · exact State.markDue_handed (h.setBook _ _) _ _ _
  · exact h

theorem State.startExecutor_handed (h : Handed b s) : Handed b s.startExecutor := by
  have running := h.withExecutor (x := { s.se with state := .running }) rfl
  unfold State.startExecutor
  dsimp only
  split
  · exact State.seasonCheck_handed running _
  · exact running

theorem State.stopExecutor_handed (h : Handed b s) : Handed b s.stopExecutor :=
  Handed.foldl (fun _ t hu => State.releaseHeld_handed hu t) _ _
    (State.dropPlans_handed (h.withExecutor (x := { s.se with state := .stopped }) rfl))

theorem State.releaseExecutor_handed (h : Handed b s) : Handed b s.releaseExecutor := by
  have rebuilt : Handed b (if s.se.rebuild then s.rebuildHandled else s) := by
    split
    · exact State.rebuildHandled_handed h
    · exact h
  unfold State.releaseExecutor
  generalize (if s.se.rebuild then s.rebuildHandled else s) = u at rebuilt
  have cleared := rebuilt.withExecutor (x := { u.se with rebuild := false }) rfl
  dsimp only
  split
  · exact cleared.withExecutor rfl
  · next i _ =>
    have released := State.releasePlans_handed cleared i
    generalize State.releasePlans _ i = v at released
    exact State.executorPass_handed (released.withExecutor (x := { v.se with state := .running }) rfl) _ _

theorem State.forgetEntry_handed (h : Handed b s) (t : Nat) : Handed b (s.forgetEntry t) := by
  unfold State.forgetEntry
  split
  · exact State.recordOutcome_handed h _ _ _ _ _ _ _ _
  · exact h

theorem State.toManual_handed (h : Handed b s) (t : Nat) : Handed b (s.toManual t) := by
  unfold State.toManual
  split
  · exact h
  · exact State.recoveryTest_handed (State.updateDuty_handed (State.forgetEntry_handed (State.dropPlan_handed h t) t) _ _) _

theorem State.toAuto_handed (h : Handed b s) (t : Nat) : Handed b (s.toAuto t) := by
  have auto := State.updateDuty_handed h t fun d => { d with mode := .auto, handledThrough := none }
  unfold State.toAuto
  dsimp only
  split
  · exact h
  · split
    · exact State.clearTrip_handed auto _ _
    · split
      · exact State.updateDuty_handed auto _ _
      · exact auto

theorem State.hostMove_handed (h : Handed b s) (m code : Nat) : Handed b (s.hostMove m code) := by
  unfold State.hostMove
  split
  · exact State.requestMotion_handed h _ _ _ _
  · exact h

theorem State.readAgain_handed (h : Handed b s) (m : Nat) : Handed b (s.readAgain m) := by
  have told := State.tellAll_handed (State.tellAll_handed (h.setMover m
    { (s.mover m).idle with confirmed := none, fault := none, watch := none, followOn := none }) m false (s.mover m).askers)
    m false (s.mover m).waiters
  exact (State.startRead_handed told m false).postOnce _

theorem State.clearRowFault_handed (h : Handed b s) (t : Nat) : Handed b (s.clearRowFault t) := by
  unfold State.clearRowFault
  split
  · exact h
  · exact State.startSurvey_handed (((h.setRowFault _ _).postOnce _).postOnce _) _

theorem State.clearMover_handed (h : Handed b s) (m : Nat) : Handed b (s.clearMover m) := by
  have again := State.readAgain_handed h m
  unfold State.clearMover
  dsimp only
  split
  · exact State.clearRowFault_handed again _
  · exact again

theorem State.watchContact_handed (h : Handed b s) (m : Nat) (p q : Position) (made : Bool) :
    Handed b (s.watchContact m p q made) := by
  unfold State.watchContact
  dsimp only
  split
  · exact h
  · split
    · exact h.setMover _ _
    · split
      · exact h
      · exact (h.setMover _ _).postOnce _

theorem State.contactMoves_handed (h : Handed b s) (m : Nat) (p : Position) (made : Bool) : Handed b (s.contactMoves m p made) := by
  unfold State.contactMoves
  dsimp only
  split
  · exact h
  · split
    · split
      · exact State.beginSettle_handed h _
      · exact h
    · split
      · exact h.setMover _ _
      · exact h
    · split
      · exact h.setMover _ _
      · exact h
    · exact h
    · split
      · exact State.watchContact_handed h _ _ _ _
      · exact h
    · split
      · exact State.watchContact_handed h _ _ _ _
      · exact h

theorem State.contactChanges_handed (h : Handed b s) (m : Nat) (p : Position) (made : Bool) :
    Handed b (s.contactChanges m p made) := by
  unfold State.contactChanges
  dsimp only
  split
  · exact h.setMover _ _
  · split
    · exact State.faultMover_handed (h.setMover _ _) _ _
    · exact State.contactMoves_handed ((h.setMover _ _).setMover _ _) _ _ _

theorem State.settleEnds_handed (h : Handed b s) (m : Nat) : Handed b (s.settleEnds m) := by
  unfold State.settleEnds
  dsimp only
  split
  · exact State.beginValidate_handed h _
  · exact h.setMover _ _

theorem State.watchEnds_handed (h : Handed b s) (m : Nat) (w : Watch) : Handed b (s.watchEnds m w) := by
  unfold State.watchEnds
  split
  · exact (h.setMover _ _).postOnce _
  · exact State.faultMover_handed h _ _

theorem State.linkBecomesLost_handed (h : Handed b s) (t : Nat) : Handed b (s.linkBecomesLost t) :=
  (State.linkLossAt_handed ((h.setSeq _ _).alert _) _).postOnce _

theorem State.leaveLockout_handed (h : Handed b s) (t : Nat) : Handed b (s.leaveLockout t) := by
  unfold State.leaveLockout
  split
  · exact State.enterSeq_handed h _ _ _
  · exact h

theorem State.clearLockout_handed (h : Handed b s) (t : Nat) : Handed b (s.clearLockout t) := by
  unfold State.clearLockout
  split
  · exact (State.leaveLockout_handed (h.setProt _ _) _).postOnce _
  · exact h.setProt _ _

theorem State.startRestore_handed (h : Handed b s) : Handed b s.startRestore :=
  State.readRestorePage_handed (h.withCache (x := { s.pc with restore := some { next := 0, dueAt := s.clock, waiting := false, counts :=
    { blank := 0, invalid := 0, bad := 0, windowed := 0, present := 0, full := 0, installed := 0 } } }) rfl rfl rfl rfl)

theorem State.startHostOp_handed (h : Handed b s) (op : StoreOp) : Handed b (s.startHostOp op) :=
  (State.startOp_handed h _ _).setStore rfl

theorem Keeps.readEntry (h : Keeps c b s) (n position : Nat) : Keeps c b (s.readEntry n position) := by
  unfold State.readEntry State.entryReadServed
  split
  · split
    · exact h.answer _ _ _
    · exact h.answer _ _ _
  · split
    · exact (h.hold _).handed (State.requestRead_handed (Handed.refl _) _ _ _)
    · exact h.answer _ _ _

theorem Keeps.writeWay (h : Keeps c b s) (t n way : Nat) (f : PresetFields) : Keeps c b (s.writeWay t n way f) := by
  have read := h.handed (State.checkWay_handed (Handed.refl s) t n (1 - way) .host)
  unfold State.writeWay
  dsimp only
  split
  · exact read.answer _ _ _
  · exact (read.handed ((Handed.refl _).setPresetSet _ _ _)).answer _ _ _

theorem Keeps.clearFaults {a flags : Nat} (h : Keeps (.faultClear a flags) b s) : Keeps (.faultClear a flags) b (s.clearFaults a flags) := by
  unfold State.clearFaults
  split
  · exact (h.handed ((Handed.refl s).setDiag (by rfl) (by rfl))).answer _ _ _
  · exact (h.removeFaults a flags fun k => by simp [Instr.clearsFault]).answer _ _ _

/-! ## Every command -/

/-- A report changes nothing but the reply. -/
theorem query_carries (query : c.isQuery = true) (s : State) : Carries c s (exec c s) := by
  cases c with
  | echo data =>
    show Carries _ s (execEcho data s)
    exact hostRequest_carries fun u hu => hu.report _ _ _
  | ident =>
    show Carries _ s (execIdent s)
    exact hostRequest_carries fun u hu => hu.report _ _ _
  | alertQuery =>
    show Carries _ s (execAlertQuery s)
    exact hostRequest_carries fun u hu => hu.report _ _ _
  | unknownKindRequest kind =>
    show Carries _ s (execUnknownKindRequest kind s)
    exact hostRequest_carries fun u hu => hu.answer _ _ _
  | hallQuery =>
    show Carries _ s (execHallQuery s)
    exact hostRequest_carries fun u hu => hu.report _ _ _
  | txQuery tx =>
    show Carries _ s (execTxQuery tx s)
    exact hostRequest_carries fun u hu => hu.report _ _ _
  | antQuery ant =>
    show Carries _ s (execAntQuery ant s)
    exact hostRequest_carries fun u hu => hu.report _ _ _
  | licenceQuery first =>
    show Carries _ s (execLicenceQuery first s)
    exact hostRequest_carries fun u hu => hu.report _ _ _
  | timeQuery =>
    show Carries _ s (execTimeQuery s)
    exact hostRequest_carries fun u hu => hu.report _ _ _
  | storeStatus =>
    show Carries _ s (execStoreStatus s)
    exact hostRequest_carries fun u hu => hu.report _ _ _
  | bookQuery book =>
    show Carries _ s (execBookQuery book s)
    exact hostRequest_carries fun u hu => hu.report _ _ _
  | findingsQuery book =>
    show Carries _ s (execFindingsQuery book s)
    exact hostRequest_carries fun u hu => hu.report _ _ _
  | dutyQuery tx =>
    show Carries _ s (execDutyQuery tx s)
    exact hostRequest_carries fun u hu => hu.report _ _ _
  | moverQuery mover =>
    show Carries _ s (execMoverQuery mover s)
    exact hostRequest_carries fun u hu => hu.report _ _ _
  | antennaStatus ant =>
    show Carries _ s (execAntennaStatus ant s)
    exact hostRequest_carries fun u hu => hu.report _ _ _
  | permitQuery =>
    show Carries _ s (execPermitQuery s)
    exact hostRequest_carries fun u hu => hu.report _ _ _
  | txStatus tx =>
    show Carries _ s (execTxStatus tx s)
    exact hostRequest_carries fun u hu => hu.report _ _ _
  | protQuery tx =>
    show Carries _ s (execProtQuery tx s)
    exact hostRequest_carries fun u hu => hu.report _ _ _
  | diagQuery =>
    show Carries _ s (execDiagQuery s)
    exact hostRequest_carries fun u hu => hu.report _ _ _
  | _ => cases query

theorem coldReset_carries (s : State) : Carries .coldReset s (execColdReset s) := by
  unfold execColdReset
  exact Keeps.carries (Keeps.settled (Keeps.coldReset (Keeps.refl _ _)))

theorem restart_carries (s : State) :
    Carries (.restart) s (execRestart s) := by
  exact hostRequest_carries fun u hu => (hu.answer _ _ _).restart.settled

theorem alertClear_carries (flags : Nat) (s : State) :
    Carries (.alertClear flags) s (execAlertClear flags s) := by
  exact hostRequest_carries fun u hu => hu.handle _ _ ((hu.clearAlerts flags rfl).answer _ _ _)

theorem alertMask_carries (mask : Nat) (s : State) :
    Carries (.alertMask mask) s (execAlertMask mask s) := by
  exact hostRequest_carries fun u hu => hu.handle _ _ ((hu.trans (t := { u with lc := { u.lc with mask := BitVec.ofNat 16 mask } })
    { mask := fun hc => by simp [Instr.setsMask] at hc }).answer _ _ _)

theorem hostFrameDiscard_carries (octets : List LineOctet) (s : State) :
    Carries (.hostFrameDiscard octets) s (execHostFrameDiscard octets s) := by
  have h := Keeps.refl (.hostFrameDiscard octets) s
  exact (Keeps.foldl (fun u o hu => hu.takeHostOctet o) octets s h).carries

theorem hostReceiveTimeout_carries (s : State) :
    Carries (.hostReceiveTimeout) s (execHostReceiveTimeout s) := by
  have h := Keeps.refl .hostReceiveTimeout s
  unfold execHostReceiveTimeout
  split
  · exact ((h.reach _).discardFrame _).carries
  · exact carries_unchanged

theorem hostFrameQueued_carries (kind : Nat) (body : List Byte) (s : State) :
    Carries (.hostFrameQueued kind body) s (execHostFrameQueued kind body s) := by
  have h := Keeps.refl (.hostFrameQueued kind body) s
  exact (h.frameArrives _).carries

theorem hallSet_carries (params : HallParams) (s : State) :
    Carries (.hallSet params) s (execHallSet params s) := by
  exact hostRequest_carries fun u hu => hu.request _ _ ((hu.setHall params rfl fun _ _ => rfl).answer _ _ _)

theorem txDefine_carries (tx : Nat) (fields : TxFields) (s : State) :
    Carries (.txDefine tx fields) s (execTxDefine tx fields s) := by
  exact hostRequest_carries fun u hu => hu.handle _ _ ((hu.withHall
    { u.ht with txs := setNth u.ht.txs tx (some (TxFields.record fields)) } rfl (.inl ⟨setNth_length _ _ _, rfl⟩)
    fun hl => ⟨hl, rfl⟩).answer _ _ _)

theorem antDefine_carries (ant : Nat) (fields : AntFields) (s : State) :
    Carries (.antDefine ant fields) s (execAntDefine ant fields s) := by
  exact hostRequest_carries fun u hu => hu.request _ _ ((hu.setAnt ant _ rfl).answer _ _ _)

theorem licenceWrite_carries (first total final : Nat) (lines : List LicenceLine) (s : State) :
    Carries (.licenceWrite first total final lines) s (execLicenceWrite first total final lines s) := by
  exact hostRequest_carries fun u hu => hu.handleChecked _ _ fun passed =>
    ((hu.takeLicence first total final lines rfl (by
      simp only [State.licenceChecks, List.find?_eq_none] at passed
      simpa using passed (u.ht.locked, .writeProtected) (by simp))).answer _ _ _).settled

theorem licenceLock_carries (s : State) :
    Carries (.licenceLock) s (execLicenceLock s) := by
  exact hostRequest_carries fun u hu => hu.request _ _ (((hu.withHall { u.ht with locked := true, staging := none } rfl (.inl ⟨rfl, rfl⟩)
    fun _ => ⟨rfl, rfl⟩).handed (State.offer_handed (Handed.refl _) _ _)).answer _ _ _)

theorem configSave_carries (s : State) :
    Carries (.configSave) s (execConfigSave s) := by
  exact hostRequest_carries fun u hu => hu.request _ _ ((hu.handed (State.offer_handed (Handed.refl u) _ _)).answer _ _ _)

theorem configLoad_carries (s : State) :
    Carries (.configLoad) s (execConfigLoad s) := by
  refine hostRequest_carries fun u hu => hu.handle _ _ ?_
  unfold State.loadFromRecord
  split
  · next source x hx =>
    obtain ⟨txs, ants, -, -⟩ := readConfig_lengths hx
    exact ((hu.applyConfig x ⟨txs, ants⟩ rfl rfl rfl rfl fun _ _ => rfl).answer _ _ _).settled
  · next source _ =>
    exact (hu.withHall { u.ht with configSource := source } rfl (.inl ⟨rfl, rfl⟩) fun hl => ⟨hl, rfl⟩).answer _ _ _

theorem timeSet_carries (day second : Nat) (s : State) :
    Carries (.timeSet day second) s (execTimeSet day second s) := by
  exact hostRequest_carries fun u hu => hu.handle _ _ ((hu.setTime _ rfl).answer _ _ _)

theorem storeRead_carries (address length : Nat) (s : State) :
    Carries (.storeRead address length) s (execStoreRead address length s) := by
  exact hostRequest_carries fun u hu => hu.request _ _ ((hu.hold _).handed (State.requestRead_handed (Handed.refl _) _ _ _))

theorem storeProgram_carries (address : Nat) (data : List Byte) (s : State) :
    Carries (.storeProgram address data) s (execStoreProgram address data s) := by
  exact hostRequest_carries fun u hu => hu.handle _ _ ((hu.handed (State.startHostOp_handed (Handed.refl u) _)).answer _ _ _)

theorem storeErase_carries (sector : Nat) (s : State) :
    Carries (.storeErase sector) s (execStoreErase sector s) := by
  exact hostRequest_carries fun u hu => hu.handle _ _ ((hu.handed (State.startHostOp_handed (Handed.refl u) _)).answer _ _ _)

theorem bookOpen_carries (book season firstDay lastDay : Nat) (s : State) :
    Carries (.bookOpen book season firstDay lastDay) s (execBookOpen book season firstDay lastDay s) := by
  exact hostRequest_carries fun u hu => hu.request _ _ ((hu.handed (State.markDue_handed ((Handed.refl u).setBook _ _) _ _ _)).answer _ _ _)

theorem entryAdd_carries (book : Nat) (record : List Byte) (s : State) :
    Carries (.entryAdd book record) s (execEntryAdd book record s) := by
  exact hostRequest_carries fun u hu => hu.request _ _ ((hu.handed (State.addEntry_handed (Handed.refl u) _ _)).answer _ _ _)

theorem bookSeal_carries (book count crc : Nat) (s : State) :
    Carries (.bookSeal book count crc) s (execBookSeal book count crc s) := by
  exact hostRequest_carries fun u hu => hu.request _ _ ((hu.handed (State.sealBook_handed (Handed.refl u) _ _ _)).answer _ _ _)

theorem bookVerify_carries (book : Nat) (s : State) :
    Carries (.bookVerify book) s (execBookVerify book s) := by
  exact hostRequest_carries fun u hu => hu.request _ _ ((hu.handed (State.startVerifier_handed ((Handed.refl u).setBook _ _) _ _)).answer _ _ _)

theorem entryRead_carries (book position : Nat) (s : State) :
    Carries (.entryRead book position) s (execEntryRead book position s) := by
  exact hostRequest_carries fun u hu => hu.request _ _ (hu.readEntry _ _)

theorem bookErase_carries (book : Nat) (s : State) :
    Carries (.bookErase book) s (execBookErase book s) := by
  exact hostRequest_carries fun u hu => hu.request _ _ ((hu.handed (State.eraseBook_handed (Handed.refl u) _)).answer _ _ _)

theorem handoverSet_carries (book day second : Nat) (s : State) :
    Carries (.handoverSet book day second) s (execHandoverSet book day second s) := by
  exact hostRequest_carries fun u hu => hu.request _ _ ((hu.handed (State.markDue_handed ((Handed.refl u).setBook _ _) _ _ _)).answer _ _ _)

theorem handoverCancel_carries (book : Nat) (s : State) :
    Carries (.handoverCancel book) s (execHandoverCancel book s) := by
  exact hostRequest_carries fun u hu => hu.request _ _ ((hu.handed (State.cancelHandover_handed (Handed.refl u) _)).answer _ _ _)

theorem execStart_carries (s : State) :
    Carries (.execStart) s (execExecStart s) := by
  exact hostRequest_carries fun u hu => hu.request _ _ ((hu.handed (State.startExecutor_handed (Handed.refl u))).answer _ _ _)

theorem execStop_carries (s : State) :
    Carries (.execStop) s (execExecStop s) := by
  exact hostRequest_carries fun u hu => hu.request _ _ ((hu.handed (State.stopExecutor_handed (Handed.refl u))).answer _ _ _)

theorem execHold_carries (s : State) :
    Carries (.execHold) s (execExecHold s) := by
  exact hostRequest_carries fun u hu => hu.handle _ _ ((hu.handed ((Handed.refl u).withExecutor (x := { u.se with state := .held })
    rfl)).answer _ _ _)

theorem execRelease_carries (s : State) :
    Carries (.execRelease) s (execExecRelease s) := by
  exact hostRequest_carries fun u hu => hu.request _ _ ((hu.handed (State.releaseExecutor_handed (Handed.refl u))).answer _ _ _)

theorem txManual_carries (tx : Nat) (s : State) :
    Carries (.txManual tx) s (execTxManual tx s) := by
  exact hostRequest_carries fun u hu => hu.request _ _ ((hu.handed (State.toManual_handed (Handed.refl u) _)).answer _ _ _)

theorem txAuto_carries (tx : Nat) (s : State) :
    Carries (.txAuto tx) s (execTxAuto tx s) := by
  exact hostRequest_carries fun u hu => hu.request _ _ ((hu.handed (State.toAuto_handed (Handed.refl u) _)).answer _ _ _)

theorem occurrenceSkip_carries (tx entryId day : Nat) (s : State) :
    Carries (.occurrenceSkip tx entryId day) s (execOccurrenceSkip tx entryId day s) := by
  exact hostRequest_carries fun u hu => hu.request _ _ ((hu.hold _).handed (State.readEntries_handed (Handed.refl _) _))

theorem move_carries (mover position : Nat) (s : State) :
    Carries (.move mover position) s (execMove mover position s) := by
  exact hostRequest_carries fun u hu => hu.request _ _ ((hu.handed (State.hostMove_handed (Handed.refl u) _ _)).answer _ _ _)

theorem moverClear_carries (mover : Nat) (s : State) :
    Carries (.moverClear mover) s (execMoverClear mover s) := by
  exact hostRequest_carries fun u hu => hu.request _ _ ((hu.handed (State.clearMover_handed (Handed.refl u) _)).answer _ _ _)

theorem survey_carries (s : State) :
    Carries (.survey) s (execSurvey s) := by
  exact hostRequest_carries fun u hu => hu.request _ _ ((hu.handed (State.startSurvey_handed (Handed.refl u) _)).answer _ _ _)

theorem safetyDefine_carries (input kind level : Nat) (rows : List Nat) (s : State) :
    Carries (.safetyDefine input kind level rows) s (execSafetyDefine input kind level rows s) := by
  refine hostRequest_carries fun u hu => hu.request _ _ (Keeps.answer ?_ _ _ _)
  unfold State.setSafety
  split
  · exact hu.defineInput _ _ _ _ rfl
  · exact hu

theorem txOrderTunePreset_carries (tx freq : Nat) (s : State) :
    Carries (.txOrderTunePreset tx freq) s (execTxOrderTunePreset tx freq s) := by
  exact hostRequest_carries fun u hu => hu.request _ _ (hu.hostTunePreset _ _)

theorem txOrderTuneAuto_carries (tx freq : Nat) (s : State) :
    Carries (.txOrderTuneAuto tx freq) s (execTxOrderTuneAuto tx freq s) := by
  exact hostRequest_carries fun u hu => hu.request _ _ ((hu.handed (State.takeTuneAuto_handed (Handed.refl u) _ _ _)).orderTaken _ _)

theorem txOrderRfOn_carries (tx power feed : Nat) (s : State) :
    Carries (.txOrderRfOn tx power feed) s (execTxOrderRfOn tx power feed s) := by
  exact hostRequest_carries fun u hu => hu.request _ _ ((hu.handed (State.takeRfOn_handed (State.setLimit_handed (Handed.refl u) _ _) _ _ _ _)).orderTaken _ _)

theorem txOrderRfOff_carries (tx : Nat) (s : State) :
    Carries (.txOrderRfOff tx) s (execTxOrderRfOff tx s) := by
  exact hostRequest_carries fun u hu => hu.request _ _ ((hu.handed (State.takeRfOff_handed (Handed.refl u) _ _)).orderTaken _ _)

theorem txOrderMute_carries (tx : Nat) (s : State) :
    Carries (.txOrderMute tx) s (execTxOrderMute tx s) := by
  exact hostRequest_carries fun u hu => hu.request _ _ ((hu.handed (State.muteFor_handed (Handed.refl u) _ _ _ _)).orderTaken _ _)

theorem txOrderPower_carries (tx power : Nat) (s : State) :
    Carries (.txOrderPower tx power) s (execTxOrderPower tx power s) := by
  exact hostRequest_carries fun u hu => hu.request _ _ ((hu.handed (State.enqueue_handed (State.setLimit_handed (Handed.refl u) _ _) _ _ _)).orderTaken _ _)

theorem txOrderFeed_carries (tx feed : Nat) (s : State) :
    Carries (.txOrderFeed tx feed) s (execTxOrderFeed tx feed s) := by
  exact hostRequest_carries fun u hu => hu.request _ _ ((hu.handed (State.takeFeed_handed (Handed.refl u) _ _ _)).orderTaken _ _)

theorem txOrderClearTrip_carries (tx : Nat) (s : State) :
    Carries (.txOrderClearTrip tx) s (execTxOrderClearTrip tx s) := by
  exact hostRequest_carries fun u hu => hu.request _ _ ((hu.handed (State.clearTrip_handed (Handed.refl u) _ _)).orderTaken _ _)

theorem protSet_carries (settings : ProtSettings) (s : State) :
    Carries (.protSet settings) s (execProtSet settings s) := by
  exact hostRequest_carries fun u hu => hu.handle _ _ ((hu.trans (t := { u with pt := { u.pt with settings := settings } })
    { settings := fun hc => by simp [Instr.setsProtection] at hc }).answer _ _ _)

theorem lockoutClear_carries (tx : Nat) (s : State) :
    Carries (.lockoutClear tx) s (execLockoutClear tx s) := by
  exact hostRequest_carries fun u hu => hu.request _ _ ((hu.handed (State.clearLockout_handed (Handed.refl u) _)).answer _ _ _)

theorem presetRead_carries (tx set way : Nat) (s : State) :
    Carries (.presetRead tx set way) s (execPresetRead tx set way s) := by
  exact hostRequest_carries fun u hu => hu.handle _ _ ((hu.handed (State.checkWay_handed (Handed.refl u) _ _ _ _)).answer _ _ _)

theorem presetWrite_carries (tx set way : Nat) (fields : PresetFields) (s : State) :
    Carries (.presetWrite tx set way fields) s (execPresetWrite tx set way fields s) := by
  exact hostRequest_carries fun u hu => hu.handle _ _ (hu.writeWay _ _ _ _)

theorem presetFlush_carries (scope tx ant channel : Nat) (s : State) :
    Carries (.presetFlush scope tx ant channel) s (execPresetFlush scope tx ant channel s) := by
  exact hostRequest_carries fun u hu => hu.handle _ _ ((hu.flush _ _ _ _).answer _ _ _)

theorem presetFreeze_carries (state : Nat) (s : State) :
    Carries (.presetFreeze state) s (execPresetFreeze state s) := by
  exact hostRequest_carries fun u hu => hu.handle _ _ ((hu.setFreeze _ rfl).answer _ _ _)

theorem presetWindow_carries (window enabled base exponent : Nat) (s : State) :
    Carries (.presetWindow window enabled base exponent) s (execPresetWindow window enabled base exponent s) := by
  exact hostRequest_carries fun u hu => hu.handle _ _ ((hu.setWindow _ _ rfl).answer _ _ _)

theorem presetSave_carries (s : State) :
    Carries (.presetSave) s (execPresetSave s) := by
  exact hostRequest_carries fun u hu => hu.request _ _ ((hu.hold _).handed (State.readSaveSector_handed (Handed.refl _) _))

theorem presetRestore_carries (s : State) :
    Carries (.presetRestore) s (execPresetRestore s) := by
  exact hostRequest_carries fun u hu => hu.request _ _ ((hu.handed (State.startRestore_handed (Handed.refl u))).answer _ _ _)

theorem presetError_carries (s : State) :
    Carries (.presetError) s (execPresetError s) := by
  exact hostRequest_carries fun u hu => (hu.withCache { u.pc with latch := none, more := false } rfl (.inl rfl)
    (.inl rfl)).answer _ _ _

theorem diagStart_carries (antennas : List Nat) (steps : Nat) (s : State) :
    Carries (.diagStart antennas steps) s (execDiagStart antennas steps s) := by
  exact hostRequest_carries fun u hu => hu.request _ _ ((hu.handed (State.startRun_handed (Handed.refl u) _ _)).answer _ _ _)

theorem diagStop_carries (s : State) :
    Carries (.diagStop) s (execDiagStop s) := by
  exact hostRequest_carries fun u hu => hu.request _ _ ((hu.handed (State.endRun_handed (Handed.refl u) _)).answer _ _ _)

theorem faultClear_carries (ant flags : Nat) (s : State) :
    Carries (.faultClear ant flags) s (execFaultClear ant flags s) := by
  exact hostRequest_carries fun u hu => hu.request _ _ hu.clearFaults

theorem timePulse_carries (s : State) :
    Carries (.timePulse) s (execTimePulse s) := by
  have h := Keeps.refl .timePulse s
  exact (h.pulse rfl).settled.carries

theorem oscillatorMark_carries (s : State) :
    Carries (.oscillatorMark) s (execOscillatorMark s) := by
  have h := Keeps.refl .oscillatorMark s
  have marked : Keeps .oscillatorMark s s.oscillate := ((h.reach _).secondMark rfl).setTime _ rfl
  unfold execOscillatorMark
  split
  · exact carries_unchanged
  · exact marked.settled.carries
  · exact marked.settled.carries
  · exact marked.settled.carries

theorem windowClose_carries (s : State) :
    Carries (.windowClose) s (execWindowClose s) := by
  have h := Keeps.refl .windowClose s
  have marked : Keeps .windowClose s s.closeWindow := ((h.reach _).secondMark rfl).setTime _ rfl
  unfold execWindowClose
  split
  · exact marked.settled.carries
  · exact carries_unchanged
  · exact carries_unchanged
  · exact carries_unchanged

theorem holdoverEntry_carries (s : State) :
    Carries (.holdoverEntry) s (execHoldoverEntry s) := by
  have h := Keeps.refl .holdoverEntry s
  unfold execHoldoverEntry
  split
  · exact (((h.reach _).setTime _ rfl).alert _).carries
  · exact carries_unchanged

theorem pendingExpiry_carries (s : State) :
    Carries (.pendingExpiry) s (execPendingExpiry s) := by
  have h := Keeps.refl .pendingExpiry s
  unfold execPendingExpiry
  split
  · exact (((h.reach _).firstMark _ _ _ rfl).alert _).settled.carries
  · exact carries_unchanged

theorem operationEnd_carries (passed : Bool) (s : State) :
    Carries (.operationEnd passed) s (execOperationEnd passed s) := by
  have h := Keeps.refl (.operationEnd passed) s
  unfold execOperationEnd
  split
  · exact carries_unchanged
  · split
    · exact (h.operationPassed _ rfl).settled.carries
    · exact (h.operationFailed _ rfl).settled.carries

theorem operationOverrun_carries (s : State) :
    Carries (.operationOverrun) s (execOperationOverrun s) := by
  have h := Keeps.refl .operationOverrun s
  unfold execOperationOverrun
  split
  · exact carries_unchanged
  · exact ((h.reach _).overrun _ rfl).settled.carries

theorem progressGuardEnd_carries (s : State) :
    Carries (.progressGuardEnd) s (execProgressGuardEnd s) := by
  unfold execProgressGuardEnd
  split
  · exact carries_unchanged
  · split
    · exact carries_unchanged
    · exact deadline_carries (State.guardEnds_handed (Handed.refl _))

theorem verifyEnd_carries (s : State) :
    Carries (.verifyEnd) s (execVerifyEnd s) := by
  unfold execVerifyEnd
  split
  · split
    · exact event_carries (State.verificationEnds_handed (Handed.refl s) _)
    · exact carries_unchanged
  · exact carries_unchanged

theorem reindexEnd_carries (s : State) :
    Carries (.reindexEnd) s (execReindexEnd s) := by
  unfold execReindexEnd
  split
  · split
    · exact event_carries (State.reindexEnds_handed (Handed.refl s))
    · exact carries_unchanged
  · exact carries_unchanged

theorem contactChange_carries (mover : Nat) (position : Position) (made : Bool) (s : State) :
    Carries (.contactChange mover position made) s (execContactChange mover position made s) := by
  unfold execContactChange
  split
  · exact carries_unchanged
  · exact event_carries (State.contactChanges_handed (Handed.refl s) _ _ _)

theorem settleEnd_carries (mover : Nat) (s : State) :
    Carries (.settleEnd mover) s (execSettleEnd mover s) := by
  unfold execSettleEnd
  split
  · exact deadline_carries (State.settleEnds_handed (Handed.refl _) _)
  · exact carries_unchanged

theorem validateEnd_carries (mover : Nat) (s : State) :
    Carries (.validateEnd mover) s (execValidateEnd mover s) := by
  unfold execValidateEnd
  split
  · exact deadline_carries (State.confirmMover_handed (Handed.refl _) _)
  · exact carries_unchanged

theorem travelTimeout_carries (mover : Nat) (s : State) :
    Carries (.travelTimeout mover) s (execTravelTimeout mover s) := by
  unfold execTravelTimeout
  split
  · exact deadline_carries (State.faultMover_handed (Handed.refl _) _ _)
  · exact carries_unchanged

theorem watchEnd_carries (mover : Nat) (s : State) :
    Carries (.watchEnd mover) s (execWatchEnd mover s) := by
  unfold execWatchEnd
  split
  · exact deadline_carries (State.watchEnds_handed (Handed.refl _) _ _)
  · exact carries_unchanged

theorem moverReadEnd_carries (mover : Nat) (s : State) :
    Carries (.moverReadEnd mover) s (execMoverReadEnd mover s) := by
  unfold execMoverReadEnd
  split
  · exact deadline_carries (State.endRead_handed (Handed.refl _) _ _)
  · exact carries_unchanged

theorem rowCold_carries (row : Nat) (s : State) :
    Carries (.rowCold row) s (execRowCold row s) := by
  unfold execRowCold
  split
  · exact deadline_carries ((Handed.refl _).postOnce _)
  · exact carries_unchanged

theorem safetyInputEdge_carries (input : Nat) (level : Level) (s : State) :
    Carries (.safetyInputEdge input level) s (execSafetyInputEdge input level s) := by
  have h := Keeps.refl (.safetyInputEdge input level) s
  unfold execSafetyInputEdge
  split
  · exact carries_unchanged
  · exact (h.inputEdge _ _).settled.carries

theorem releaseWindowEnd_carries (input : Nat) (s : State) :
    Carries (.releaseWindowEnd input) s (execReleaseWindowEnd input s) := by
  have h := Keeps.refl (.releaseWindowEnd input) s
  unfold execReleaseWindowEnd
  split
  · exact ((h.reach _).inputReleased _).settled.carries
  · exact carries_unchanged

theorem safetyResetAlert_carries (s : State) :
    Carries (.safetyResetAlert) s (execSafetyResetAlert s) := by
  have h := Keeps.refl .safetyResetAlert s
  unfold execSafetyResetAlert
  split
  · exact (h.reach _).resetAlert.carries
  · exact carries_unchanged

theorem arcInput_carries (ant : Nat) (s : State) :
    Carries (.arcInput ant) s (execArcInput ant s) := by
  have h := Keeps.refl (.arcInput ant) s
  unfold execArcInput
  split
  · exact carries_unchanged
  · exact (((h.setArcHold _ _).postOnce _).handed ((Handed.refl _).post _)).settled.carries

theorem arcHoldEnd_carries (ant : Nat) (s : State) :
    Carries (.arcHoldEnd ant) s (execArcHoldEnd ant s) := by
  have h := Keeps.refl (.arcHoldEnd ant) s
  unfold execArcHoldEnd
  split
  · exact (((h.reach _).setArcHold _ _).postOnce _).settled.carries
  · exact carries_unchanged

theorem txReport_carries (tx : Nat) (report : Report) (s : State) :
    Carries (.txReport tx report) s (execTxReport tx report s) := by
  unfold execTxReport
  split
  · exact carries_unchanged
  · exact event_carries (State.takeReport_handed (Handed.refl s) _ _)

theorem txFrameDiscard_carries (tx : Nat) (octets : List Byte) (s : State) :
    Carries (.txFrameDiscard tx octets) s (execTxFrameDiscard tx octets s) := by
  have h := Keeps.refl (.txFrameDiscard tx octets) s
  unfold execTxFrameDiscard
  split
  · exact carries_unchanged
  · exact (Keeps.foldl (fun u x hu => hu.takeLinkOctet tx x) octets s h).carries

theorem txLinkTimeout_carries (tx : Nat) (s : State) :
    Carries (.txLinkTimeout tx) s (execTxLinkTimeout tx s) := by
  unfold execTxLinkTimeout
  split
  · exact deadline_carries (State.linkBecomesLost_handed (Handed.refl _) _)
  · exact carries_unchanged

theorem reportStale_carries (tx : Nat) (s : State) :
    Carries (.reportStale tx) s (execReportStale tx s) := by
  have h := Keeps.refl (.reportStale tx) s
  unfold execReportStale
  split
  · exact ((h.reach _).checkStale _).carries
  · exact carries_unchanged

theorem orderDeadline_carries (tx : Nat) (s : State) :
    Carries (.orderDeadline tx) s (execOrderDeadline tx s) := by
  unfold execOrderDeadline
  split
  · exact deadline_carries (State.orderFailed_handed (Handed.refl _) _ _ _ _)
  · exact carries_unchanged

theorem tuneTimeout_carries (tx : Nat) (s : State) :
    Carries (.tuneTimeout tx) s (execTuneTimeout tx s) := by
  unfold execTuneTimeout
  split
  · exact deadline_carries (State.seqFault_handed (Handed.refl _) _ _)
  · exact carries_unchanged

theorem rampFail_carries (tx : Nat) (s : State) :
    Carries (.rampFail tx) s (execRampFail tx s) := by
  unfold execRampFail
  split
  · exact deadline_carries (State.tripWith_handed (Handed.refl _) _ _ _ _)
  · exact carries_unchanged

theorem offTimeout_carries (tx : Nat) (s : State) :
    Carries (.offTimeout tx) s (execOffTimeout tx s) := by
  unfold execOffTimeout
  split
  · exact deadline_carries (State.seqFault_handed (Handed.refl _) _ _)
  · exact carries_unchanged

theorem recoveryWaitEnd_carries (tx : Nat) (s : State) :
    Carries (.recoveryWaitEnd tx) s (execRecoveryWaitEnd tx s) := by
  unfold execRecoveryWaitEnd
  split
  · exact deadline_carries (State.recoveryWaitTest_handed (Handed.refl _) _)
  · exact carries_unchanged

theorem scrubCheck_carries (s : State) :
    Carries (.scrubCheck) s (execScrubCheck s) := by
  have h := Keeps.refl .scrubCheck s
  unfold execScrubCheck
  split
  · exact (h.reach _).scrub.carries
  · exact carries_unchanged

theorem restorePageRead_carries (s : State) :
    Carries (.restorePageRead) s (execRestorePageRead s) := by
  unfold execRestorePageRead
  split
  · split
    · exact carries_unchanged
    · exact deadline_carries (State.readRestorePage_handed (Handed.refl _))
  · exact carries_unchanged

theorem busResult_carries (tag : Nat) (result : BusResult) (s : State) :
    Carries (.busResult tag result) s (execBusResult tag result s) := by
  have h := Keeps.refl (.busResult tag result) s
  exact (h.takeBusResult tag result fun a => by simp [Instr.clearsFault]).settled.carries

theorem measurementTimeout_carries (s : State) :
    Carries (.measurementTimeout) s (execMeasurementTimeout s) := by
  unfold execMeasurementTimeout
  split
  · exact deadline_carries (State.measurementLost_handed (Handed.refl _))
  · exact carries_unchanged

theorem hostStartOctet_carries (s : State) :
    Carries (.hostStartOctet) s (execHostStartOctet s) := by
  have h := Keeps.refl .hostStartOctet s
  exact (h.takeHostOctet _).carries

theorem huntStopBitError_carries (s : State) :
    Carries (.huntStopBitError) s (execHuntStopBitError s) := by
  have h := Keeps.refl .huntStopBitError s
  exact (h.takeHostOctet _).carries

theorem txLinkSyncFound_carries (tx : Nat) (s : State) :
    Carries (.txLinkSyncFound tx) s (execTxLinkSyncFound tx s) := by
  have h := Keeps.refl (.txLinkSyncFound tx) s
  unfold execTxLinkSyncFound
  split
  · exact carries_unchanged
  · dsimp only
    split
    · exact (h.handed ((Handed.refl s).setSeq _ _)).carries
    · exact carries_unchanged

theorem verifierRead_carries (s : State) :
    Carries (.verifierRead) s (execVerifierRead s) := by
  exact event_carries (State.verifierReads_handed (Handed.refl s))

theorem exec_carries (c : Instr) (s : State) : Carries c s (exec c s) := by
  cases c with
  | coldReset => exact coldReset_carries s
  | restart => exact restart_carries s
  | echo data => exact query_carries rfl s
  | ident => exact query_carries rfl s
  | alertQuery => exact query_carries rfl s
  | alertClear flags => exact alertClear_carries flags s
  | alertMask mask => exact alertMask_carries mask s
  | unknownKindRequest kind => exact query_carries rfl s
  | hostFrameDiscard octets => exact hostFrameDiscard_carries octets s
  | hostReceiveTimeout => exact hostReceiveTimeout_carries s
  | hostFrameQueued kind body => exact hostFrameQueued_carries kind body s
  | hallSet params => exact hallSet_carries params s
  | hallQuery => exact query_carries rfl s
  | txDefine tx fields => exact txDefine_carries tx fields s
  | txQuery tx => exact query_carries rfl s
  | antDefine ant fields => exact antDefine_carries ant fields s
  | antQuery ant => exact query_carries rfl s
  | licenceWrite first total final lines => exact licenceWrite_carries first total final lines s
  | licenceQuery first => exact query_carries rfl s
  | licenceLock => exact licenceLock_carries s
  | configSave => exact configSave_carries s
  | configLoad => exact configLoad_carries s
  | timeSet day second => exact timeSet_carries day second s
  | timeQuery => exact query_carries rfl s
  | storeRead address length => exact storeRead_carries address length s
  | storeProgram address data => exact storeProgram_carries address data s
  | storeErase sector => exact storeErase_carries sector s
  | storeStatus => exact query_carries rfl s
  | bookOpen book season firstDay lastDay => exact bookOpen_carries book season firstDay lastDay s
  | entryAdd book record => exact entryAdd_carries book record s
  | bookSeal book count crc => exact bookSeal_carries book count crc s
  | bookVerify book => exact bookVerify_carries book s
  | bookQuery book => exact query_carries rfl s
  | findingsQuery book => exact query_carries rfl s
  | entryRead book position => exact entryRead_carries book position s
  | bookErase book => exact bookErase_carries book s
  | handoverSet book day second => exact handoverSet_carries book day second s
  | handoverCancel book => exact handoverCancel_carries book s
  | execStart => exact execStart_carries s
  | execStop => exact execStop_carries s
  | execHold => exact execHold_carries s
  | execRelease => exact execRelease_carries s
  | dutyQuery tx => exact query_carries rfl s
  | txManual tx => exact txManual_carries tx s
  | txAuto tx => exact txAuto_carries tx s
  | occurrenceSkip tx entryId day => exact occurrenceSkip_carries tx entryId day s
  | move mover position => exact move_carries mover position s
  | moverQuery mover => exact query_carries rfl s
  | antennaStatus ant => exact query_carries rfl s
  | moverClear mover => exact moverClear_carries mover s
  | survey => exact survey_carries s
  | safetyDefine input kind level rows => exact safetyDefine_carries input kind level rows s
  | permitQuery => exact query_carries rfl s
  | txOrderTunePreset tx freq => exact txOrderTunePreset_carries tx freq s
  | txOrderTuneAuto tx freq => exact txOrderTuneAuto_carries tx freq s
  | txOrderRfOn tx power feed => exact txOrderRfOn_carries tx power feed s
  | txOrderRfOff tx => exact txOrderRfOff_carries tx s
  | txOrderMute tx => exact txOrderMute_carries tx s
  | txOrderPower tx power => exact txOrderPower_carries tx power s
  | txOrderFeed tx feed => exact txOrderFeed_carries tx feed s
  | txOrderClearTrip tx => exact txOrderClearTrip_carries tx s
  | txStatus tx => exact query_carries rfl s
  | protSet settings => exact protSet_carries settings s
  | protQuery tx => exact query_carries rfl s
  | lockoutClear tx => exact lockoutClear_carries tx s
  | presetRead tx set way => exact presetRead_carries tx set way s
  | presetWrite tx set way fields => exact presetWrite_carries tx set way fields s
  | presetFlush scope tx ant channel => exact presetFlush_carries scope tx ant channel s
  | presetFreeze state => exact presetFreeze_carries state s
  | presetWindow window enabled base exponent => exact presetWindow_carries window enabled base exponent s
  | presetSave => exact presetSave_carries s
  | presetRestore => exact presetRestore_carries s
  | presetError => exact presetError_carries s
  | diagStart antennas steps => exact diagStart_carries antennas steps s
  | diagStop => exact diagStop_carries s
  | diagQuery => exact query_carries rfl s
  | faultClear ant flags => exact faultClear_carries ant flags s
  | timePulse => exact timePulse_carries s
  | oscillatorMark => exact oscillatorMark_carries s
  | windowClose => exact windowClose_carries s
  | holdoverEntry => exact holdoverEntry_carries s
  | pendingExpiry => exact pendingExpiry_carries s
  | operationEnd passed => exact operationEnd_carries passed s
  | operationOverrun => exact operationOverrun_carries s
  | progressGuardEnd => exact progressGuardEnd_carries s
  | verifyEnd => exact verifyEnd_carries s
  | reindexEnd => exact reindexEnd_carries s
  | contactChange mover position made => exact contactChange_carries mover position made s
  | settleEnd mover => exact settleEnd_carries mover s
  | validateEnd mover => exact validateEnd_carries mover s
  | travelTimeout mover => exact travelTimeout_carries mover s
  | watchEnd mover => exact watchEnd_carries mover s
  | moverReadEnd mover => exact moverReadEnd_carries mover s
  | rowCold row => exact rowCold_carries row s
  | safetyInputEdge input level => exact safetyInputEdge_carries input level s
  | releaseWindowEnd input => exact releaseWindowEnd_carries input s
  | safetyResetAlert => exact safetyResetAlert_carries s
  | arcInput ant => exact arcInput_carries ant s
  | arcHoldEnd ant => exact arcHoldEnd_carries ant s
  | txReport tx report => exact txReport_carries tx report s
  | txFrameDiscard tx octets => exact txFrameDiscard_carries tx octets s
  | txLinkTimeout tx => exact txLinkTimeout_carries tx s
  | reportStale tx => exact reportStale_carries tx s
  | orderDeadline tx => exact orderDeadline_carries tx s
  | tuneTimeout tx => exact tuneTimeout_carries tx s
  | rampFail tx => exact rampFail_carries tx s
  | offTimeout tx => exact offTimeout_carries tx s
  | recoveryWaitEnd tx => exact recoveryWaitEnd_carries tx s
  | scrubCheck => exact scrubCheck_carries s
  | restorePageRead => exact restorePageRead_carries s
  | busResult tag result => exact busResult_carries tag result s
  | measurementTimeout => exact measurementTimeout_carries s
  | hostStartOctet => exact hostStartOctet_carries s
  | huntStopBitError => exact huntStopBitError_carries s
  | txLinkSyncFound tx => exact txLinkSyncFound_carries tx s
  | verifierRead => exact verifierRead_carries s

theorem exec_keeps (h : exec c s = .next t) : Keeps c s t := by
  obtain ⟨u, hu, keeps⟩ := exec_carries c s
  cases hu.symm.trans h
  exact keeps

/-- A step is a command over what waits in the queue or in the receive buffer, the refusal of a frame, or a tick. -/
theorem step_cases (h : step s = .next t) :
    (∃ c rest, s.pending = c :: rest ∧ exec c { s with pending := rest } = .next t) ∨
    (∃ c rest, exec c (s.frameTaken rest true) = .next t) ∨
    (∃ kind status rest, t = (s.frameTaken rest false).answer kind status []) ∨ t = s.tick := by
  unfold step at h
  split at h
  · next c rest hp => exact .inl ⟨c, rest, hp, h⟩
  · unfold idle at h
    split at h
    · exact .inr (.inl ⟨_, _, h⟩)
    · cases h
      exact .inr (.inr (.inl ⟨_, _, _, rfl⟩))
    · cases h
      exact .inr (.inr (.inr rfl))

/-- What no command's queue, buffer, reply or tick touches, every command's step keeps if the command does. -/
theorem step_preserves {P : State → Prop} (pending : ∀ s q, P s → P { s with pending := q })
    (link : ∀ s rest serving, P s → P (s.frameTaken rest serving)) (answer : ∀ s k status body, P s → P (s.answer k status body))
    (tick : ∀ s, P s → P s.tick) (command : ∀ c s t, P s → exec c s = .next t → P t) (hs : P s) (h : step s = .next t) : P t := by
  obtain ⟨c, rest, -, hc⟩ | ⟨c, rest, hc⟩ | ⟨kind, status, rest, rfl⟩ | rfl := step_cases h
  · exact command c _ t (pending s rest hs) hc
  · exact command c _ t (link s rest true hs) hc
  · exact answer _ _ _ _ (link s rest false hs)
  · exact tick s hs

end Sys2Proof.Machine

/-! # Commands complete and keep the blocks (O3, O5, O7, O8) -/

namespace Sys2Proof.Machine

open Sys2Proof

/-- Settles O3: every arm of `exec` ends with a next state that keeps the queue and the clock. -/
theorem every_command_completes : Obligations.every_command_completes := by
  intro c s
  obtain ⟨t, ht, keeps⟩ := exec_carries c s
  exact ⟨t, ht, keeps.pending, keeps.clock⟩

/-- Settles O5. -/
theorem array_and_tables_keep_their_form : Obligations.array_and_tables_keep_their_form := by
  constructor
  · exact fun s t hs h => step_preserves (P := State.arrayWf) (fun _ _ h => h) (fun _ _ _ h => h) (fun _ _ _ _ h => h)
      (fun _ h => h) (fun _ _ _ hs h => (exec_keeps h).arrayWf hs) hs h
  · exact fun s t hs h => step_preserves (P := State.sized) (fun _ _ h => h) (fun _ _ _ h => h) (fun _ _ _ _ h => h)
      (fun _ h => h) (fun _ _ _ hs h => (exec_keeps h).sized hs) hs h

/-- Settles O7. -/
theorem set_flags_leave_only_where_the_rules_say : Obligations.set_flags_leave_only_where_the_rules_say := by
  constructor
  · exact fun c s t restart cold clear h => (exec_keeps h).alerts (Instr.clearsAlerts_eq_false restart cold clear)
  · exact fun c s t a k cold load hall clear bus h =>
      (exec_keeps h).faults a k (Instr.clearsFault_eq_false cold load hall clear bus)

/-- Settles O8. -/
theorem blocks_change_only_at_their_own_commands : Obligations.blocks_change_only_at_their_own_commands := by
  refine ⟨fun c s t hc h => (exec_keeps h).hall hc, fun c s t cold hl h => (exec_keeps h).locked cold hl,
    fun c s t h => ⟨(exec_keeps h).array, (exec_keeps h).time⟩, fun c s t cold load h => ?_⟩
  have keeps := exec_keeps h
  exact ⟨fun set => keeps.settings (Instr.setsProtection_eq_false cold load set),
    fun set => keeps.windows (Instr.setsWindows_eq_false cold load set),
    fun set => keeps.frozen (Instr.setsFreeze_eq_false cold set),
    fun set => keeps.mask (Instr.setsMask_eq_false cold set),
    fun set => keeps.inputs (Instr.definesInputs_eq_false cold load set)⟩

end Sys2Proof.Machine

/-! # The Time Base stays well formed (O6) -/

namespace Sys2Proof.Machine

open Sys2Proof

/-- What each time state holds (R18, R24). -/
def TimeBase.Wf (x : TimeBase) : Prop :=
  match x.state with
  | .invalid => x.instant = none
  | .pending => x.instant = none ∧ x.pendingSet.isSome = true
  | .locked => x.instant.isSome = true
  | .holdover => x.instant.isSome = true

theorem State.timeWf_iff (s : State) : s.timeWf ↔ s.tb.Wf := by
  unfold State.timeWf TimeBase.Wf State.timeValid
  cases s.tb.state <;> simp

/-- One command's effect on the Time Base: it stays well formed, and at most one mark is counted (R18). -/
structure TimeBase.Next (x y : TimeBase) : Prop where
  wf : x.Wf → y.Wf := by exact id
  elapsed : y.elapsed = x.elapsed ∨ y.elapsed = satSucc 4294967295 x.elapsed := by exact .inl rfl

theorem TimeBase.Next.refl (x : TimeBase) : x.Next x := {}

/-- What counts no mark, and then what counts one at most. -/
theorem TimeBase.Next.after {x y z : TimeBase} (h : x.Next y) (same : y.elapsed = x.elapsed) (k : y.Next z) : x.Next z where
  wf := k.wf ∘ h.wf
  elapsed := by rw [← same]; exact k.elapsed

/-- The moments, the windows and the chain are free. -/
theorem TimeBase.Next.schedule {x y z : TimeBase} (h : x.Next y) (state : z.state = y.state) (instant : z.instant = y.instant)
    (pendingSet : z.pendingSet = y.pendingSet) (elapsed : z.elapsed = y.elapsed) : x.Next z where
  wf hx := by
    have hy := h.wf hx
    unfold TimeBase.Wf at hy ⊢
    rwa [state, instant, pendingSet]
  elapsed := by rw [elapsed]; exact h.elapsed

theorem TimeBase.Wf.isSome {x : TimeBase} (h : x.Wf) (valid : x.state = .locked ∨ x.state = .holdover) : x.instant.isSome = true := by
  unfold TimeBase.Wf at h
  rcases valid with hs | hs <;> simpa only [hs] using h

/-- The end of range is a well-formed INVALID (R27). -/
theorem State.timeEnds_next {s : State} {x : TimeBase} (counted : s.tb.elapsed = x.elapsed ∨ s.tb.elapsed = satSucc 4294967295 x.elapsed) :
    x.Next s.timeEnds.tb where
  wf _ := rfl
  elapsed := counted

/-- A state with valid time and an instant is well formed. -/
theorem TimeBase.Next.valid {x y : TimeBase} (state : y.state = .locked ∨ y.state = .holdover) (instant : y.instant.isSome = true)
    (elapsed : y.elapsed = x.elapsed ∨ y.elapsed = satSucc 4294967295 x.elapsed) : x.Next y where
  wf _ := by
    unfold TimeBase.Wf
    rcases state with hs | hs <;> simpa only [hs] using instant
  elapsed := elapsed

/-- A second mark at `i + 1`, or at the armed value, in a valid state. -/
theorem State.secondMark_next (s : State) : s.tb.Next s.secondMark.tb := by
  have elapsed : s.tb.Next (s.setTime s.tb.elapse).tb := { elapsed := .inr rfl }
  unfold State.secondMark
  dsimp only
  split
  · next i hs hi =>
    split <;> split
    · exact State.timeEnds_next (.inr rfl)
    · exact .valid (.inl hs) rfl (.inr rfl)
    · exact State.timeEnds_next (.inr rfl)
    · exact .valid (.inl hs) rfl (.inr rfl)
  · next i hs hi =>
    split <;> split
    · exact State.timeEnds_next (.inr rfl)
    · exact .valid (.inr hs) rfl (.inr rfl)
    · exact State.timeEnds_next (.inr rfl)
    · exact .valid (.inr hs) rfl (.inr rfl)
  · exact elapsed

theorem State.firstMark_next (s : State) (p : PendingSet) {state : TimeState} (pulse : Option Nat)
    (valid : state = .locked ∨ state = .holdover) : s.tb.Next (s.firstMark p state pulse).tb := .valid valid rfl (.inr rfl)

theorem State.acceptPulse_next {s : State} (valid : s.tb.state = .locked ∨ s.tb.state = .holdover) :
    s.tb.Next s.acceptPulse.tb where
  wf h := h.isSome valid

theorem State.ignorePulse_next (s : State) : s.tb.Next s.ignorePulse.tb := by
  have same := TimeBase.Next.refl s.tb
  unfold State.ignorePulse
  dsimp only
  split
  · exact same.schedule rfl rfl rfl rfl
  · split
    · split
      · exact same.schedule rfl rfl rfl rfl
      · exact same.schedule rfl rfl rfl rfl
    · exact same.schedule rfl rfl rfl rfl

theorem State.pulse_next (s : State) : s.tb.Next s.pulse.tb := by
  unfold State.pulse
  split
  · exact .refl _
  · split
    · exact s.firstMark_next _ _ (.inl rfl)
    · exact .refl _
  · next hs =>
    split
    · exact (State.acceptPulse_next (.inl hs)).after rfl s.acceptPulse.secondMark_next
    · exact s.ignorePulse_next
  · next hs =>
    split
    · exact (State.acceptPulse_next (.inr hs)).after rfl s.acceptPulse.secondMark_next
    · split
      · split
        · exact State.acceptPulse_next (.inr hs)
        · exact s.ignorePulse_next
      · exact s.ignorePulse_next

theorem State.oscillate_next (s : State) : s.tb.Next s.oscillate.tb :=
  ((s.reach s.tb.expected).secondMark_next).schedule rfl rfl rfl rfl

theorem State.closeWindow_next (s : State) : s.tb.Next s.closeWindow.tb :=
  ((s.reach (s.tb.expected + 100)).secondMark_next).schedule rfl rfl rfl rfl

/-- A value is armed: INVALID becomes PENDING, and no other state changes (R24). -/
theorem State.armTime_next (s : State) (instant : Nat) : s.tb.Next (s.armTime instant).tb where
  wf h := by
    unfold TimeBase.Wf at h ⊢
    simp only [State.armTime, State.setTime_tb]
    cases hs : s.tb.state <;> simp_all

/-- Every command but a cold reset takes the Time Base on by one mark at most. -/
theorem exec_time_next {c : Instr} {s t : State} (cold : c ≠ .coldReset) (h : exec c s = .next t) : s.tb.Next t.tb := by
  by_cases hc : c.changesTime = false
  · rw [(exec_keeps h).time hc]
    exact .refl _
  · cases c with
    | coldReset => exact absurd rfl cold
    | timeSet day second =>
      have requested : ∀ u : State, u.tb = s.tb → s.tb.Next (u.handle 0x20 (State.timeSetChecks day second) fun u =>
          (u.armTime (day * 86400 + second)).answer 0x20 .ok []).tb := by
        intro u hu
        unfold State.handle
        split
        · exact hu ▸ .refl u.tb
        · exact hu ▸ u.armTime_next _
      change execTimeSet day second s = _ at h
      unfold execTimeSet at h
      unfold hostRequest at h
      split at h
      · cases h; exact requested _ rfl
      · split at h
        · cases h; exact requested _ rfl
        · cases h
          rw [(Keeps.frameArrives (Keeps.refl .ident s) _).time rfl]
          exact .refl _
    | timePulse => cases h; simpa using s.pulse_next
    | oscillatorMark =>
      change execOscillatorMark s = _ at h
      unfold execOscillatorMark at h
      split at h
      · cases h; exact .refl _
      · cases h; simpa using s.oscillate_next
      · cases h; simpa using s.oscillate_next
      · cases h; simpa using s.oscillate_next
    | windowClose =>
      change execWindowClose s = _ at h
      unfold execWindowClose at h
      split at h
      · cases h; simpa using s.closeWindow_next
      · cases h; exact .refl _
      · cases h; exact .refl _
      · cases h; exact .refl _
    | holdoverEntry =>
      change execHoldoverEntry s = _ at h
      unfold execHoldoverEntry at h
      split at h
      · next hs _ =>
        cases h
        exact { wf := fun wf => wf.isSome (.inl hs) }
      · cases h; exact .refl _
    | pendingExpiry =>
      change execPendingExpiry s = _ at h
      unfold execPendingExpiry at h
      split at h
      · next p _ hp =>
        cases h
        simpa using (s.reach (p.moment + 1500)).firstMark_next p s.tb.lastPulse (.inr rfl)
      · cases h; exact .refl _
    | _ => exact absurd rfl hc

/-- The two loads of a cold reset, before the survey and the scan (R16). -/
def State.coldLoaded (s : State) : State := s.cutShort.coldBlocks.loadConfig.loadLicence

theorem State.coldReset_keeps (s : State) : Keeps .ident s.coldLoaded s.coldReset :=
  ((Keeps.refl .ident s.coldLoaded).restartInputs.nextScrub.resetMatrix).handed (State.startScan_handed (Handed.refl _))

theorem State.loadConfig_tb (s : State) : s.loadConfig.tb = s.tb := by
  unfold State.loadConfig
  split <;> rfl

theorem State.cutShort_clock (s : State) : s.cutShort.clock = s.clock := by
  unfold State.cutShort
  split <;> rfl

/-- A cold reset leaves the time INVALID (R29). -/
theorem State.coldReset_tb (s : State) : s.coldReset.tb = TimeBase.reset s.clock :=
  calc s.coldReset.tb = s.coldLoaded.tb := s.coldReset_keeps.time rfl
    _ = s.cutShort.coldBlocks.tb := s.cutShort.coldBlocks.loadConfig_tb
    _ = TimeBase.reset s.clock := congrArg TimeBase.reset s.cutShort_clock

theorem State.coldReset_timeWf (s : State) : s.coldReset.settled.timeWf := by
  rw [State.timeWf_iff, State.settled_tb, State.coldReset_tb]
  rfl

theorem exec_coldReset (s : State) : exec .coldReset s = .next s.coldReset.settled := by
  unfold exec execColdReset
  with_reducible rfl

theorem exec_keeps_timeWf {c : Instr} {s t : State} (hs : s.timeWf) (h : exec c s = .next t) : t.timeWf := by
  by_cases cold : c = .coldReset
  · rw [cold, exec_coldReset] at h
    exact Host.Outcome.next.inj h ▸ s.coldReset_timeWf
  · exact t.timeWf_iff.mpr ((exec_time_next cold h).wf (s.timeWf_iff.mp hs))

/-- Settles O6. -/
theorem time_base_stays_well_formed : Obligations.time_base_stays_well_formed := by
  constructor
  · exact fun s t hs h => step_preserves (P := State.timeWf) (fun _ _ h => h) (fun _ _ _ h => h) (fun _ _ _ _ h => h)
      (fun _ h => h) (fun _ _ _ => exec_keeps_timeWf) hs h
  · intro c s t cold bound h
    rcases (exec_time_next cold h).elapsed with he | he
    · omega
    · unfold satSucc at he
      split at he <;> omega

end Sys2Proof.Machine

/-! # Requests and steps (O1, O2, O4, O9, O10) -/

namespace Sys2Proof.Machine

open Sys2Proof

variable {s u v : State} {k : Nat}

/-- `t` carries the reply of a request of kind `k` that came to `u`, and is `u` with that reply where it refuses (R208). -/
def Answers (k : Nat) (u t : State) : Prop :=
  ∃ r, t.lc.reply = some r ∧ r.kind = k ∧ t.lc.held = none ∧ (r.status ≠ .ok → t = u.answer k r.status [])

theorem answers_ok (body : List Byte) : Answers k u (v.answer k .ok body) := ⟨_, rfl, rfl, rfl, fun h => absurd rfl h⟩

theorem Answers.of_reply {r : Reply} {t : State} (reply : t.lc.reply = some r) (kind : r.kind = k) (held : t.lc.held = none)
    (ok : r.status = .ok) : Answers k u t := ⟨r, reply, kind, held, fun h => absurd ok h⟩

/-- What is handed over after an OK reply sends no other. -/
theorem answers_settled (body : List Byte) : Answers k u (v.answer k .ok body).settled := by
  obtain ⟨reply, held⟩ := State.settled_reply (s := v.answer k .ok body) rfl
  exact .of_reply reply rfl held rfl

theorem answers_handle {checks : List (Bool × Status)} {f : State → State} (hf : Answers k u (f u)) :
    Answers k u (u.handle k checks f) := by
  unfold State.handle
  split
  · exact ⟨_, rfl, rfl, rfl, fun _ => rfl⟩
  · exact hf

theorem answers_request {checks : List (Bool × Status)} {f : State → State} {body : State → List Byte} :
    Answers k u (u.request k checks fun u => (f u).answer k .ok (body u)) := answers_handle (answers_settled _)

theorem answers_report {checks : List (Bool × Status)} {body : List Byte} : Answers k u (u.report k checks body) :=
  answers_handle (answers_ok _)

theorem answers_order {checks : List (Bool × Status)} {f : State → State} {t : Nat} {kind : OrderKind} :
    Answers 0x60 u (u.request 0x60 checks fun u => (f u).orderTaken t kind) := answers_handle (answers_settled _)

theorem State.clearFaults_answers (a flags : Nat) : Answers 0x7B u (v.clearFaults a flags).settled := by
  unfold State.clearFaults
  split <;> exact answers_settled _

/-- The judgement of the inputs at a reset changes the Permit Unit alone. -/
theorem State.resetInputs_permits (s : State) : ∃ x, s.resetInputs = { s with pu := x } := by
  unfold State.resetInputs
  refine List.foldlRecOn (motive := fun u : State => ∃ x, u = { s with pu := x }) _ _ ⟨_, rfl⟩ fun u hu n _ => ?_
  obtain ⟨x, rfl⟩ := hu
  dsimp only
  split
  · exact ⟨_, rfl⟩
  · exact ⟨_, rfl⟩

theorem State.restartInputs_permits (s : State) : ∃ x, s.restartInputs = { s with pu := x } := by
  obtain ⟨x, hx⟩ := s.resetInputs_permits
  unfold State.restartInputs
  rw [hx]
  exact ⟨_, rfl⟩

theorem State.restartInputs_lc (s : State) : s.restartInputs.lc = s.lc := by
  obtain ⟨x, hx⟩ := s.restartInputs_permits
  rw [hx]

theorem State.cutShort_lc (s : State) : s.cutShort.lc = s.lc := by
  unfold State.cutShort
  split <;> rfl

theorem State.restartBlocks_lc (s : State) : s.restartBlocks.lc = s.lc.restart := rfl

/-- What RESTART leaves before the survey and the scan (R211). -/
def State.restarted (s : State) : State := ((s.endSave .reset).endRestore .reset).cutShort.restartBlocks.restartInputs

theorem State.restarted_lc (s : State) : s.restarted.lc = ((s.endSave .reset).endRestore .reset).lc.restart := by
  unfold State.restarted
  rw [State.restartInputs_lc, State.restartBlocks_lc, State.cutShort_lc]

/-- Every mover as a reset leaves it, before the survey (R123). -/
def State.blankMatrix (s : State) : State :=
  { s with mc := { Matrix.reset with movers := s.mc.movers.map (fun x => Mover.reset x.contacts), survey := .running none false, surveyed := false } }

/-- The survey and the scan that a reset begins are hand-overs over its fresh movers. -/
theorem State.surveyAndScan_handed (s : State) : Handed s.blankMatrix s.resetMatrix.startScan.settled :=
  State.settled_handed (State.startScan_handed (State.startSurvey_handed (Handed.refl s.blankMatrix) none))

theorem State.restart_eq (s : State) : s.restart = s.restarted.resetMatrix.startScan := by
  unfold State.restart State.restarted
  with_reducible rfl

/-- No reply is sent after the one that announces the RESTART. -/
theorem State.restart_answers (body : List Byte) : Answers k u ((v.answer k .ok body).restart).settled := by
  obtain ⟨reply, -⟩ := (State.endRestore_handed (State.endSave_handed (Handed.refl (v.answer k .ok body)) .reset) .reset).reply rfl
  rw [State.restart_eq]
  generalize hr : (v.answer k .ok body).restarted = r
  have lc : r.lc = _ := hr ▸ State.restarted_lc _
  obtain ⟨after, held⟩ := r.surveyAndScan_handed.reply (congrArg LinkController.held lc)
  exact .of_reply (after.trans ((congrArg LinkController.reply lc).trans reply)) rfl held rfl

/-- A meaning has a handler, which answers when its frame is served. -/
def Served (c : Instr) (k : Nat) (meaning : State → Host.Outcome State Fault Refusal) : Prop :=
  ∃ f, (∀ s, meaning s = hostRequest c f s) ∧ (c.refusalActs = false → ∀ u, Answers k u (f u))

theorem exec_served {c : Instr} (kind : c.requestKind = some k) : Served c k (exec c) := by
  cases c with
  | restart =>
    cases kind
    show Served _ _ execRestart
    exact ⟨_, fun _ => rfl, fun _ _ => State.restart_answers _⟩
  | echo data =>
    cases kind
    show Served _ _ (execEcho data)
    exact ⟨_, fun _ => rfl, fun _ _ => answers_report⟩
  | ident =>
    cases kind
    show Served _ _ execIdent
    exact ⟨_, fun _ => rfl, fun _ _ => answers_report⟩
  | alertQuery =>
    cases kind
    show Served _ _ execAlertQuery
    exact ⟨_, fun _ => rfl, fun _ _ => answers_report⟩
  | alertClear flags =>
    cases kind
    show Served _ _ (execAlertClear flags)
    exact ⟨_, fun _ => rfl, fun _ _ => answers_handle (answers_ok _)⟩
  | alertMask mask =>
    cases kind
    show Served _ _ (execAlertMask mask)
    exact ⟨_, fun _ => rfl, fun _ _ => answers_handle (answers_ok _)⟩
  | hallSet params =>
    cases kind
    show Served _ _ (execHallSet params)
    exact ⟨_, fun _ => rfl, fun _ _ => answers_request⟩
  | hallQuery =>
    cases kind
    show Served _ _ execHallQuery
    exact ⟨_, fun _ => rfl, fun _ _ => answers_report⟩
  | txDefine tx fields =>
    cases kind
    show Served _ _ (execTxDefine tx fields)
    exact ⟨_, fun _ => rfl, fun _ _ => answers_handle (answers_ok _)⟩
  | txQuery tx =>
    cases kind
    show Served _ _ (execTxQuery tx)
    exact ⟨_, fun _ => rfl, fun _ _ => answers_report⟩
  | antDefine ant fields =>
    cases kind
    show Served _ _ (execAntDefine ant fields)
    exact ⟨_, fun _ => rfl, fun _ _ => answers_request⟩
  | antQuery ant =>
    cases kind
    show Served _ _ (execAntQuery ant)
    exact ⟨_, fun _ => rfl, fun _ _ => answers_report⟩
  | licenceWrite first total final lines =>
    cases kind
    show Served _ _ (execLicenceWrite first total final lines)
    exact ⟨_, fun _ => rfl, fun _ _ => answers_request⟩
  | licenceQuery first =>
    cases kind
    show Served _ _ (execLicenceQuery first)
    exact ⟨_, fun _ => rfl, fun _ _ => answers_report⟩
  | licenceLock =>
    cases kind
    show Served _ _ execLicenceLock
    exact ⟨_, fun _ => rfl, fun _ _ => answers_request⟩
  | configSave =>
    cases kind
    show Served _ _ execConfigSave
    exact ⟨_, fun _ => rfl, fun _ _ => answers_request⟩
  | configLoad =>
    cases kind
    show Served _ _ execConfigLoad
    exact ⟨_, fun _ => rfl, fun acts => nomatch acts⟩
  | timeSet day second =>
    cases kind
    show Served _ _ (execTimeSet day second)
    exact ⟨_, fun _ => rfl, fun _ _ => answers_handle (answers_ok _)⟩
  | timeQuery =>
    cases kind
    show Served _ _ execTimeQuery
    exact ⟨_, fun _ => rfl, fun _ _ => answers_report⟩
  | storeRead address length =>
    cases kind
    show Served _ _ (execStoreRead address length)
    exact ⟨_, fun _ => rfl, fun acts => nomatch acts⟩
  | storeProgram address data =>
    cases kind
    show Served _ _ (execStoreProgram address data)
    exact ⟨_, fun _ => rfl, fun _ _ => answers_handle (answers_ok _)⟩
  | storeErase sector =>
    cases kind
    show Served _ _ (execStoreErase sector)
    exact ⟨_, fun _ => rfl, fun _ _ => answers_handle (answers_ok _)⟩
  | storeStatus =>
    cases kind
    show Served _ _ execStoreStatus
    exact ⟨_, fun _ => rfl, fun _ _ => answers_report⟩
  | bookOpen book season firstDay lastDay =>
    cases kind
    show Served _ _ (execBookOpen book season firstDay lastDay)
    exact ⟨_, fun _ => rfl, fun _ _ => answers_request⟩
  | entryAdd book record =>
    cases kind
    show Served _ _ (execEntryAdd book record)
    exact ⟨_, fun _ => rfl, fun _ _ => answers_request⟩
  | bookSeal book count crc =>
    cases kind
    show Served _ _ (execBookSeal book count crc)
    exact ⟨_, fun _ => rfl, fun _ _ => answers_request⟩
  | bookVerify book =>
    cases kind
    show Served _ _ (execBookVerify book)
    exact ⟨_, fun _ => rfl, fun _ _ => answers_request⟩
  | bookQuery book =>
    cases kind
    show Served _ _ (execBookQuery book)
    exact ⟨_, fun _ => rfl, fun _ _ => answers_report⟩
  | findingsQuery book =>
    cases kind
    show Served _ _ (execFindingsQuery book)
    exact ⟨_, fun _ => rfl, fun _ _ => answers_report⟩
  | entryRead book position =>
    cases kind
    show Served _ _ (execEntryRead book position)
    exact ⟨_, fun _ => rfl, fun acts => nomatch acts⟩
  | bookErase book =>
    cases kind
    show Served _ _ (execBookErase book)
    exact ⟨_, fun _ => rfl, fun _ _ => answers_request⟩
  | handoverSet book day second =>
    cases kind
    show Served _ _ (execHandoverSet book day second)
    exact ⟨_, fun _ => rfl, fun _ _ => answers_request⟩
  | handoverCancel book =>
    cases kind
    show Served _ _ (execHandoverCancel book)
    exact ⟨_, fun _ => rfl, fun _ _ => answers_request⟩
  | execStart =>
    cases kind
    show Served _ _ execExecStart
    exact ⟨_, fun _ => rfl, fun _ _ => answers_request⟩
  | execStop =>
    cases kind
    show Served _ _ execExecStop
    exact ⟨_, fun _ => rfl, fun _ _ => answers_request⟩
  | execHold =>
    cases kind
    show Served _ _ execExecHold
    exact ⟨_, fun _ => rfl, fun _ _ => answers_handle (answers_ok _)⟩
  | execRelease =>
    cases kind
    show Served _ _ execExecRelease
    exact ⟨_, fun _ => rfl, fun _ _ => answers_request⟩
  | dutyQuery tx =>
    cases kind
    show Served _ _ (execDutyQuery tx)
    exact ⟨_, fun _ => rfl, fun _ _ => answers_report⟩
  | txManual tx =>
    cases kind
    show Served _ _ (execTxManual tx)
    exact ⟨_, fun _ => rfl, fun _ _ => answers_request⟩
  | txAuto tx =>
    cases kind
    show Served _ _ (execTxAuto tx)
    exact ⟨_, fun _ => rfl, fun _ _ => answers_request⟩
  | occurrenceSkip tx entryId day =>
    cases kind
    show Served _ _ (execOccurrenceSkip tx entryId day)
    exact ⟨_, fun _ => rfl, fun acts => nomatch acts⟩
  | move mover position =>
    cases kind
    show Served _ _ (execMove mover position)
    exact ⟨_, fun _ => rfl, fun _ _ => answers_request⟩
  | moverQuery mover =>
    cases kind
    show Served _ _ (execMoverQuery mover)
    exact ⟨_, fun _ => rfl, fun _ _ => answers_report⟩
  | antennaStatus ant =>
    cases kind
    show Served _ _ (execAntennaStatus ant)
    exact ⟨_, fun _ => rfl, fun _ _ => answers_report⟩
  | moverClear mover =>
    cases kind
    show Served _ _ (execMoverClear mover)
    exact ⟨_, fun _ => rfl, fun _ _ => answers_request⟩
  | survey =>
    cases kind
    show Served _ _ execSurvey
    exact ⟨_, fun _ => rfl, fun _ _ => answers_request⟩
  | safetyDefine input kind level rows =>
    cases kind
    show Served _ _ (execSafetyDefine input kind level rows)
    exact ⟨_, fun _ => rfl, fun _ _ => answers_request⟩
  | permitQuery =>
    cases kind
    show Served _ _ execPermitQuery
    exact ⟨_, fun _ => rfl, fun _ _ => answers_report⟩
  | txOrderTunePreset tx freq =>
    cases kind
    show Served _ _ (execTxOrderTunePreset tx freq)
    exact ⟨_, fun _ => rfl, fun acts => nomatch acts⟩
  | txOrderTuneAuto tx freq =>
    cases kind
    show Served _ _ (execTxOrderTuneAuto tx freq)
    exact ⟨_, fun _ => rfl, fun _ _ => answers_order⟩
  | txOrderRfOn tx power feed =>
    cases kind
    show Served _ _ (execTxOrderRfOn tx power feed)
    exact ⟨_, fun _ => rfl, fun _ _ => answers_order⟩
  | txOrderRfOff tx =>
    cases kind
    show Served _ _ (execTxOrderRfOff tx)
    exact ⟨_, fun _ => rfl, fun _ _ => answers_order⟩
  | txOrderMute tx =>
    cases kind
    show Served _ _ (execTxOrderMute tx)
    exact ⟨_, fun _ => rfl, fun _ _ => answers_order⟩
  | txOrderPower tx power =>
    cases kind
    show Served _ _ (execTxOrderPower tx power)
    exact ⟨_, fun _ => rfl, fun _ _ => answers_order⟩
  | txOrderFeed tx feed =>
    cases kind
    show Served _ _ (execTxOrderFeed tx feed)
    exact ⟨_, fun _ => rfl, fun _ _ => answers_order⟩
  | txOrderClearTrip tx =>
    cases kind
    show Served _ _ (execTxOrderClearTrip tx)
    exact ⟨_, fun _ => rfl, fun _ _ => answers_order⟩
  | txStatus tx =>
    cases kind
    show Served _ _ (execTxStatus tx)
    exact ⟨_, fun _ => rfl, fun _ _ => answers_report⟩
  | protSet settings =>
    cases kind
    show Served _ _ (execProtSet settings)
    exact ⟨_, fun _ => rfl, fun _ _ => answers_handle (answers_ok _)⟩
  | protQuery tx =>
    cases kind
    show Served _ _ (execProtQuery tx)
    exact ⟨_, fun _ => rfl, fun _ _ => answers_report⟩
  | lockoutClear tx =>
    cases kind
    show Served _ _ (execLockoutClear tx)
    exact ⟨_, fun _ => rfl, fun _ _ => answers_request⟩
  | presetRead tx set way =>
    cases kind
    show Served _ _ (execPresetRead tx set way)
    exact ⟨_, fun _ => rfl, fun _ _ => answers_handle (answers_ok _)⟩
  | presetWrite tx set way fields =>
    cases kind
    show Served _ _ (execPresetWrite tx set way fields)
    exact ⟨_, fun _ => rfl, fun acts => nomatch acts⟩
  | presetFlush scope tx ant channel =>
    cases kind
    show Served _ _ (execPresetFlush scope tx ant channel)
    exact ⟨_, fun _ => rfl, fun _ _ => answers_handle (answers_ok _)⟩
  | presetFreeze state =>
    cases kind
    show Served _ _ (execPresetFreeze state)
    exact ⟨_, fun _ => rfl, fun _ _ => answers_handle (answers_ok _)⟩
  | presetWindow window enabled base exponent =>
    cases kind
    show Served _ _ (execPresetWindow window enabled base exponent)
    exact ⟨_, fun _ => rfl, fun _ _ => answers_handle (answers_ok _)⟩
  | presetSave =>
    cases kind
    show Served _ _ execPresetSave
    exact ⟨_, fun _ => rfl, fun acts => nomatch acts⟩
  | presetRestore =>
    cases kind
    show Served _ _ execPresetRestore
    exact ⟨_, fun _ => rfl, fun _ _ => answers_request⟩
  | presetError =>
    cases kind
    show Served _ _ execPresetError
    exact ⟨_, fun _ => rfl, fun _ _ => answers_ok _⟩
  | diagStart antennas steps =>
    cases kind
    show Served _ _ (execDiagStart antennas steps)
    exact ⟨_, fun _ => rfl, fun _ _ => answers_request⟩
  | diagStop =>
    cases kind
    show Served _ _ execDiagStop
    exact ⟨_, fun _ => rfl, fun _ _ => answers_request⟩
  | diagQuery =>
    cases kind
    show Served _ _ execDiagQuery
    exact ⟨_, fun _ => rfl, fun _ _ => answers_report⟩
  | faultClear ant flags =>
    cases kind
    show Served _ _ (execFaultClear ant flags)
    exact ⟨_, fun _ => rfl, fun _ _ => answers_handle (State.clearFaults_answers _ _)⟩
  | _ => cases kind

/-- Settles O9. -/
theorem request_is_carried_out_or_refused_without_effect : Obligations.request_is_carried_out_or_refused_without_effect := by
  intro c k s kind acts ready
  obtain ⟨f, meaning, answers⟩ := exec_served kind
  obtain ⟨r, reply⟩ := answers acts s.received
  exact ⟨_, r, (meaning s).trans (hostRequest_ready ready), reply⟩

/-- Settles O10. -/
theorem request_waits_while_another_is_handled : Obligations.request_waits_while_another_is_handled := by
  intro c k s kind serving busy
  obtain ⟨f, meaning, -⟩ := exec_served kind
  rw [meaning, hostRequest_waits serving busy]
  rfl

/-- Settles O1. -/
theorem step_runs_the_command_at_the_front : Obligations.step_runs_the_command_at_the_front := fun _ _ _ => rfl

theorem step_of_empty (h : s.pending = []) : step s = idle s := by
  unfold step
  rw [h]

/-- Settles O2. -/
theorem empty_queue_handles_a_waiting_frame_or_ticks : Obligations.empty_queue_handles_a_waiting_frame_or_ticks := by
  intro s empty
  rw [step_of_empty empty]
  refine ⟨fun c rest held waiting => ?_, fun kind status rest held waiting => ?_, fun nothing => ?_⟩
  · simp only [idle, held, waiting, State.frameTaken]
  · simp only [idle, held, waiting, State.frameTaken]
  · unfold idle
    split
    next held waiting => simp [held, waiting] at nothing
    next held waiting => simp [held, waiting] at nothing
    next => rfl

/-! ## The state right after reset -/

/-- What holds of the default and of the one item holds of every number of a table of equal items. -/
theorem nth_replicate_of {α : Type} {P : α → Prop} {a d : α} (item : P a) (default : P d) (n i : Nat) :
    P (nth (List.replicate n a) d i) := by
  unfold nth
  split
  · exact default
  · by_cases h : i - 1 < n
    · simpa [List.getD, h] using item
    · simpa [List.getD, h] using default

theorem State.reset_sized : State.reset.sized :=
  State.sized_iff.mpr ⟨⟨rfl, rfl⟩, ⟨rfl, rfl, rfl⟩, rfl, ⟨rfl, rfl⟩, ⟨List.length_replicate, rfl, rfl⟩, ⟨rfl, rfl⟩, ⟨rfl, rfl⟩, rfl, rfl⟩

/-- Settles O4. -/
theorem reset_meets_the_invariants_and_the_chapters_values : Obligations.reset_meets_the_invariants_and_the_chapters_values := by
  have changes (t : Nat) : State.reset.change t = none := nth_replicate_of (P := (· = none)) rfl rfl _ t
  have duties (t : Nat) : (State.reset.duty t).mode = .auto := nth_replicate_of (P := fun d : Duty => d.mode = .auto) rfl rfl _ t
  refine ⟨⟨rfl, ⟨by decide, nofun⟩, State.reset_sized, Nat.zero_le _, rfl, rfl, rfl⟩, rfl, rfl, rfl, rfl, rfl, rfl, rfl, rfl, rfl, rfl, rfl,
    rfl, rfl, rfl, rfl, rfl, rfl, fun t => ⟨changes t, duties t⟩, fun r => ?_, fun t => ?_, fun t => ?_, rfl, rfl, rfl, rfl, rfl, rfl,
    rfl, rfl⟩
  · exact nth_replicate_of (P := fun p : PermitRow => p.line = false ∧ p.lastFall = none ∧ p.drops = 0) ⟨rfl, rfl, rfl⟩ ⟨rfl, rfl, rfl⟩ _ r
  · exact nth_replicate_of (P := fun q : Sequencer => q.state = .unknown ∧ q.link = .down ∧ q.counter = 0 ∧ q.outstanding = none)
      ⟨rfl, rfl, rfl, rfl⟩ ⟨rfl, rfl, rfl, rfl⟩ _ t
  · exact nth_replicate_of (P := fun p : Protection => p.lockout = false ∧ p.counted = 0 ∧ p.uncounted = 0) ⟨rfl, rfl, rfl⟩
      ⟨rfl, rfl, rfl⟩ _ t

end Sys2Proof.Machine

/-! # The link messages and the reports (O11, O13) -/

namespace Sys2Proof.Machine

open Sys2Proof

variable {c : Instr} {s : State}

theorem find?_check_passed {b : Bool} {status : Status} (h : b = false) : [(b, status)].find? (fun c => c.1) = none := by simp [h]

theorem report_answer (u : State) (k : Nat) (checks : List (Bool × Status)) (body : List Byte) :
    ∃ k' status body', u.report k checks body = u.answer k' status body' := by
  unfold State.report State.handle
  split
  · exact ⟨_, _, _, rfl⟩
  · exact ⟨_, _, _, rfl⟩

/-- A meaning whose handler does nothing but answer. -/
def OnlyAnswers (c : Instr) (meaning : State → Host.Outcome State Fault Refusal) : Prop :=
  ∃ f, (∀ s, meaning s = hostRequest c f s) ∧ ∀ u, ∃ k status body, f u = u.answer k status body

theorem query_onlyAnswers (query : c.isQuery = true) : OnlyAnswers c (exec c) := by
  cases c with
  | echo data =>
    show OnlyAnswers _ (execEcho data)
    exact ⟨_, fun _ => rfl, fun _ => report_answer _ _ _ _⟩
  | ident =>
    show OnlyAnswers _ execIdent
    exact ⟨_, fun _ => rfl, fun _ => report_answer _ _ _ _⟩
  | alertQuery =>
    show OnlyAnswers _ execAlertQuery
    exact ⟨_, fun _ => rfl, fun _ => report_answer _ _ _ _⟩
  | unknownKindRequest kind =>
    show OnlyAnswers _ (execUnknownKindRequest kind)
    exact ⟨_, fun _ => rfl, fun _ => ⟨_, _, _, rfl⟩⟩
  | hallQuery =>
    show OnlyAnswers _ execHallQuery
    exact ⟨_, fun _ => rfl, fun _ => report_answer _ _ _ _⟩
  | txQuery tx =>
    show OnlyAnswers _ (execTxQuery tx)
    exact ⟨_, fun _ => rfl, fun _ => report_answer _ _ _ _⟩
  | antQuery ant =>
    show OnlyAnswers _ (execAntQuery ant)
    exact ⟨_, fun _ => rfl, fun _ => report_answer _ _ _ _⟩
  | licenceQuery first =>
    show OnlyAnswers _ (execLicenceQuery first)
    exact ⟨_, fun _ => rfl, fun _ => report_answer _ _ _ _⟩
  | timeQuery =>
    show OnlyAnswers _ execTimeQuery
    exact ⟨_, fun _ => rfl, fun _ => report_answer _ _ _ _⟩
  | storeStatus =>
    show OnlyAnswers _ execStoreStatus
    exact ⟨_, fun _ => rfl, fun _ => report_answer _ _ _ _⟩
  | bookQuery book =>
    show OnlyAnswers _ (execBookQuery book)
    exact ⟨_, fun _ => rfl, fun _ => report_answer _ _ _ _⟩
  | findingsQuery book =>
    show OnlyAnswers _ (execFindingsQuery book)
    exact ⟨_, fun _ => rfl, fun _ => report_answer _ _ _ _⟩
  | dutyQuery tx =>
    show OnlyAnswers _ (execDutyQuery tx)
    exact ⟨_, fun _ => rfl, fun _ => report_answer _ _ _ _⟩
  | moverQuery mover =>
    show OnlyAnswers _ (execMoverQuery mover)
    exact ⟨_, fun _ => rfl, fun _ => report_answer _ _ _ _⟩
  | antennaStatus ant =>
    show OnlyAnswers _ (execAntennaStatus ant)
    exact ⟨_, fun _ => rfl, fun _ => report_answer _ _ _ _⟩
  | permitQuery =>
    show OnlyAnswers _ execPermitQuery
    exact ⟨_, fun _ => rfl, fun _ => report_answer _ _ _ _⟩
  | txStatus tx =>
    show OnlyAnswers _ (execTxStatus tx)
    exact ⟨_, fun _ => rfl, fun _ => report_answer _ _ _ _⟩
  | protQuery tx =>
    show OnlyAnswers _ (execProtQuery tx)
    exact ⟨_, fun _ => rfl, fun _ => report_answer _ _ _ _⟩
  | diagQuery =>
    show OnlyAnswers _ execDiagQuery
    exact ⟨_, fun _ => rfl, fun _ => report_answer _ _ _ _⟩
  | _ => cases query

/-- A report in a ready state whose checks pass. -/
theorem hostRequest_report {k : Nat} {checks : State → List (Bool × Status)} {body : State → List Byte} (h : s.ready)
    (pass : (checks s.received).find? (fun c => c.1) = none) :
    hostRequest c (fun u => u.report k (checks u) (body u)) s = .next (s.received.answer k .ok (body s.received)) := by
  rw [hostRequest_ready h, State.report, State.handle_accepted pass]

theorem badTx_eq_false {t : Nat} (h1 : 1 ≤ t) (h2 : t ≤ s.params.txCount) : s.badTx t = false := by
  have h3 : t ≤ s.ht.params.txCount := h2
  simp [State.badTx, h3]
  omega

theorem badAnt_eq_false {a : Nat} (h1 : 1 ≤ a) (h2 : a ≤ s.params.antCount) : s.badAnt a = false := by
  have h3 : a ≤ s.ht.params.antCount := h2
  simp [State.badAnt, h3]
  omega

theorem exec_echo (h : s.ready) (data : List Byte) : exec (.echo data) s = .next (
    if 1 ≤ data.length ∧ data.length ≤ 240 then s.received.answer 0x01 .ok data else s.received.answer 0x01 .range []) := by
  show execEcho data s = _
  unfold execEcho
  rw [hostRequest_ready h, State.report]
  split
  next fits => exact congrArg _ (State.handle_accepted (find?_check_passed (by simp [within, fits])))
  next misfit => exact congrArg _ (State.handle_refused (c := (true, .range)) (by simp [within, misfit]))

theorem exec_ident (h : s.ready) : exec .ident s = .next (s.received.answer 0x02 .ok s.identBody) := by
  show execIdent s = _
  exact hostRequest_report h rfl

theorem exec_alertQuery (h : s.ready) : exec .alertQuery s = .next (s.received.answer 0x03 .ok s.alertBody) := by
  show execAlertQuery s = _
  exact hostRequest_report h rfl

theorem exec_unknownKindRequest (h : s.ready) (kind : Nat) :
    exec (.unknownKindRequest kind) s = .next (s.received.answer kind .unknownKind []) := by
  show execUnknownKindRequest kind s = _
  exact hostRequest_ready h

theorem exec_alertClear (h : s.ready) {w : Nat} (fits : w ≤ 65535) : exec (.alertClear w) s =
    .next ((s.received.clearAlerts w).answer 0x04 .ok (u16 (s.received.clearAlerts w).lc.alerts.toNat)) := by
  show execAlertClear w s = _
  unfold execAlertClear
  rw [hostRequest_ready h, State.handle_accepted (find?_check_passed (by simp [fits]))]

theorem exec_alertMask (h : s.ready) {w : Nat} (fits : w ≤ 65535) : exec (.alertMask w) s =
    .next (State.answer { s.received with lc := { s.received.lc with mask := BitVec.ofNat 16 w } } 0x05 .ok []) := by
  show execAlertMask w s = _
  unfold execAlertMask
  rw [hostRequest_ready h, State.handle_accepted (find?_check_passed (by simp [fits]))]

/-- Settles O13. -/
theorem link_messages_answer_and_write_the_alert_words : Obligations.link_messages_answer_and_write_the_alert_words := by
  constructor
  · exact fun s h => ⟨exec_echo h, exec_ident h, exec_alertQuery h, exec_unknownKindRequest h⟩
  · exact fun w s h fits => ⟨exec_alertClear h fits, exec_alertMask h fits⟩

/-! ## Reports in range -/

/-- An ENTRY_READ of a record that is still in the load buffer (R61). -/
theorem exec_entryRead_buffered {b position : Nat} {r : List Byte} (h : s.ready) (book : b ≤ 1) (scan : s.sb.scanRunning = false)
    (loading : (s.book b).state = .loading) (buffered : (s.book b).storedCount < position) (added : position ≤ (s.book b).entriesAdded)
    (record : s.recordAt b position = some r) (quiet : s.notices = []) :
    exec (.entryRead b position) s = .next (s.received.answer 0x36 .ok r) := by
  show execEntryRead b position s = _
  unfold execEntryRead
  have pass : (s.entryReadChecks b position).find? (fun c => c.1) = none := by
    have positive : position ≠ 0 := by omega
    simp [State.entryReadChecks, Book.entryCount, scan, loading, positive, book, added]
  have record' : s.received.recordAt b position = some r := record
  have read : s.received.readEntry b position = s.received.answer 0x36 .ok r := by
    unfold State.readEntry State.entryReadServed
    rw [record']
    exact if_pos buffered
  rw [hostRequest_ready h, State.request_accepted (show (s.received.entryReadChecks b position).find? _ = none from pass), read,
    State.settled_quiet (by exact quiet)]

/-- Settles O11. -/
theorem reports_are_answered_and_change_nothing : Obligations.reports_are_answered_and_change_nothing := by
  refine ⟨fun c s query h => ?_, fun s h => ⟨?_, fun n h1 h2 => ?_, fun a h1 h2 => ?_, fun first h1 h2 => ?_, ?_, ?_⟩,
    fun b s h hb => ⟨?_, fun scan => ?_, fun position r scan loading buffered added record quiet =>
      exec_entryRead_buffered h hb scan loading buffered added record quiet⟩,
    fun s h => ⟨fun t h1 h2 => ⟨?_, ?_⟩, fun m h1 h2 => ?_, fun a h1 h2 => ?_, ?_, fun t ht => ?_, ?_⟩⟩
  · obtain ⟨f, meaning, answers⟩ := query_onlyAnswers query
    obtain ⟨k, status, body, answer⟩ := answers s.received
    exact ⟨_, ((meaning s).trans (hostRequest_ready h)).trans (congrArg _ answer)⟩
  · show execHallQuery s = _
    exact hostRequest_report h rfl
  · have defined : s.tx n = nth s.ht.txs none n := if_pos h2
    rw [← defined]
    show execTxQuery n s = _
    exact hostRequest_report h (find?_check_passed (badTx_eq_false h1 h2))
  · have defined : s.ant a = nth s.ht.ants none a := if_pos h2
    rw [← defined]
    show execAntQuery a s = _
    exact hostRequest_report h (find?_check_passed (badAnt_eq_false h1 h2))
  · show execLicenceQuery first s = _
    have inside : (first == 0 || decide (s.ht.licence.length < first ∧ s.ht.licence.length ≠ 0)) = false := by
      rcases h2 with h2 | h2
      · simp [h1, h2]
      · simp [h1, h2]
    exact hostRequest_report h (find?_check_passed inside)
  · show execTimeQuery s = _
    exact hostRequest_report h rfl
  · show execStoreStatus s = _
    exact hostRequest_report h rfl
  · show execBookQuery b s = _
    exact hostRequest_report h (find?_check_passed (by simp [hb]))
  · show execFindingsQuery b s = _
    have pass : (s.bookChecks b).find? (fun c => c.1) = none := by simp [State.bookChecks, hb, scan]
    exact hostRequest_report h pass
  · show execDutyQuery t s = _
    exact hostRequest_report h (find?_check_passed (badTx_eq_false h1 h2))
  · show execTxStatus t s = _
    exact hostRequest_report h (find?_check_passed (badTx_eq_false h1 h2))
  · show execMoverQuery m s = _
    exact hostRequest_report h (find?_check_passed (by simp [within, h1, h2]))
  · show execAntennaStatus a s = _
    exact hostRequest_report h (find?_check_passed (badAnt_eq_false h1 h2))
  · show execPermitQuery s = _
    exact hostRequest_report h rfl
  · show execProtQuery t s = _
    have inside : t ≤ s.received.params.txCount := ht
    exact hostRequest_report h (find?_check_passed (by simp [inside]))
  · show execDiagQuery s = _
    exact hostRequest_report h rfl

end Sys2Proof.Machine

/-! # The host receiver (O14) -/

namespace Sys2Proof.Machine

open Sys2Proof

section

variable {s : State} {m : Nat} {d : Option Nat}

theorem exec_hostFrameDiscard (xs : List LineOctet) (s : State) :
    exec (.hostFrameDiscard xs) s = .next (xs.foldl State.takeHostOctet s) := rfl

theorem exec_hostStartOctet (s : State) : exec .hostStartOctet s = .next (s.takeHostOctet (.value 0x5A)) := rfl

theorem exec_huntStopBitError (s : State) : exec .huntStopBitError s = .next (s.takeHostOctet .badStopBit) := rfl

theorem exec_hostFrameQueued (kind : Nat) (body : List Byte) (s : State) :
    exec (.hostFrameQueued kind body) s = .next (s.frameArrives (waitingFrame kind body)) := rfl

/-! ## In HUNT -/

theorem State.takeHostOctet_start (h : s.lc.receiver = .hunt) :
    s.takeHostOctet (.value 0x5A) = { s with lc := { s.lc with receiver := .taking [0x5A] s.clock s.receiveDeadline } } := by
  simp only [State.takeHostOctet, HostReceiver.take, h, State.hostEvent, if_true]

theorem State.takeHostOctet_passedOver {b : Byte} (h : s.lc.receiver = .hunt) (hb : b ≠ 0x5A) : s.takeHostOctet (.value b) = s := by
  simp only [State.takeHostOctet, HostReceiver.take, h, State.hostEvent, if_neg hb]
  rw [← h]

theorem State.takeHostOctet_huntStopBit (h : s.lc.receiver = .hunt) :
    s.takeHostOctet .badStopBit = { s with lc := { s.lc with counters :=
      { s.lc.counters with stopBit := satSucc 65535 s.lc.counters.stopBit } } } := by
  simp only [State.takeHostOctet, HostReceiver.take, h, State.hostEvent, HostCounters.discard]

/-! ## In TAKING -/

theorem State.takeHostOctet_stopBit {octets : List Byte} (h : s.lc.receiver = .taking octets m d) :
    s.takeHostOctet .badStopBit = s.discardFrame .badStopBit := by
  simp only [State.takeHostOctet, HostReceiver.take, h, State.hostEvent]

/-- LEN is the second octet, whatever follows it. -/
theorem octetAt_length (x n : Byte) (rest : List Byte) : octetAt (x :: n :: rest) 1 = n.toNat := rfl

/-- The octets of a frame short of its end are taken one by one. -/
theorem State.takeHostOctets_more {n : Byte} (more taken : List Byte)
    (h : s.lc.receiver = .taking (0x5A :: n :: taken) m d) (short : taken.length + more.length + 1 < n.toNat + 3) :
    (more.map LineOctet.value).foldl State.takeHostOctet s =
      { s with lc := { s.lc with receiver := .taking (0x5A :: n :: (taken ++ more)) m d } } := by
  induction more generalizing s taken with
  | nil => simp only [List.map_nil, List.foldl_nil, List.append_nil, ← h]
  | cons b more ih =>
    have one : s.takeHostOctet (.value b) =
        { s with lc := { s.lc with receiver := .taking (0x5A :: n :: (taken ++ [b])) m d } } :=
      State.takeHostOctet_more h (by simp) (by
        simp only [List.cons_append, octetAt_length, List.length_cons] at short ⊢
        omega)
    have shorter : (taken ++ [b]).length + more.length + 1 < n.toNat + 3 := by
      simp only [List.length_append, List.length_cons, List.length_nil] at short ⊢
      omega
    rw [List.map_cons, List.foldl_cons, one, ih (taken ++ [b]) rfl shorter, List.append_assoc]
    rfl

/-- LEN itself. -/
theorem State.takeHostOctet_length {n : Byte} (lower : 1 ≤ n.toNat) (upper : n.toNat ≤ 250) (h : s.lc.receiver = .taking [0x5A] m d) :
    s.takeHostOctet (.value n) = { s with lc := { s.lc with receiver := .taking [0x5A, n] m d } } := by
  have fits : ¬(n = 0 ∨ 250 < n.toNat) := by
    rintro (rfl | large)
    · exact absurd lower (by decide)
    · omega
  refine State.takeHostOctet_more h (fun _ => fits) ?_
  simp only [List.cons_append, List.nil_append, octetAt_length, List.length_cons, List.length_nil]
  omega

/-- A frame short of its end. -/
theorem State.takeHostOctets_short {n : Byte} {rest : List Byte} (h : s.lc.receiver = .taking [0x5A] m d) (lower : 1 ≤ n.toNat)
    (upper : n.toNat ≤ 250) (short : (n :: rest).length < n.toNat + 3) :
    ((n :: rest).map LineOctet.value).foldl State.takeHostOctet s =
      { s with lc := { s.lc with receiver := .taking (0x5A :: n :: rest) m d } } := by
  rw [List.map_cons, List.foldl_cons, State.takeHostOctet_length lower upper h,
    State.takeHostOctets_more rest [] rfl (by simpa using short)]
  rfl

/-- A frame whose last octet comes: its CRC-16 decides. -/
theorem State.takeHostOctets_complete {n : Byte} {rest : List Byte} (h : s.lc.receiver = .taking [0x5A] m d) (lower : 1 ≤ n.toNat)
    (upper : n.toNat ≤ 250) (complete : (n :: rest).length = n.toNat + 3) :
    ∃ l, ((n :: rest).map LineOctet.value).foldl State.takeHostOctet s =
      State.hostEvent { s with lc := { s.lc with receiver := l } } .hunt (checkHostFrame (0x5A :: n :: rest)) := by
  rcases List.eq_nil_or_concat rest with rfl | ⟨init, last, rfl⟩
  · simp at complete
  · have short : (n :: init).length < n.toNat + 3 := by simp at complete ⊢; omega
    refine ⟨.taking (0x5A :: n :: init) m d, ?_⟩
    have split : ((n :: (init ++ [last])).map LineOctet.value) = (n :: init).map LineOctet.value ++ [LineOctet.value last] := by simp
    rw [List.concat_eq_append, split, List.foldl_append, State.takeHostOctets_short h lower upper short, List.foldl_cons, List.foldl_nil,
      State.takeHostOctet_last rfl (by simp) (by simp at complete ⊢; simp only [octetAt_length]; omega)]
    rfl

theorem octetAt_succ (x : Byte) (bs : List Byte) (i : Nat) : octetAt (x :: bs) (i + 1) = octetAt bs i := by
  simp [octetAt]

/-- The check of a frame is over its octets after the start octet. -/
theorem checkHostFrame_start {octets : List Byte} (long : 4 ≤ octets.length) : checkHostFrame (0x5A :: octets) =
    if (crc16 (octets.take (octets.length - 2))).toNat ≠ wordAt octets (octets.length - 2) then .discard .badCrc
    else .frame (octetAt octets 1) ((octets.take (octets.length - 2)).drop 2) := by
  have covered : ((0x5A :: octets).take ((0x5A :: octets).length - 2)).drop 1 = octets.take (octets.length - 2) := by
    have hl : (0x5A :: octets).length - 2 = (octets.length - 2) + 1 := by simp; omega
    rw [hl, List.take_succ_cons, List.drop_one, List.tail_cons]
  have word : wordAt (0x5A :: octets) ((0x5A :: octets).length - 2) = wordAt octets (octets.length - 2) := by
    have hl : (0x5A :: octets).length - 2 = (octets.length - 2) + 1 := by simp; omega
    rw [hl, wordAt, wordAt, octetAt_succ, octetAt_succ]
  have kind : octetAt (octets.take (octets.length - 2)) 1 = octetAt octets 1 := by
    have inside : 1 < octets.length - 2 := by omega
    rw [octetAt, octetAt, List.getD_eq_getElem?_getD, List.getD_eq_getElem?_getD, List.getElem?_take_of_lt inside]
  unfold checkHostFrame
  dsimp only
  rw [covered, word, kind]

theorem exec_hostReceiveTimeout_none {octets : List Byte} (h : s.lc.receiver = .taking octets m none) :
    exec .hostReceiveTimeout s = .next s := by
  show execHostReceiveTimeout s = _
  simp only [execHostReceiveTimeout, h]

theorem exec_hostReceiveTimeout_some {octets : List Byte} {e : Nat} (h : s.lc.receiver = .taking octets m (some e)) :
    exec .hostReceiveTimeout s = .next ((s.reach e).discardFrame .timeout) := by
  show execHostReceiveTimeout s = _
  simp only [execHostReceiveTimeout, h]

/-- The receiver state does not matter to a frame that has arrived or is discarded. -/
theorem State.hostEvent_frame (r : HostReceiver) (kind : Nat) (body : List Byte) :
    State.hostEvent { s with lc := { s.lc with receiver := r } } .hunt (.frame kind body) = s.frameArrives (waitingFrame kind body) := rfl

theorem State.hostEvent_discard (r : HostReceiver) (cause : FrameDiscard) :
    State.hostEvent { s with lc := { s.lc with receiver := r } } .hunt (.discard cause) = s.discardFrame cause := rfl

theorem waitingFrame_ok {kind : Nat} {body : List Byte} {c : Instr} (h : decodeRequest kind body = .ok c) :
    waitingFrame kind body = .request c := by simp only [waitingFrame, h]

theorem waitingFrame_error {kind : Nat} {body : List Byte} {status : Status} (h : decodeRequest kind body = .error status) :
    waitingFrame kind body = .malformed kind status := by simp only [waitingFrame, h]

theorem State.frameArrives_room (h : s.framesHeld < 2) (f : WaitingFrame) :
    s.frameArrives f = { s with lc := { s.lc with receiver := .hunt, waiting := s.lc.waiting ++ [f] } } := if_pos h

theorem State.frameArrives_full (h : 2 ≤ s.framesHeld) (f : WaitingFrame) :
    s.frameArrives f = State.alert { s with lc := { s.lc with receiver := .hunt, counters :=
      { s.lc.counters with overflow := satSucc 65535 s.lc.counters.overflow } } } .linkErr := if_neg (by omega)

end

/-- Settles O14. -/
theorem receiver_counts_discards_and_takes_frames : Obligations.receiver_counts_discards_and_takes_frames := by
  refine ⟨fun s r h hr => ⟨?_, fun b hb => ?_, ?_⟩, fun s m d n rest octets h ho => ⟨fun only bad => ?_, fun lower upper short => ?_,
    fun lower upper complete => ?_⟩, fun s octets m d h => ⟨?_, fun e he => ?_, fun hd => ?_⟩, fun s xs ys => ⟨rfl, rfl, ?_⟩,
    fun kind body s held (hheld : held = s.framesHeld) => ⟨fun room c hc => ?_, fun room status hs => ?_, fun full => ?_⟩⟩
  · rw [exec_hostStartOctet, State.takeHostOctet_start h, hr, State.receiveDeadline]
  · rw [exec_hostFrameDiscard, List.foldl_cons, List.foldl_nil, State.takeHostOctet_passedOver h hb]
  · rw [exec_huntStopBitError, State.takeHostOctet_huntStopBit h]
  · subst ho only
    rw [exec_hostFrameDiscard, List.map_cons, List.map_nil, List.foldl_cons, List.foldl_nil, State.takeHostOctet_badLength h bad]
    rfl
  · subst ho
    rw [exec_hostFrameDiscard, State.takeHostOctets_short h lower upper short]
  · subst ho
    obtain ⟨l, taken⟩ := State.takeHostOctets_complete h lower upper complete
    rw [exec_hostFrameDiscard, taken, checkHostFrame_start (by omega)]
    constructor
    · intro wrong
      rw [if_pos wrong, State.hostEvent_discard]
      rfl
    · intro right
      rw [if_neg (not_not_intro right), State.hostEvent_frame, exec_hostFrameQueued]
  · rw [exec_hostFrameDiscard, List.foldl_cons, List.foldl_nil, State.takeHostOctet_stopBit h]
    rfl
  · subst he
    rw [exec_hostReceiveTimeout_some h]
    rfl
  · subst hd
    exact exec_hostReceiveTimeout_none h
  · obtain ⟨l, hl⟩ := State.takeHostOctets_link xs s
    exact ⟨l, by rw [exec_hostFrameDiscard, hl], by rw [exec_hostFrameDiscard, List.foldl_append, hl, exec_hostFrameDiscard]⟩
  · rw [exec_hostFrameQueued, waitingFrame_ok hc, State.frameArrives_room (hheld ▸ room : s.framesHeld < 2)]
  · rw [exec_hostFrameQueued, waitingFrame_error hs, State.frameArrives_room (hheld ▸ room : s.framesHeld < 2)]
  · rw [exec_hostFrameQueued, State.frameArrives_full (hheld ▸ full : 2 ≤ s.framesHeld)]

end Sys2Proof.Machine

/-! # The Time Base (O19 to O22) -/

namespace Sys2Proof.Machine

open Sys2Proof

section

variable {s : State} {i new : Nat}

/-! ## Marks -/

/-- The instant that a mark at `i` begins: an armed value, or the next second (R24, R25). -/
def TimeBase.following (x : TimeBase) (i : Nat) : Nat := match x.pendingSet with | some p => p.instant | none => i + 1

theorem TimeBase.following_ordinary {x : TimeBase} (h : x.pendingSet = none) (i : Nat) : x.following i = i + 1 := by
  simp only [TimeBase.following, h]

/-- A mark while the time is valid, before the end of range. -/
theorem State.secondMark_valid (valid : s.tb.state = .locked ∨ s.tb.state = .holdover) (instant : s.tb.instant = some i)
    (before : s.tb.following i ≠ endOfRange) :
    s.secondMark = (s.setTime { s.tb.elapse with instant := some (s.tb.following i), pendingSet := none }).post
      (.secondEvent (s.tb.following i) (stepOf (s.tb.following i) (i + 1))) := by
  rcases valid with state | state
  · simp only [State.secondMark, State.setTime_tb, TimeBase.elapse, state, instant]
    exact if_neg before
  · simp only [State.secondMark, State.setTime_tb, TimeBase.elapse, state, instant]
    exact if_neg before

/-- The mark at the end of range (R27). -/
theorem State.secondMark_end (valid : s.tb.state = .locked) (instant : s.tb.instant = some i) (ends : s.tb.following i = endOfRange) :
    s.secondMark = (s.setTime s.tb.elapse).timeEnds := by
  simp only [State.secondMark, State.setTime_tb, TimeBase.elapse, valid, instant]
  exact if_pos ends

/-- A mark without valid time only counts. -/
theorem State.secondMark_invalid (h : s.tb.state = .invalid ∨ s.tb.state = .pending) : s.secondMark = s.setTime s.tb.elapse := by
  rcases h with state | state
  · simp only [State.secondMark, State.setTime_tb, TimeBase.elapse, state]
  · simp only [State.secondMark, State.setTime_tb, TimeBase.elapse, state]

theorem stepOf_self (n : Nat) : stepOf n n = .none := if_pos rfl

theorem inWindow_eq_true {clock e : Nat} (h1 : e ≤ clock + 100) (h2 : clock ≤ e + 100) : inWindow clock e = true := by
  simp [inWindow, h1, h2]

theorem inWindow_eq_false {clock e : Nat} (h : clock + 100 < e ∨ e + 100 < clock) : inWindow clock e = false := by
  simp only [inWindow, decide_eq_false_iff_not]
  omega

/-! ## Pulses -/

theorem exec_timePulse (s : State) : exec .timePulse s = .next s.pulse.settled := rfl

theorem State.pulse_invalid (h : s.tb.state = .invalid) : s.pulse = s := by simp only [State.pulse, h]

theorem State.pulse_pending {p : PendingSet} (h : s.tb.state = .pending) (armed : s.tb.pendingSet = some p) :
    s.pulse = s.firstMark p .locked (some s.clock) := by simp only [State.pulse, h, armed]

/-- A pulse inside the window of a mark at E. -/
theorem State.pulse_inWindow (h : s.tb.state = .locked ∨ s.tb.state = .holdover) (inside : inWindow s.clock s.tb.expected = true) :
    s.pulse = s.acceptPulse.secondMark := by
  rcases h with state | state
  · simp only [State.pulse, state, inside, if_true]
  · simp only [State.pulse, state, inside, if_true]

theorem State.pulse_ignored (h : s.tb.state = .locked) (outside : inWindow s.clock s.tb.expected = false) : s.pulse = s.ignorePulse := by
  simp only [State.pulse, h, outside, Bool.false_eq_true, if_false]

/-- A pulse inside the window of the E that has been marked in HOLDOVER. -/
theorem State.pulse_openWindow {e : Nat} (h : s.tb.state = .holdover) (outside : inWindow s.clock s.tb.expected = false)
    (opened : s.tb.openWindow = some e) (inside : s.clock ≤ e + 100) : s.pulse = s.acceptPulse := by
  simp only [State.pulse, h, outside, opened, Bool.false_eq_true, if_false]
  exact if_pos inside

/-- The first of a chain. -/
theorem State.ignorePulse_first (h : s.tb.chain = []) :
    s.ignorePulse = s.setTime { s.tb with ignored := satSucc 65535 s.tb.ignored, chain := [s.clock] } := by
  simp only [State.ignorePulse, h, List.getLast?_nil]

theorem State.ignorePulse_eq {before : List Nat} {last : Nat} (h : s.tb.chain = before ++ [last]) :
    s.ignorePulse =
      if last + 900 ≤ s.clock ∧ s.clock ≤ last + 1100 then
        if s.tb.chain.length = 2 then s.setTime { s.tb with ignored := satSucc 65535 s.tb.ignored, expected := s.clock + 1000
                                                            openWindow := none, chain := [] }
        else s.setTime { s.tb with ignored := satSucc 65535 s.tb.ignored, chain := s.tb.chain ++ [s.clock] }
      else s.setTime { s.tb with ignored := satSucc 65535 s.tb.ignored, chain := [s.clock] } := by
  have getLast : s.tb.chain.getLast? = some last := by rw [h]; exact List.getLast?_concat
  simp only [State.ignorePulse, getLast]

/-! ## Deadlines -/

theorem State.reach_at {m : Nat} (h : s.clock ≤ m) : s.reach m = { s with clock := m } := by
  rw [State.reach, Nat.max_eq_right h]

theorem exec_oscillatorMark (h : s.tb.state ≠ .locked) : exec .oscillatorMark s = .next s.oscillate.settled := by
  show execOscillatorMark s = _
  unfold execOscillatorMark
  split
  next state => exact absurd state h
  next => rfl
  next => rfl
  next => rfl

theorem exec_windowClose (h : s.tb.state = .locked) : exec .windowClose s = .next s.closeWindow.settled := by
  show execWindowClose s = _
  simp only [execWindowClose, h]

theorem exec_holdoverEntry {m : Nat} (h : s.tb.state = .locked) (pulse : s.tb.lastPulse = some m) :
    exec .holdoverEntry s =
      .next (((s.reach (m + 1500)).setTime { s.tb with state := .holdover, openWindow := none }).alert .time) := by
  show execHoldoverEntry s = _
  simp only [execHoldoverEntry, h, pulse, State.reach_tb]

theorem exec_pendingExpiry {p : PendingSet} (h : s.tb.state = .pending) (armed : s.tb.pendingSet = some p) :
    exec .pendingExpiry s = .next (((s.reach (p.moment + 1500)).firstMark p .holdover s.tb.lastPulse).alert .time).settled := by
  show execPendingExpiry s = _
  simp only [execPendingExpiry, h, armed]

theorem exec_timeSet {day second : Nat} (h : s.ready) (hday : day ≤ 65535) (hsecond : second ≤ 86399)
    (before : ¬(day = 65535 ∧ second = 86399)) :
    exec (.timeSet day second) s = .next ((s.received.armTime (day * 86400 + second)).answer 0x20 .ok []) := by
  show execTimeSet day second s = _
  have pass : (State.timeSetChecks day second).find? (fun c => c.1) = none := by
    have inside : day * 86400 + second ≠ endOfRange := by unfold endOfRange; omega
    simp [State.timeSetChecks, hday, hsecond, inside]
  unfold execTimeSet
  rw [hostRequest_ready h, State.handle_accepted pass]

end

/-- Settles O19. -/
theorem armed_value_is_held_and_applied : Obligations.armed_value_is_held_and_applied := by
  refine ⟨fun day second s h hday hsecond before => exec_timeSet h hday hsecond before, fun s p state armed => ⟨?_, fun due => ?_⟩⟩
  · rw [exec_timePulse, State.pulse_pending state armed]
    rfl
  · rw [exec_pendingExpiry state armed, State.reach_at due]
    rfl

/-- Settles O20. -/
theorem pulses_mark_and_phase_the_second : Obligations.pulses_mark_and_phase_the_second := by
  refine ⟨fun s i new step state instant early late hnew before hstep => ?_, fun s => ⟨fun state => ?_,
    fun i state instant unarmed before early late => ?_, fun e state opened inside outside => ?_⟩⟩
  · have hnew' : new = s.acceptPulse.tb.following i := hnew
    subst hnew' hstep
    rw [exec_timePulse, State.pulse_inWindow (.inl state) (inWindow_eq_true early late),
      State.secondMark_valid (s := s.acceptPulse) (.inl rfl) instant before]
    simp only [State.acceptPulse, State.setTime, TimeBase.elapse, State.post, stepOf, ← state]
    rfl
  · rw [exec_timePulse, State.pulse_invalid state]
  · rw [exec_timePulse, State.pulse_inWindow (.inr state) (inWindow_eq_true early late),
      State.secondMark_valid (s := s.acceptPulse) (.inl rfl) instant
        (by rw [TimeBase.following_ordinary (x := s.acceptPulse.tb) unarmed]; exact before),
      TimeBase.following_ordinary (x := s.acceptPulse.tb) unarmed, stepOf_self]
    simp only [State.acceptPulse, State.setTime, TimeBase.elapse, State.post, unarmed]
  · rw [exec_timePulse, State.pulse_openWindow state (inWindow_eq_false outside) opened inside]
    rfl

/-- Settles O21. -/
theorem ignored_pulse_is_counted_and_offered_to_the_chain : Obligations.ignored_pulse_is_counted_and_offered_to_the_chain := by
  intro s chain state hchain bound outside
  refine ⟨_, exec_timePulse s, ?_⟩
  rw [State.settled_tb, State.pulse_ignored state (inWindow_eq_false outside)]
  rcases List.eq_nil_or_concat' chain with rfl | ⟨init, last, rfl⟩
  · rw [State.ignorePulse_first hchain]
    refine ⟨state, rfl, rfl, rfl, rfl, rfl, fun _ => ⟨rfl, rfl⟩, fun before last h => ?_⟩
    simp at h
  · have sameLast {before : List Nat} {l : Nat} (h : init ++ [last] = before ++ [l]) : last = l := by simpa using (List.append_inj' h rfl).2
    rw [State.ignorePulse_eq hchain]
    by_cases near : last + 900 ≤ s.clock ∧ s.clock ≤ last + 1100
    · rw [if_pos near]
      by_cases third : s.tb.chain.length = 2
      · rw [if_pos third]
        refine ⟨state, rfl, rfl, rfl, rfl, rfl, fun h => by simp at h, fun before l h => ⟨fun _ => ⟨fun one => ?_, fun _ => ⟨rfl, rfl⟩⟩,
          fun far => ?_⟩⟩
        · rw [hchain] at third
          omega
        · exact absurd (sameLast h ▸ near) far
      · rw [if_neg third]
        refine ⟨state, rfl, rfl, rfl, rfl, rfl, fun h => by simp at h, fun before l h => ⟨fun _ => ⟨fun one => ⟨?_, rfl⟩, fun two => ?_⟩,
          fun far => ?_⟩⟩
        · have single : init = [] := by simpa using one
          show s.tb.chain ++ [s.clock] = [l, s.clock]
          rw [hchain, single, sameLast h]
          rfl
        · exact absurd (hchain ▸ two) third
        · exact absurd (sameLast h ▸ near) far
    · rw [if_neg near]
      exact ⟨state, rfl, rfl, rfl, rfl, rfl, fun h => by simp at h, fun before l h => ⟨fun close => absurd (sameLast h ▸ close) near,
        fun _ => ⟨rfl, rfl⟩⟩⟩

/-- Settles O22. -/
theorem seconds_are_marked_without_a_pulse : Obligations.seconds_are_marked_without_a_pulse := by
  refine ⟨fun s i before => ⟨fun state due => ?_, fun state instant unarmed due => ?_, fun state instant unarmed due => ?_⟩,
    fun s m state pulse due => ?_, fun s state instant unarmed due => ?_⟩
  · rw [exec_oscillatorMark (by rcases state with state | state <;> simp [state]), State.oscillate, State.reach_at due,
      State.secondMark_invalid (s := { s with clock := s.tb.expected }) state]
    have valid : s.tb.state ≠ .holdover := by rcases state with state | state <;> simp [state]
    simp only [State.setTime, TimeBase.elapse, valid, if_false]
  · rw [exec_oscillatorMark (by simp [state]), State.oscillate, State.reach_at due,
      State.secondMark_valid (s := { s with clock := s.tb.expected }) (.inr state) instant
        (by rw [TimeBase.following_ordinary unarmed]; exact before), TimeBase.following_ordinary unarmed, stepOf_self]
    simp only [State.setTime, TimeBase.elapse, State.post, state, unarmed, if_true]
  · rw [exec_windowClose state, State.closeWindow, State.reach_at due,
      State.secondMark_valid (s := { s with clock := s.tb.expected + 100 }) (.inl state) instant
        (by rw [TimeBase.following_ordinary unarmed]; exact before), TimeBase.following_ordinary unarmed, stepOf_self]
    simp only [State.setTime, TimeBase.elapse, State.post, unarmed]
  · rw [exec_holdoverEntry state pulse, State.reach_at due]
    rfl
  · rw [exec_windowClose state, State.closeWindow, State.reach_at due,
      State.secondMark_end (s := { s with clock := s.tb.expected + 100 }) state instant (TimeBase.following_ordinary unarmed _)]
    simp only [State.timeEnds, State.setTime, TimeBase.elapse, State.alert, unarmed]

end Sys2Proof.Machine

/-! # The hall tables (O15 to O17) -/

namespace Sys2Proof.Machine

open Sys2Proof

theorem mem_upTo {n k : Nat} : k ∈ upTo n ↔ 1 ≤ k ∧ k ≤ n := by
  simp only [upTo, List.mem_map, List.mem_range]
  constructor
  · rintro ⟨i, hi, rfl⟩
    omega
  · rintro ⟨h1, h2⟩
    exact ⟨k - 1, by omega, by omega⟩

/-- What a change of the tables leaves once it has been made: the blocks that are not told of it, and the fault flags of the antennas
up to `count`. -/
structure SameTables (count : Nat) (s t : State) : Prop where
  ht : t.ht = s.ht
  tb : t.tb = s.tb
  array : t.ss.array = s.ss.array
  settings : t.pt.settings = s.pt.settings
  windows : t.pc.windows = s.pc.windows
  inputs : ∀ n, (t.input n).SameDefinition (s.input n)
  faults : ∀ a k, a ≤ count → (s.faultSet a).getLsbD k = true → (t.faultSet a).getLsbD k = true

section

variable {s t u : State} {count : Nat}

theorem SameTables.refl (count : Nat) (s : State) : SameTables count s s :=
  ⟨rfl, rfl, rfl, rfl, rfl, fun _ => ⟨rfl, rfl, rfl⟩, fun _ _ _ h => h⟩

theorem SameTables.trans (h : SameTables count s t) (k : SameTables count t u) : SameTables count s u where
  ht := k.ht.trans h.ht
  tb := k.tb.trans h.tb
  array := k.array.trans h.array
  settings := k.settings.trans h.settings
  windows := k.windows.trans h.windows
  inputs n := by
    obtain ⟨kind, level, rows⟩ := h.inputs n
    obtain ⟨kind', level', rows'⟩ := k.inputs n
    exact ⟨kind'.trans kind, level'.trans level, rows'.trans rows⟩
  faults a i ha hi := k.faults a i ha (h.faults a i ha hi)

theorem SameTables.foldl {α : Type} {f : State → α → State} (xs : List α) (hf : ∀ u, ∀ x ∈ xs, SameTables count u (f u x)) (s : State) :
    SameTables count s (xs.foldl f s) := by
  induction xs generalizing s with
  | nil => exact .refl count s
  | cons x xs ih => exact (hf s x (by simp)).trans (ih (fun u y hy => hf u y (by simp [hy])) _)

/-- The command does not matter, but for the antenna whose flags it may clear. -/
theorem Keeps.sameTables {a flags : Nat} (h : Keeps (.faultClear a flags) s t) (above : count < a) : SameTables count s t where
  ht := h.hall rfl
  tb := h.time rfl
  array := h.array rfl
  settings := h.settings rfl
  windows := h.windows rfl
  inputs := h.inputs rfl
  faults d k hd := h.faults d k (by simp [Instr.clearsFault]; omega)

theorem Handed.sameTables (h : Handed s t) : SameTables count s t :=
  Keeps.sameTables (a := count + 1) (flags := 0) h.keeps (Nat.lt_succ_self _)

/-- What follows a change of the tables clears no flag of an antenna that is left (R4, R194). -/
theorem State.tablesChanged_sameTables (s before : State) : SameTables s.params.antCount s (s.tablesChanged before) := by
  have slots := SameTables.foldl (count := s.params.antCount) (slotsBetween before.params.txCount s.params.txCount)
    (f := fun u t => u.resetSlot t) (fun u t _ => ((Keeps.refl (.faultClear _ 0) u).resetSlot t).sameTables (Nat.lt_succ_self _)) s
  have params : ((slotsBetween before.params.txCount s.params.txCount).foldl (fun u t => u.resetSlot t) s).params = s.params :=
    congrArg HallTables.params slots.ht
  have antennas := slots.trans (SameTables.foldl ((upTo 24).filter fun a => decide (s.params.antCount < a))
    (f := fun u a => u.forgetAntenna a) (fun u a ha => by
      have above : s.params.antCount < a := by simpa using (List.mem_filter.mp ha).2
      exact Keeps.sameTables (a := a) (flags := 0) (((Keeps.refl _ u).setFaultSet a 0 fun k hc => by
        simp [Instr.clearsFault] at hc).handed ((Handed.refl _).setLastChecked a none)) above) _)
  have present := antennas.trans (State.presenceChanged_handed (Handed.refl _) before).sameTables
  have links := present.trans (SameTables.foldl (upTo 12) (f := fun u t => (u.checkLink t).checkStale t)
    (fun u t _ => (((Keeps.refl (.faultClear _ 0) u).checkLink t).checkStale t).sameTables (Nat.lt_succ_self _)) _)
  unfold State.tablesChanged
  dsimp only
  rw [params]
  split
  · exact links.trans ((((Keeps.refl (.faultClear _ 0) _).nextScrub.postOnce _).postOnce _).sameTables (Nat.lt_succ_self _))
  · exact links.trans ((((Keeps.refl (.faultClear _ 0) _).postOnce _).postOnce _).sameTables (Nat.lt_succ_self _))

theorem State.answer_faultSet (s : State) (k : Nat) (status : Status) (body : List Byte) (a : Nat) :
    (s.answer k status body).faultSet a = s.faultSet a := rfl

/-- The reply of an accepted request, after what it hands over. -/
theorem State.settled_ok (v : State) (k : Nat) (body : List Byte) :
    (v.answer k .ok body).settled.lc.reply = some { kind := k, status := .ok, body := body } :=
  (State.settled_reply (s := v.answer k .ok body) rfl).1

/-! ## HALL_SET -/

/-- An antenna slot of tables cut to a parameter set (R4). -/
theorem HallTables.nth_withParams_ants (h : HallTables) (p : HallParams) (a : Nat) :
    nth (h.withParams p).ants none a =
      if a ≤ p.antCount then (nth h.ants none a).map fun r => { r with neighbours := r.neighbours.filter fun b => decide (b ≤ p.antCount) }
      else none := by
  have mapped {xs : List (Option AntRecord)} {f : AntRecord → AntRecord} : nth (xs.map (Option.map f)) none a = (nth xs none a).map f := by
    unfold nth
    split
    · rfl
    · rw [List.getD_eq_getElem?_getD, List.getD_eq_getElem?_getD, List.getElem?_map]
      cases xs[a - 1]? <;> rfl
  show nth ((cutAbove p.antCount h.ants).map (Option.map fun r => r.within p.antCount)) none a = _
  rw [mapped, nth_cutAbove]
  split
  · rfl
  · rfl

theorem State.hallChecks_find? {p : HallParams} (range : HallParams.inRange p = true) (stopped : s.se.state = .stopped)
    (txs : ∀ n, p.txCount < n → n ≤ 12 → (s.tx n).isSome = true → (s.seq n).state = .off ∨ (s.seq n).state = .unknown)
    (ants : ∀ a, p.antCount < a → a ≤ 24 →
      (s.claim a).occupant = none ∧ (s.claim a).reservation = none ∧ (s.claim a).testClaim = false) :
    (s.hallChecks p).find? (fun c => c.1) = none := by
  have idle : s.txInUse p.txCount = false := by
    simp only [State.txInUse, List.any_eq_false, mem_upTo]
    intro n hn hused
    simp only [Bool.and_eq_true, decide_eq_true_eq, bne_iff_ne] at hused
    rcases txs n hused.1.1.1 hn.2 hused.1.1.2 with off | unknown
    · exact hused.1.2 off
    · exact hused.2 unknown
  have free : ((upTo 24).any fun a => decide (p.antCount < a) && s.antInUse a) = false := by
    simp only [List.any_eq_false, mem_upTo]
    intro a ha hused
    simp only [Bool.and_eq_true, decide_eq_true_eq] at hused
    obtain ⟨occupant, reservation, testClaim⟩ := ants a hused.1 ha.2
    simp [State.antInUse, occupant, reservation, testClaim] at hused
  simp [State.hallChecks, range, stopped, idle, free]

/-- Settles O15. -/
theorem hall_set_replaces_the_parameters : Obligations.hall_set_replaces_the_parameters := by
  intro p s h range stopped txs ants
  have accepted : exec (.hallSet p) s = .next ((s.received.setHall p).answer 0x10 .ok []).settled := by
    show execHallSet p s = _
    unfold execHallSet
    rw [hostRequest_ready h, State.request_accepted (show (s.received.hallChecks p).find? (fun c => c.1) = none from
      State.hallChecks_find? (s := s) range stopped txs ants)]
  have same : SameTables p.antCount { s.received with ht := s.received.ht.withParams p } (s.received.setHall p) :=
    State.tablesChanged_sameTables { s.received with ht := s.received.ht.withParams p } s.received
  have ht : ((s.received.setHall p).answer 0x10 .ok []).settled.ht = s.ht.withParams p := by
    rw [State.settled_ht, State.answer_ht]
    exact same.ht
  refine ⟨_, accepted, State.settled_ok _ _ _, ?_, fun n => ?_, fun a => ?_, ?_, ?_, ?_, ?_, ?_⟩
  · rw [ht]; rfl
  · rw [ht]; exact nth_cutAbove _ _ _
  · rw [ht]; exact s.ht.nth_withParams_ants p a
  · rw [ht]; rfl
  · rw [ht]; rfl
  · rw [ht]; rfl
  · rw [State.settled_tb, State.answer_tb]; exact same.tb
  · rw [State.settled_array, State.answer_ss]; exact same.array

/-! ## TX_DEFINE and ANT_DEFINE -/

theorem State.txDefineChecks_find? {n : Nat} {f : TxFields} (h1 : 1 ≤ n) (h2 : n ≤ s.params.txCount) (range : TxFields.inRange f = true)
    (manual : (s.duty n).mode = .manual) (state : (s.seq n).state = .off ∨ (s.seq n).state = .unknown) :
    (s.txDefineChecks n f).find? (fun c => c.1) = none := by
  rcases state with state | state
  · simp [State.txDefineChecks, badTx_eq_false h1 h2, range, manual, state]
  · simp [State.txDefineChecks, badTx_eq_false h1 h2, range, manual, state]

theorem State.antDefineChecks_find? {a : Nat} {f : AntFields} (h1 : 1 ≤ a) (h2 : a ≤ s.params.antCount)
    (range : AntFields.inRange f a s.params.antCount = true) (occupant : (s.claim a).occupant = none)
    (reservation : (s.claim a).reservation = none) (testClaim : (s.claim a).testClaim = false) :
    (s.antDefineChecks a f).find? (fun c => c.1) = none := by
  simp [State.antDefineChecks, badAnt_eq_false h1 h2, range, State.antInUse, occupant, reservation, testClaim]

/-- The flag that an antenna gains is set, if the antenna is defined and numbered (R194). -/
theorem State.addFault_set {a : Nat} (f : FaultFlag) (defined : (s.ant a).isSome = true) (h1 : 1 ≤ a) (h2 : a ≤ s.ld.faults.length) :
    ((s.addFault a f).faultSet a).getLsbD f.bit = true := by
  have mask : f.mask.getLsbD f.bit = true := by cases f <;> decide
  unfold State.addFault
  split
  next undefined => simp [Option.isNone_iff_eq_none.mp undefined] at defined
  next =>
    split
    next set => exact set
    next =>
      show ((s.setFaultSet a (s.faultSet a ||| f.mask)).faultSet a).getLsbD f.bit = true
      rw [State.faultSet_setFaultSet _ _ _ h1 h2, BitVec.getLsbD_or, mask, Bool.or_true]

/-- ANT_DEFINE replaces the record and the antenna gains UNCHECKED (R2, R3). -/
theorem State.setAnt_unchecked {a : Nat} (r : AntRecord) (sized : s.sized) (h1 : 1 ≤ a) (h2 : a ≤ s.params.antCount)
    (bound : s.params.antCount ≤ 24) : ((s.setAnt a r).faultSet a).getLsbD FaultFlag.unchecked.bit = true := by
  obtain ⟨⟨-, ants⟩, -, -, -, -, -, ⟨faults, -⟩, -⟩ := State.sized_iff.mp sized
  have inside : a ≤ s.ht.ants.length := by omega
  have defined : State.ant { s with ht := { s.ht with ants := setNth s.ht.ants a (some r) } } a = some r :=
    (if_pos h2).trans (nth_setNth_self _ _ _ _ h1 inside)
  have set := State.addFault_set (s := { s with ht := { s.ht with ants := setNth s.ht.ants a (some r) } }) (a := a) .unchecked
    (by rw [defined]; rfl) h1 (by show a ≤ s.ld.faults.length; omega)
  exact ((State.presenceChanged_handed (Handed.refl _) s).postOnce _).faults a _ set

theorem State.setAnt_ht (s : State) (a : Nat) (r : AntRecord) : (s.setAnt a r).ht = { s.ht with ants := setNth s.ht.ants a (some r) } := by
  have handed : Handed { s with ht := { s.ht with ants := setNth s.ht.ants a (some r) } } (s.setAnt a r) :=
    (State.presenceChanged_handed ((Handed.refl _).addFault a .unchecked) s).postOnce _
  exact (handed.sameTables (count := 0)).ht

/-- Settles O16. -/
theorem tx_and_ant_define_replace_one_record : Obligations.tx_and_ant_define_replace_one_record := by
  constructor
  · intro n f s h h1 h2 range manual state
    show execTxDefine n f s = _
    unfold execTxDefine
    rw [hostRequest_ready h, State.handle_accepted (show (s.received.txDefineChecks n f).find? (fun c => c.1) = none from
      State.txDefineChecks_find? (s := s) h1 h2 range manual state)]
    rfl
  · intro a f s h sized bound h1 h2 range occupant reservation testClaim
    have accepted : exec (.antDefine a f) s = .next ((s.received.setAnt a (AntFields.record f)).answer 0x14 .ok []).settled := by
      show execAntDefine a f s = _
      unfold execAntDefine
      rw [hostRequest_ready h, State.request_accepted (show (s.received.antDefineChecks a f).find? (fun c => c.1) = none from
        State.antDefineChecks_find? (s := s) h1 h2 range occupant reservation testClaim)]
    refine ⟨_, accepted, State.settled_ok _ _ _, ?_, ?_, (exec_keeps accepted).time rfl, (exec_keeps accepted).array rfl⟩
    · rw [State.settled_ht, State.answer_ht]
      exact s.received.setAnt_ht a _
    · refine (State.settled_self _).faults a _ ?_
      rw [State.answer_faultSet]
      exact State.setAnt_unchecked (s := s.received) _ sized h1 h2 bound

/-! ## The licence -/

theorem State.licenceRange_first {total final : Nat} {lines : List LicenceLine} (range : ∀ l ∈ lines, LicenceLine.inRange l = true)
    (bound : total ≤ 32) (part : lines.length ≤ 20)
    (fits : final = 0 ∧ lines ≠ [] ∧ lines.length < total ∨ final = 1 ∧ lines.length = total) :
    s.licenceRange 1 total final lines = false := by
  have last : lastLine 1 lines.length = lines.length := by unfold lastLine; omega
  have lines_ok : (lines.any fun l => !LicenceLine.inRange l) = false := by simpa using range
  unfold State.licenceRange State.outOfStep
  rw [last, lines_ok]
  rcases fits with ⟨rfl, nonempty, short⟩ | ⟨rfl, complete⟩
  · simp [bound, part, yesNo, nonempty, short]
    omega
  · have small : total ≤ 20 := complete ▸ part
    simp [bound, small, yesNo, complete]

/-- Settles O17. -/
theorem licence_is_staged_then_in_force_then_locked : Obligations.licence_is_staged_then_in_force_then_locked := by
  intro total lines s h unlocked room range bound part
  have served (final : Nat) (pass : (s.licenceChecks 1 total final lines).find? (fun c => c.1) = none) :
      exec (.licenceWrite 1 total final lines) s = .next ((s.received.takeLicence 1 total final lines).answer 0x16 .ok []).settled := by
    show execLicenceWrite 1 total final lines s = _
    unfold execLicenceWrite
    rw [hostRequest_ready h, State.request_accepted (show (s.received.licenceChecks 1 total final lines).find? _ = none from pass)]
  have hasRoom : s.listHasRoom = true := by simpa [State.listHasRoom] using room
  refine ⟨fun nonempty short => ?_, fun complete noneWaits => ⟨_, served 1 ?_, State.settled_ok _ _ _, ?_⟩, ?_⟩
  · rw [served 0 (by simp [State.licenceChecks, State.licenceRange_first range bound part (.inl ⟨rfl, nonempty, short⟩), unlocked])]
    simp [State.takeLicence, State.stagedWith]
  · simp [State.licenceChecks, State.licenceRange_first range bound part (.inr ⟨rfl, complete⟩), unlocked, noneWaits, hasRoom]
  · rw [State.settled_ht, State.answer_ht]
    have offered := State.offer_handed (Handed.refl { s.received with ht := { s.ht with licence := lines, staging := none } })
      .licenceWrite (.erase 127 :: pagePrograms 8 licenceAddress (licenceOctets lines))
    exact congrArg Kept.ht offered.kept
  · have accepted : exec .licenceLock s = .next ((State.offer { s.received with ht := { s.ht with locked := true, staging := none } }
        .lockMark [.program lockAddress [0x00]]).1.answer 0x18 .ok []).settled := by
      show execLicenceLock s = _
      unfold execLicenceLock
      rw [hostRequest_ready h, State.request_accepted]
      · rfl
      · show List.find? (fun c => c.1) [(s.ht.locked, Status.writeProtected), (!s.listHasRoom, .busy)] = none
        simp [unlocked, hasRoom]
    refine ⟨_, accepted, State.settled_ok _ _ _, ?_⟩
    rw [State.settled_ht, State.answer_ht]
    have offered := State.offer_handed (Handed.refl { s.received with ht := { s.ht with locked := true, staging := none } })
      .lockMark [.program lockAddress [0x00]]
    exact congrArg Kept.ht offered.kept

end

end Sys2Proof.Machine

/-! # The configuration record saved and loaded, and the resets (O12, O18) -/

namespace Sys2Proof.Machine

open Sys2Proof

section

variable {s t u : State}

/-! ## The next work of the store -/

theorem State.offer_admitted {kind : ItemKind} {ops : List StoreOp} (allowed : s.itemAllowed kind = true) (fault : s.ss.state ≠ .fault)
    (room : s.ss.work.length < 8) :
    s.offer kind ops =
      (if s.ss.state = .ready then (s.setStore { s.ss with work := s.ss.work ++ [{ kind := kind, ops := ops }] }).nextWork workFuel
        else s.setStore { s.ss with work := s.ss.work ++ [{ kind := kind, ops := ops }] }, false) := by
  have hasRoom : s.listHasRoom = true := by simpa [State.listHasRoom] using room
  unfold State.offer
  rw [allowed, if_neg (by simp), if_neg fault, hasRoom, if_neg (by simp)]
  rfl

/-- With nothing in flight the oldest waiting item is taken. -/
theorem State.nextWork_take {n : Nat} {item : WorkItem} {rest : List WorkItem} (idle : s.ss.item = none) (waiting : s.ss.work = item :: rest) :
    State.nextWork (n + 1) s = State.nextWork n ((s.setStore { s.ss with item := some item, work := rest }).postOnce .offersAgain) := by
  simp only [State.nextWork, idle, waiting]

/-- The next erase of the item in flight starts. -/
theorem State.nextWork_erase {n k : Nat} {item : WorkItem} {rest : List StoreOp} (inFlight : s.ss.item = some item)
    (next : item.ops = .erase k :: rest) :
    State.nextWork (n + 1) s =
      (s.setStore { s.ss with item := some { item with ops := rest } }).startOp (.erase k) (.item item.kind) := by
  simp only [State.nextWork, inFlight, next]

/-- An item that begins with an erase, offered at an idle store, starts at once (R41). -/
theorem State.offer_starts_erase {kind : ItemKind} {k : Nat} {ops : List StoreOp} (allowed : s.itemAllowed kind = true)
    (ready : s.ss.state = .ready) (idle : s.ss.item = none) (empty : s.ss.work = []) :
    (s.offer kind (.erase k :: ops)).1 =
      (((s.setStore { s.ss with item := some { kind := kind, ops := .erase k :: ops }, work := [] }).postOnce .offersAgain).setStore
        { s.ss with item := some { kind := kind, ops := ops }, work := [] }).startOp (.erase k) (.item kind) := by
  rw [State.offer_admitted allowed (by rw [ready]; decide) (by rw [empty]; decide)]
  have taken := State.nextWork_take (n := 39) (item := { kind := kind, ops := .erase k :: ops }) (rest := [])
    (s := s.setStore { s.ss with work := s.ss.work ++ [{ kind := kind, ops := .erase k :: ops }] }) idle (by rw [empty]; rfl)
  show (if s.ss.state = .ready then State.nextWork (39 + 1) _ else _) = _
  rw [if_pos ready, taken, State.nextWork_erase (n := 38) (k := k) (rest := ops) rfl rfl]
  rfl

theorem exec_configSave (h : s.ready) (noneWaits : s.itemPending ItemKind.isConfigWrite = false) (room : s.listHasRoom = true) :
    exec .configSave s = .next ((s.received.offer .configWrite
      (.erase 80 :: .erase 81 :: pagePrograms 32 configAddress s.received.configRecord.octets)).1.answer 0x19 .ok []).settled := by
  show execConfigSave s = _
  unfold execConfigSave
  rw [hostRequest_ready h, State.request_accepted]
  show List.find? (fun c => c.1) [(s.itemPending ItemKind.isConfigWrite || !s.listHasRoom, Status.busy)] = none
  simp [noneWaits, room]

theorem configSave_starts (h : s.ready) (ready : s.ss.state = .ready) (idle : s.ss.item = none)
    (empty : s.ss.work = []) :
    ∃ u : State, exec .configSave s = .next (State.settled (u.answer 0x19 .ok [])) ∧
      u.ss.state = .erasing 80 ∧ u.ss.operation = some { op := .erase 80, owner := .item .configWrite, startedAt := s.clock, guardEnd := none } ∧
      (∃ programs, u.ss.item = some { kind := .configWrite, ops := .erase 81 :: programs } ∧
        programs = pagePrograms 32 configAddress s.configRecord.octets) ∧
      u.ht = s.ht ∧ u.ss.array = s.ss.array := by
  have noneWaits : s.itemPending ItemKind.isConfigWrite = false := by simp [State.itemPending, idle, empty]
  have started := State.offer_starts_erase (s := s.received) (kind := .configWrite) (k := 80)
    (ops := .erase 81 :: pagePrograms 32 configAddress s.received.configRecord.octets) rfl ready idle empty
  refine ⟨_, exec_configSave h noneWaits (by simp [State.listHasRoom, empty]), ?_⟩
  rw [started]
  exact ⟨rfl, rfl, ⟨_, rfl, rfl⟩, rfl, rfl⟩

/-! ## The input definitions of a record -/

/-- The input has the definition of a record. -/
def SafetyInput.Has (i : SafetyInput) (d : SafetyDef) : Prop := i.kind = d.kind ∧ i.level = d.level ∧ i.rows = d.rows

theorem SafetyInput.SameDefinition.has {i j : SafetyInput} {d : SafetyDef} (h : i.SameDefinition j) (hj : j.Has d) : i.Has d := by
  obtain ⟨kind, level, rows⟩ := h
  obtain ⟨kind', level', rows'⟩ := hj
  exact ⟨kind.trans kind', level.trans level', rows.trans rows'⟩

theorem SafetyInput.has_of_not_differs {i : SafetyInput} {d : SafetyDef} (h : i.differs d = false) : i.Has d := by
  simpa [SafetyInput.differs, SafetyInput.Has, and_assoc] using h

/-- The judgement after a definition keeps every definition. -/
theorem State.defineInput_definition (s : State) (n k : Nat) (d : SafetyDef) :
    ((s.defineInput n d.kind d.level d.rows).input k).SameDefinition
      ((s.setInput n { s.input n with kind := d.kind, level := d.level, rows := d.rows }).input k) := by
  unfold State.defineInput
  dsimp only
  split
  · exact ((Keeps.refl .ident _).activate n).inputs rfl k
  · exact ⟨rfl, rfl, rfl⟩

theorem State.defineInput_self (d : SafetyDef) {n : Nat} (h1 : 1 ≤ n) (h2 : n ≤ s.pu.inputs.length) :
    ((s.defineInput n d.kind d.level d.rows).input n).Has d := by
  refine (s.defineInput_definition n n d).has ?_
  rw [State.input_setInput _ _ _ h1 h2]
  exact ⟨rfl, rfl, rfl⟩

theorem State.defineInput_other (s : State) (d : SafetyDef) {n k : Nat} (h : k ≠ n) :
    ((s.defineInput n d.kind d.level d.rows).input k).SameDefinition (s.input k) := by
  have same := s.defineInput_definition n k d
  rwa [State.input_setInput_ne _ _ _ _ h] at same

theorem State.defineInput_keeps (s : State) (n : Nat) (d : SafetyDef) :
    Keeps (.safetyDefine 0 0 0 []) s (s.defineInput n d.kind d.level d.rows) := (Keeps.refl _ s).defineInput n _ _ _ rfl

/-- Definitions given one after the other: an input ends with the definition given to it, if it has it already or is given it. -/
theorem State.defineInputs_has {d : SafetyDef} {n : Nat} (defs : List (Nat × SafetyDef)) (only : ∀ p ∈ defs, p.1 = n → p.2 = d)
    (sized : s.sized) (h1 : 1 ≤ n) (h2 : n ≤ 8) (given : (s.input n).Has d ∨ (n, d) ∈ defs) :
    ((defs.foldl (fun u p => u.defineInput p.1 p.2.kind p.2.level p.2.rows) s).input n).Has d := by
  induction defs generalizing s with
  | nil => exact given.resolve_right (by simp)
  | cons p defs ih =>
    refine ih (fun q hq => only q (by simp [hq])) ((s.defineInput_keeps p.1 p.2).sized sized) ?_
    obtain ⟨-, ⟨-, inputs, -⟩, -⟩ := State.sized_iff.mp sized
    by_cases hp : p.1 = n
    · have hd : p.2 = d := only p (by simp) hp
      subst hp hd
      exact .inl (State.defineInput_self p.2 h1 (by omega))
    · rcases given with has | mem
      · exact .inl ((s.defineInput_other p.2 (Ne.symm hp)).has has)
      · exact .inr ((List.mem_cons.mp mem).resolve_left fun e => hp (by rw [← e]))

/-- The inputs of a record applied over the inputs as they stand (R14). -/
theorem State.inputsDiffering_has {c : ConfigRecord} {d : SafetyDef} {n : Nat} (hn : n < 8) (hd : c.inputs[n]? = some d)
    (same : ∀ k, (u.input k).SameDefinition (s.input k)) (usized : u.sized) :
    (((s.inputsDiffering c).foldl (fun u p => u.defineInput p.1 p.2.kind p.2.level p.2.rows) u).input (n + 1)).Has d := by
  have numbered {p : Nat × SafetyDef} : p ∈ (c.inputs.zipIdx).map (fun p => (p.2 + 1, p.1)) ↔ 1 ≤ p.1 ∧ c.inputs[p.1 - 1]? = some p.2 := by
    simp only [List.mem_map, List.mem_zipIdx_iff_getElem?, Prod.exists]
    constructor
    · rintro ⟨x, i, hx, rfl⟩
      exact ⟨by simp, hx⟩
    · rintro ⟨h1, hx⟩
      exact ⟨p.2, p.1 - 1, hx, by rw [Nat.sub_add_cancel h1]⟩
  refine State.defineInputs_has _ (fun p hp hpn => ?_) usized (by omega) (by omega) ?_
  · obtain ⟨-, at_p⟩ := numbered.mp (List.mem_filter.mp hp).1
    rw [hpn, Nat.add_sub_cancel, hd] at at_p
    exact (Option.some.inj at_p).symm
  · by_cases differs : (s.input (n + 1)).differs d = true
    · exact .inr (List.mem_filter.mpr ⟨numbered.mpr ⟨by simp, hd⟩, differs⟩)
    · exact .inl ((same (n + 1)).has (SafetyInput.has_of_not_differs (by simpa using differs)))

/-! ## The windows of a record -/

theorem State.setWindow_windows (s : State) (w : Nat) (x : PresetWindow) : (s.setWindow w x).pc.windows = setNth s.pc.windows w x :=
  (State.mapSets_handed (Handed.refl { s with pc := { s.pc with windows := setNth s.pc.windows w x } }) _).keeps (c := .ident).windows rfl

theorem setNth_append {α : Type} (before after : List α) (y x : α) :
    setNth (before ++ y :: after) (before.length + 1) x = before ++ x :: after := by
  simp [setNth]

/-- Windows set one after the other from the one after `before`. -/
theorem State.setWindows_windows (xs : List PresetWindow) (before rest : List PresetWindow) (s : State)
    (h : s.pc.windows = before ++ rest) (length : rest.length = xs.length) :
    (((xs.zipIdx before.length).map fun p => (p.2 + 1, p.1)).foldl (fun u p => u.setWindow p.1 p.2) s).pc.windows = before ++ xs := by
  induction xs generalizing before rest s with
  | nil =>
    have nothing : rest = [] := List.eq_nil_of_length_eq_zero length
    simp [h, nothing]
  | cons x xs ih =>
    obtain _ | ⟨y, rest⟩ := rest
    · simp at length
    · have next := ih (before ++ [x]) rest (s.setWindow (before.length + 1) x)
        (by rw [State.setWindow_windows, h, setNth_append]; simp) (by simpa using length)
      rw [List.length_append, List.length_singleton] at next
      simpa using next

/-! ## CONFIG_LOAD -/

theorem State.withConfig_ht (s : State) (c : ConfigRecord) :
    (s.withConfig c).ht = HallTables.withParams { s.ht with txs := c.txs, ants := c.ants, configSource := .loaded } c.params := rfl

theorem State.addFault_handed (s : State) (a : Nat) (f : FaultFlag) : Handed s (s.addFault a f) := (Handed.refl s).addFault a f

theorem State.ant_congr {a : Nat} (h : t.ht = s.ht) : t.ant a = s.ant a := by
  unfold State.ant
  rw [h]

theorem State.uncheckAll_handed (s : State) : Handed s s.uncheckAll :=
  Handed.foldl (fun _ a hu => hu.addFault a .unchecked) _ _ (Handed.refl s)

/-- Every defined antenna of the tables gains UNCHECKED. -/
theorem State.uncheckAll_set {a : Nat} (sized : s.sized) (defined : (s.ant a).isSome = true) (h1 : 1 ≤ a) (h2 : a ≤ 24) :
    (s.uncheckAll.faultSet a).getLsbD FaultFlag.unchecked.bit = true := by
  obtain ⟨before, after, split⟩ := List.append_of_mem (mem_upTo.mpr ⟨h1, h2⟩)
  unfold State.uncheckAll
  rw [split, List.foldl_append, List.foldl_cons]
  have earlier : Handed s (before.foldl (fun s a => s.addFault a .unchecked) s) :=
    Handed.foldl (fun _ a hu => hu.addFault a .unchecked) _ _ (Handed.refl s)
  obtain ⟨-, -, -, -, -, -, ⟨faults, -⟩, -⟩ := State.sized_iff.mp (earlier.keeps (c := .ident).sized sized)
  have set := State.addFault_set .unchecked (a := a)
    (by rw [State.ant_congr (earlier.keeps (c := .ident).hall rfl)]; exact defined) h1 (by rw [faults]; exact h2)
  exact (Handed.foldl (fun _ a hu => hu.addFault a .unchecked) after _ (Handed.refl _)).faults a _ set

/-- The state once the record's tables, definitions and windows stand, before UNCHECKED and what the change of the tables brings. -/
def State.configTaken (s : State) (c : ConfigRecord) : State :=
  ((c.windows.zipIdx).map fun p => (p.2 + 1, p.1)).foldl (fun u p => u.setWindow p.1 p.2)
    ((s.inputsDiffering c).foldl (fun u p => u.defineInput p.1 p.2.kind p.2.level p.2.rows) (s.withConfig c))

theorem State.applyConfig_eq (s : State) (c : ConfigRecord) : s.applyConfig c = (s.configTaken c).uncheckAll.tablesChanged s := rfl

theorem State.inputsDefined_keeps (s : State) (c : ConfigRecord) : Keeps (.safetyDefine 0 0 0 []) (s.withConfig c)
    ((s.inputsDiffering c).foldl (fun u p => u.defineInput p.1 p.2.kind p.2.level p.2.rows) (s.withConfig c)) :=
  Keeps.foldl (fun _ p hu => hu.defineInput p.1 p.2.kind p.2.level p.2.rows rfl) _ _ (Keeps.refl _ _)

theorem State.windowsSet_keeps (s : State) (c : ConfigRecord) : Keeps (.presetWindow 0 0 0 0)
    ((s.inputsDiffering c).foldl (fun u p => u.defineInput p.1 p.2.kind p.2.level p.2.rows) (s.withConfig c)) (s.configTaken c) :=
  Keeps.foldl (fun _ p hu => hu.setWindow p.1 p.2 rfl) _ _ (Keeps.refl _ _)

theorem State.applyConfig_sameTables (s : State) (c : ConfigRecord) :
    SameTables c.params.antCount (s.configTaken c) (s.applyConfig c) := by
  have unchecked := State.uncheckAll_handed (s.configTaken c)
  have params : (s.configTaken c).uncheckAll.params = c.params := by
    have ht : (s.configTaken c).uncheckAll.ht = (s.withConfig c).ht :=
      calc (s.configTaken c).uncheckAll.ht = (s.configTaken c).ht := unchecked.keeps (c := .ident).hall rfl
        _ = _ := (s.windowsSet_keeps c).hall rfl
        _ = (s.withConfig c).ht := (s.inputsDefined_keeps c).hall rfl
    exact congrArg HallTables.params ht
  have changed := State.tablesChanged_sameTables (s.configTaken c).uncheckAll s
  rw [params] at changed
  rw [State.applyConfig_eq]
  exact unchecked.sameTables.trans changed

theorem State.applyConfig_ht (s : State) (c : ConfigRecord) : (s.applyConfig c).ht = (s.withConfig c).ht :=
  calc (s.applyConfig c).ht = (s.configTaken c).ht := (s.applyConfig_sameTables c).ht
    _ = _ := (s.windowsSet_keeps c).hall rfl
    _ = (s.withConfig c).ht := (s.inputsDefined_keeps c).hall rfl

theorem State.applyConfig_settings (s : State) (c : ConfigRecord) : (s.applyConfig c).pt.settings = c.settings :=
  calc (s.applyConfig c).pt.settings = (s.configTaken c).pt.settings := (s.applyConfig_sameTables c).settings
    _ = _ := (s.windowsSet_keeps c).settings rfl
    _ = (s.withConfig c).pt.settings := (s.inputsDefined_keeps c).settings rfl

theorem State.applyConfig_windows {c : ConfigRecord} (sized : s.sized) (length : c.windows.length = 4) :
    (s.applyConfig c).pc.windows = c.windows := by
  obtain ⟨-, -, -, -, -, -, -, windows, -⟩ := State.sized_iff.mp sized
  have before := (s.inputsDefined_keeps c).windows rfl
  calc (s.applyConfig c).pc.windows = (s.configTaken c).pc.windows := (s.applyConfig_sameTables c).windows
    _ = [] ++ c.windows := State.setWindows_windows c.windows [] s.pc.windows _ before (windows.trans length.symm)

theorem State.withConfig_sized {c : ConfigRecord} (sized : s.sized) (lengths : c.txs.length = 12 ∧ c.ants.length = 24) :
    (s.withConfig c).sized := (Keeps.withConfig (Keeps.refl .configLoad s) c lengths rfl rfl).sized sized

theorem State.applyConfig_inputs {c : ConfigRecord} (sized : s.sized) (lengths : c.txs.length = 12 ∧ c.ants.length = 24) {n : Nat}
    {d : SafetyDef} (hn : n < 8) (hd : c.inputs[n]? = some d) : ((s.applyConfig c).input (n + 1)).Has d :=
  ((s.applyConfig_sameTables c).inputs _).has (((s.windowsSet_keeps c).inputs rfl _).has
    (State.inputsDiffering_has hn hd (fun _ => ⟨rfl, rfl, rfl⟩) (State.withConfig_sized sized lengths)))

/-- An antenna that is defined has a number of the table. -/
theorem State.ant_isSome {a : Nat} (h : (s.ant a).isSome = true) : 1 ≤ a ∧ a ≤ s.params.antCount ∧ a ≤ s.ht.ants.length := by
  unfold State.ant nth at h
  split at h
  next inside =>
    split at h
    next => simp at h
    next positive =>
      refine ⟨by omega, inside, ?_⟩
      by_contra above
      rw [List.getD_eq_getElem?_getD, List.getElem?_eq_none (by omega)] at h
      simp at h
  next => simp at h

theorem State.applyConfig_unchecked {c : ConfigRecord} {a : Nat} (sized : s.sized) (lengths : c.txs.length = 12 ∧ c.ants.length = 24)
    (defined : ((s.applyConfig c).ant a).isSome = true) :
    ((s.applyConfig c).faultSet a).getLsbD FaultFlag.unchecked.bit = true := by
  have takenSized : (s.configTaken c).sized :=
    (s.windowsSet_keeps c).sized ((s.inputsDefined_keeps c).sized (State.withConfig_sized sized lengths))
  have taken : ((s.configTaken c).ant a).isSome = true := by
    rwa [← State.ant_congr (s.applyConfig_sameTables c).ht]
  obtain ⟨⟨-, ants⟩, -⟩ := State.sized_iff.mp takenSized
  obtain ⟨h1, h2, h3⟩ := State.ant_isSome taken
  have set := State.uncheckAll_set takenSized taken h1 (by omega)
  have changed := State.tablesChanged_sameTables (s.configTaken c).uncheckAll s
  have params : (s.configTaken c).uncheckAll.params = (s.configTaken c).params :=
    congrArg HallTables.params ((State.uncheckAll_handed (s.configTaken c)).keeps (c := .ident).hall rfl)
  rw [State.applyConfig_eq]
  exact changed.faults a _ (by rw [params]; exact h2) set

theorem State.applyConfig_faults {c : ConfigRecord} {a k : Nat} (ha : a ≤ c.params.antCount) (h : (s.faultSet a).getLsbD k = true) :
    ((s.applyConfig c).faultSet a).getLsbD k = true :=
  (s.applyConfig_sameTables c).faults a k ha ((s.windowsSet_keeps c).faults a k rfl ((s.inputsDefined_keeps c).faults a k rfl h))

theorem exec_configLoad (h : s.ready) (free : s.configHeld = false) (noneHeld : s.inputHeld = false)
    (noneWaits : s.itemPending ItemKind.isConfigWrite = false) : exec .configLoad s = .next s.received.loadFromRecord := by
  show execConfigLoad s = _
  unfold execConfigLoad
  rw [hostRequest_ready h, State.handle_accepted]
  show List.find? (fun c => c.1) [(s.configHeld || s.inputHeld, Status.state), (s.itemPending ItemKind.isConfigWrite, .busy)] = none
  simp [free, noneHeld, noneWaits]

/-- Settles O18. -/
theorem config_is_saved_and_loaded : Obligations.config_is_saved_and_loaded := by
  refine ⟨fun s h ready _ idle empty => configSave_starts h ready idle empty, fun s h free noneWaits =>
    ⟨fun c hc inactive => ?_, fun source hc => ?_⟩⟩
  · obtain ⟨txs, ants, inputs, windows⟩ := readConfig_lengths hc
    have noneHeld : s.inputHeld = false := by
      unfold State.inputHeld
      rw [hc]
      simpa using fun a b hp => inactive (a, b) hp
    have loaded : exec .configLoad s = .next ((s.received.applyConfig c).answer 0x1A .ok []).settled := by
      rw [exec_configLoad h free noneHeld noneWaits, State.loadFromRecord, show readConfig s.received.ss.array = (.loaded, some c) from hc]
    have ht : ((s.received.applyConfig c).answer 0x1A .ok []).settled.ht = (s.received.withConfig c).ht := by
      rw [State.settled_ht, State.answer_ht, State.applyConfig_ht]
    have settled := State.settled_self ((s.received.applyConfig c).answer 0x1A .ok [])
    refine ⟨_, loaded, State.settled_ok _ _ _, ?_, fun n => ?_, fun a => ?_, ?_, (exec_keeps loaded).time rfl,
      (exec_keeps loaded).array rfl, fun sized => ⟨?_, fun n hn => ?_, fun a defined => ?_⟩, fun a k ha hk => ?_⟩
    · rw [ht]; rfl
    · rw [ht]; exact nth_cutAbove _ _ _
    · rw [ht]; exact HallTables.nth_withParams_ants _ _ a
    · rw [State.settled_settings, State.answer_pt]
      exact s.received.applyConfig_settings c
    · rw [State.settled_windows, State.answer_pc]
      exact State.applyConfig_windows (s := s.received) sized windows
    · have hd : c.inputs[n]? = some c.inputs[n] := List.getElem?_eq_getElem (by omega)
      refine ⟨_, hd, ?_⟩
      exact (settled.keeps (c := .ident).inputs rfl (n + 1)).has (State.applyConfig_inputs (s := s.received) sized ⟨txs, ants⟩ hn hd)
    · have same := (settled.sameTables (count := 0)).ht
      rw [State.ant_congr same] at defined
      exact settled.faults a _ (State.applyConfig_unchecked (s := s.received) sized ⟨txs, ants⟩ defined)
    · exact settled.faults a k (State.applyConfig_faults (s := s.received) ha hk)
  · have noneHeld : s.inputHeld = false := by
      unfold State.inputHeld
      rw [hc]
    rw [exec_configLoad h free noneHeld noneWaits, State.loadFromRecord, show readConfig s.received.ss.array = (source, none) from hc]
    rfl

end

end Sys2Proof.Machine

/-! # The resets (O12) -/

namespace Sys2Proof.Machine

open Sys2Proof

section

variable {s : State} {c : ConfigRecord} {source : Source}

/-- What a cold reset leaves before the survey and the scan (R16). -/
def State.coldStart (s : State) : State := s.coldLoaded.restartInputs.nextScrub

theorem State.coldReset_eq (s : State) : s.coldReset = s.coldStart.resetMatrix.startScan := by
  unfold State.coldReset State.coldStart State.coldLoaded
  with_reducible rfl

theorem State.coldStart_keeps (s : State) : Keeps .ident s.coldLoaded s.coldStart := (Keeps.refl _ _).restartInputs.nextScrub

/-- Of the blocks outside the matrix, a survey and a scan after a reset keep what hand-overs keep. -/
theorem State.surveyAndScan_keeps (v : State) : Keeps .ident v v.resetMatrix.startScan.settled :=
  ((Keeps.refl _ v).resetMatrix.handed (State.startScan_handed (Handed.refl _))).settled

theorem State.surveyAndScan_lasting (v : State) : v.resetMatrix.startScan.settled.lc.lasting = v.lc.lasting :=
  congrArg Kept.lc v.surveyAndScan_handed.kept

theorem State.surveyAndScan_reply {v : State} (h : v.lc.held = none) : v.resetMatrix.startScan.settled.lc.reply = v.lc.reply :=
  (v.surveyAndScan_handed.reply h).1

theorem State.surveyAndScan_clock (v : State) : v.resetMatrix.startScan.settled.clock = v.clock :=
  congrArg Kept.clock v.surveyAndScan_handed.kept

theorem State.loadConfig_lc (s : State) : s.loadConfig.lc = s.lc := by
  unfold State.loadConfig
  split <;> rfl

theorem State.cutShort_straps (s : State) : s.cutShort.straps = s.straps := by
  unfold State.cutShort
  split <;> rfl

theorem State.nextScrub_lc (s : State) : s.nextScrub.lc = s.lc := rfl

theorem State.loadLicence_lc (s : State) : s.loadLicence.lc = s.lc := rfl

theorem State.coldBlocks_lc (s : State) : s.coldBlocks.lc = LinkController.reset s.straps := rfl

theorem State.coldStart_lc (s : State) : s.coldStart.lc = LinkController.reset s.straps := by
  unfold State.coldStart State.coldLoaded
  rw [State.nextScrub_lc, State.restartInputs_lc, State.loadLicence_lc, State.loadConfig_lc, State.coldBlocks_lc, State.cutShort_straps]

theorem State.coldStart_notices (s : State) : s.coldStart.notices = [] := by simp [State.coldStart, State.coldLoaded]

theorem State.coldStart_ld (s : State) : s.coldStart.ld = s.coldLoaded.ld := by
  obtain ⟨x, hx⟩ := s.coldLoaded.restartInputs_permits
  unfold State.coldStart
  rw [hx]
  rfl

theorem State.coldStart_faultSet (s : State) (a : Nat) : s.coldStart.faultSet a = s.coldLoaded.faultSet a := by
  unfold State.faultSet
  rw [s.coldStart_ld]

theorem State.coldLoaded_array (s : State) : s.coldLoaded.ss.array = s.cutShort.ss.array := by
  show s.cutShort.coldBlocks.loadConfig.ss.array = _
  unfold State.loadConfig
  split <;> rfl

theorem State.coldBlocks_array (s : State) : s.coldBlocks.ss.array = s.ss.array := rfl

/-! ## The two loads -/

/-- A good record at a cold reset. -/
theorem State.loadConfig_some (h : readConfig s.ss.array = (.loaded, some c)) :
    s.loadConfig = { s.withConfig c with
      pu := { (s.withConfig c).pu with inputs := List.zipWith (fun (i : SafetyInput) (d : SafetyDef) =>
        { i with kind := d.kind, level := d.level, rows := d.rows }) (s.withConfig c).pu.inputs c.inputs }
      pc := { (s.withConfig c).pc with windows := c.windows }
      ld := { (s.withConfig c).ld with
        faults := (s.withConfig c).ht.ants.map fun r => if r.isSome then FaultFlag.unchecked.mask else 0 } } := by
  simp only [State.loadConfig, h]

theorem State.loadConfig_none (h : readConfig s.ss.array = (source, none)) :
    s.loadConfig = { s with ht := { s.ht with configSource := source } } := by
  simp only [State.loadConfig, h]

theorem State.coldLoaded_locked (s : State) : s.coldLoaded.ht.locked = readLock s.cutShort.ss.array := by
  rw [← s.coldLoaded_array]
  rfl

theorem State.coldLoaded_licence (s : State) : s.coldLoaded.ht.licence = (readLicence s.cutShort.ss.array).2 ∧
    s.coldLoaded.ht.licenceSource = (readLicence s.cutShort.ss.array).1 := by
  rw [← s.coldLoaded_array]
  exact ⟨rfl, rfl⟩

theorem State.coldLoaded_staging (s : State) : s.coldLoaded.ht.staging = none := by
  show s.cutShort.coldBlocks.loadConfig.ht.staging = none
  unfold State.loadConfig
  split <;> rfl

theorem State.coldLoaded_frozen (s : State) : s.coldLoaded.pc.frozen = false := by
  show s.cutShort.coldBlocks.loadConfig.pc.frozen = false
  unfold State.loadConfig
  split <;> rfl

/-- The blocks that a record at a cold reset reaches (R16, R205). -/
theorem State.coldLoaded_some (h : readConfig s.cutShort.ss.array = (.loaded, some c)) :
    s.coldLoaded.ht.params = c.params ∧ s.coldLoaded.ht.configSource = .loaded ∧ s.coldLoaded.pt.settings = c.settings ∧
    s.coldLoaded.pc.windows = c.windows ∧
    s.coldLoaded.ht.txs = cutAbove c.params.txCount c.txs ∧
    s.coldLoaded.ht.ants = (HallTables.withParams { HallTables.reset with ants := c.ants } c.params).ants ∧
    s.coldLoaded.pu.inputs = List.zipWith (fun (i : SafetyInput) (d : SafetyDef) =>
      { i with kind := d.kind, level := d.level, rows := d.rows }) s.cutShort.coldBlocks.pu.inputs c.inputs ∧
    s.coldLoaded.ld.faults = s.coldLoaded.ht.ants.map fun r => if r.isSome then FaultFlag.unchecked.mask else 0 := by
  generalize hx : s.coldLoaded = x
  have loaded := State.loadConfig_some (s := s.cutShort.coldBlocks) h
  unfold State.coldLoaded at hx
  rw [loaded] at hx
  subst hx
  exact ⟨rfl, rfl, rfl, rfl, rfl, rfl, rfl, rfl⟩

theorem State.coldLoaded_none (h : readConfig s.cutShort.ss.array = (source, none)) :
    s.coldLoaded.ht.params = HallParams.defaults ∧ s.coldLoaded.ht.configSource = source ∧
    s.coldLoaded.ht.txs = List.replicate 12 none ∧ s.coldLoaded.ht.ants = List.replicate 24 none ∧
    s.coldLoaded.pt.settings = ProtSettings.defaults ∧
    s.coldLoaded.pc.windows = List.replicate 4 { enabled := false, base := 0, exponent := 0 } ∧
    s.coldLoaded.ld.faults = List.replicate 24 0 := by
  generalize hx : s.coldLoaded = x
  have loaded := State.loadConfig_none (s := s.cutShort.coldBlocks) h
  unfold State.coldLoaded at hx
  rw [loaded] at hx
  subst hx
  exact ⟨rfl, rfl, rfl, rfl, rfl, rfl, rfl⟩

/-- The fault sets over a table of antennas hold exactly UNCHECKED for those defined (R205). -/
theorem nth_unchecked (ants : List (Option AntRecord)) (a : Nat) :
    nth (ants.map fun r => if r.isSome then FaultFlag.unchecked.mask else 0) 0 a =
      if (nth ants none a).isSome then FaultFlag.unchecked.mask else 0 := by
  unfold nth
  split
  · rfl
  · rw [List.getD_eq_getElem?_getD, List.getD_eq_getElem?_getD, List.getElem?_map]
    cases ants[a - 1]? <;> rfl

theorem State.coldLoaded_faultSet (h : readConfig s.cutShort.ss.array = (.loaded, some c)) (a : Nat) :
    s.coldLoaded.faultSet a = if (s.coldLoaded.ant a).isSome then FaultFlag.unchecked.mask else 0 := by
  obtain ⟨params, -, -, -, -, ants, -, faults⟩ := State.coldLoaded_some h
  have cut : s.coldLoaded.ant a = nth s.coldLoaded.ht.ants none a := by
    unfold State.ant
    rw [params, ants]
    split
    next => rfl
    next above => rw [HallTables.nth_withParams_ants, if_neg above]
  rw [cut, State.faultSet, faults, nth_unchecked]

theorem State.cutShort_sized (sized : s.sized) : s.cutShort.sized := (Keeps.cutShort (Keeps.refl .coldReset s) rfl).sized sized

/-- The inputs have the record's definitions. -/
theorem State.coldLoaded_inputs (h : readConfig s.cutShort.ss.array = (.loaded, some c)) (sized : s.sized) {n : Nat} (hn : n < 8) :
    ∃ d, c.inputs[n]? = some d ∧ (s.coldLoaded.input (n + 1)).Has d := by
  obtain ⟨-, -, lengths, -⟩ := readConfig_lengths h
  obtain ⟨-, ⟨-, inputs, -⟩, -⟩ := State.sized_iff.mp (State.coldBlocks_sized (State.cutShort_sized sized))
  obtain ⟨-, -, -, -, -, -, zipped, -⟩ := State.coldLoaded_some h
  have hd : c.inputs[n]? = some c.inputs[n] := List.getElem?_eq_getElem (by omega)
  have hi : s.cutShort.coldBlocks.pu.inputs[n]? = some s.cutShort.coldBlocks.pu.inputs[n] := List.getElem?_eq_getElem (by omega)
  refine ⟨_, hd, ?_⟩
  rw [State.input, zipped, nth, if_neg (by omega), Nat.add_sub_cancel, List.getD_eq_getElem?_getD, List.getElem?_zipWith, hi, hd]
  exact ⟨rfl, rfl, rfl⟩

/-! ## Cold reset -/

/-- What a cold reset leaves with a good record. -/
theorem State.coldReset_record {t : State} (h : readConfig s.cutShort.ss.array = (.loaded, some c)) (keeps : Keeps .ident s.coldLoaded t)
    (faults : ∀ a k, (s.coldStart.faultSet a).getLsbD k = true → (t.faultSet a).getLsbD k = true) :
    t.ht.params = c.params ∧ t.ht.configSource = .loaded ∧ t.pt.settings = c.settings ∧ t.pc.windows = c.windows ∧
    (∀ n, nth t.ht.txs none n = if n ≤ c.params.txCount then nth c.txs none n else none) ∧
    (∀ a, nth t.ht.ants none a = if a ≤ c.params.antCount then
      (nth c.ants none a).map fun r => { r with neighbours := r.neighbours.filter fun b => decide (b ≤ c.params.antCount) }
      else none) ∧
    (s.sized → ∀ n, n < 8 → ∃ d, c.inputs[n]? = some d ∧ (t.input (n + 1)).kind = d.kind ∧ (t.input (n + 1)).level = d.level ∧
      (t.input (n + 1)).rows = d.rows) ∧
    (∀ a, s.coldStart.faultSet a = if (t.ant a).isSome then FaultFlag.unchecked.mask else 0) ∧
    (∀ a, (t.ant a).isSome = true → (t.faultSet a).getLsbD FaultFlag.unchecked.bit = true) := by
  obtain ⟨params, loaded, settings, windows, txs, ants, -, -⟩ := State.coldLoaded_some h
  have ht : t.ht = s.coldLoaded.ht := keeps.hall rfl
  have unchecked (a : Nat) : s.coldStart.faultSet a = if (t.ant a).isSome then FaultFlag.unchecked.mask else 0 := by
    rw [State.coldStart_faultSet, State.coldLoaded_faultSet h, State.ant_congr ht]
  refine ⟨ht ▸ params, ht ▸ loaded, (keeps.settings rfl).trans settings, (keeps.windows rfl).trans windows, fun n => ?_, fun a => ?_,
    fun sized n hn => ?_, unchecked, fun a defined => faults a _ ?_⟩
  · rw [ht, txs, nth_cutAbove]
  · rw [ht, ants, HallTables.nth_withParams_ants]
  · obtain ⟨d, hd, has⟩ := State.coldLoaded_inputs h sized hn
    exact ⟨d, hd, (keeps.inputs rfl (n + 1)).has has⟩
  · rw [unchecked, if_pos defined]
    decide

/-- What a cold reset leaves without one. -/
theorem State.coldReset_defaults {t : State} (h : readConfig s.cutShort.ss.array = (source, none)) (keeps : Keeps .ident s.coldLoaded t) :
    t.ht.params = HallParams.defaults ∧ t.ht.configSource = source ∧ t.ht.txs = List.replicate 12 none ∧
    t.ht.ants = List.replicate 24 none ∧ t.pt.settings = ProtSettings.defaults ∧
    t.pc.windows = List.replicate 4 { enabled := false, base := 0, exponent := 0 } ∧ (∀ a, s.coldStart.faultSet a = 0) := by
  obtain ⟨params, noted, txs, ants, settings, windows, faults⟩ := State.coldLoaded_none h
  have ht : t.ht = s.coldLoaded.ht := keeps.hall rfl
  refine ⟨ht ▸ params, ht ▸ noted, ht ▸ txs, ht ▸ ants, (keeps.settings rfl).trans settings, (keeps.windows rfl).trans windows, fun a => ?_⟩
  rw [State.coldStart_faultSet, State.faultSet, faults]
  exact nth_replicate_of (P := fun f : FaultSet => f = 0) rfl rfl _ _

/-! ## RESTART -/

/-- What hands back the runs of the Preset Cache at a RESTART leaves of the rest. -/
theorem State.runsEnded_eq (s : State) : ∃ p waits, (s.endSave .reset).endRestore .reset =
    { s with pc := p, ss := { s.ss with readWait := waits } } := by
  have saved : ∃ p, s.endSave .reset = { s with pc := p } := by
    unfold State.endSave
    split
    · exact ⟨_, rfl⟩
    · exact ⟨_, rfl⟩
  obtain ⟨p, hp⟩ := saved
  rw [hp]
  unfold State.endRestore State.dropRead
  split
  · exact ⟨_, _, rfl⟩
  · exact ⟨_, _, rfl⟩

theorem State.undefine_array (s : State) (address n : Nat) :
    (s.undefine address n).ss.array = memWriteAll s.ss.array address (freeOctets s.freeCount n) := rfl

/-- What a reset makes of an operation in flight depends on it, on the array and on the fresh free octets. -/
theorem State.cutShort_array_congr {s t : State} (operation : t.ss.operation = s.ss.operation) (array : t.ss.array = s.ss.array)
    (free : t.freeCount = s.freeCount) : t.cutShort.ss.array = s.cutShort.ss.array := by
  unfold State.cutShort
  rw [operation]
  split
  next o _ =>
    generalize o.op.sector = k
    unfold State.undefineSector
    rw [State.undefine_array, State.undefine_array, array, free]
  next => exact array

theorem State.runsEnded_cutShort_array (s : State) :
    ((s.endSave .reset).endRestore .reset).cutShort.ss.array = s.cutShort.ss.array := by
  obtain ⟨p, waits, ended⟩ := s.runsEnded_eq
  rw [ended]
  exact State.cutShort_array_congr rfl rfl rfl

theorem State.restarted_clock (s : State) : s.restarted.clock = s.clock := by
  obtain ⟨x, judged⟩ := State.restartInputs_permits ((s.endSave .reset).endRestore .reset).cutShort.restartBlocks
  obtain ⟨p, waits, ended⟩ := s.runsEnded_eq
  unfold State.restarted
  rw [judged]
  show (State.cutShort _).clock = _
  rw [State.cutShort_clock, ended]

theorem State.restartBlocks_array (s : State) : s.restartBlocks.ss.array = s.ss.array := rfl

theorem State.restarted_array (s : State) : s.restarted.ss.array = s.cutShort.ss.array := by
  obtain ⟨x, judged⟩ := State.restartInputs_permits ((s.endSave .reset).endRestore .reset).cutShort.restartBlocks
  unfold State.restarted
  rw [judged]
  exact (State.restartBlocks_array _).trans s.runsEnded_cutShort_array

theorem State.restarted_notices (s : State) : s.restarted.notices = [] := by simp [State.restarted]

theorem State.restartBlocks_ht (s : State) : s.restartBlocks.ht = { s.ht with staging := none } := rfl

theorem State.cutShort_ht (s : State) : s.cutShort.ht = s.ht := by
  unfold State.cutShort
  split <;> rfl

theorem State.restarted_ht (s : State) : s.restarted.ht = { s.ht with staging := none } := by
  obtain ⟨x, judged⟩ := State.restartInputs_permits ((s.endSave .reset).endRestore .reset).cutShort.restartBlocks
  obtain ⟨p, waits, ended⟩ := s.runsEnded_eq
  unfold State.restarted
  rw [judged]
  show (State.restartBlocks _).ht = _
  rw [State.restartBlocks_ht, State.cutShort_ht, ended]

theorem State.restarted_keeps (s : State) : Keeps .restart s s.restarted :=
  (((Keeps.refl .restart s).handed (State.endRestore_handed (State.endSave_handed (Handed.refl s) .reset) .reset)).cutShort
    rfl).restartBlocks.restartInputs

theorem State.runsEnded_lc (s : State) : ((s.endSave .reset).endRestore .reset).lc = s.lc := by
  obtain ⟨p, waits, ended⟩ := s.runsEnded_eq
  rw [ended]

theorem exec_restart (h : s.ready) : exec .restart s = .next ((s.received.answer 0x06 .ok []).restarted.resetMatrix.startScan).settled := by
  show execRestart s = _
  unfold execRestart
  rw [hostRequest_ready h, State.restart_eq]

end

theorem exec_coldReset_start (s : State) : exec .coldReset s = .next s.coldStart.resetMatrix.startScan.settled := by
  rw [exec_coldReset, State.coldReset_eq]

theorem State.coldReset_settled_tb (s : State) : s.coldStart.resetMatrix.startScan.settled.tb = TimeBase.reset s.clock := by
  rw [← State.coldReset_eq, State.settled_tb, State.coldReset_tb]

theorem State.coldStart_answer (s : State) : s.coldStart.lc.held = none ∧ s.coldStart.lc.reply = none := by
  rw [s.coldStart_lc]
  exact ⟨rfl, rfl⟩

theorem State.restarted_link (s : State) : (s.answer 0x06 .ok []).restarted.lc = (s.answer 0x06 .ok []).lc.restart := by
  rw [State.restarted_lc, State.runsEnded_lc]

/-- Settles O12. -/
theorem resets_begin_anew_or_keep_what_the_rules_say : Obligations.resets_begin_anew_or_keep_what_the_rules_say := by
  constructor
  · intro s
    have survey := s.coldStart.surveyAndScan_keeps
    have keeps := s.coldStart_keeps.trans survey
    have lasting := s.coldStart.surveyAndScan_lasting
    obtain ⟨licence, licenceSource⟩ := s.coldLoaded_licence
    obtain ⟨held, reply⟩ := s.coldStart_answer
    have replied := State.surveyAndScan_reply held
    have time := s.coldReset_settled_tb
    refine ⟨_, s.coldStart, exec_coldReset_start s, rfl, s.coldStart_notices, by rw [s.coldStart_lc]; rfl, ?_⟩
    generalize s.coldStart.resetMatrix.startScan.settled = t at survey keeps lasting replied time
    rw [s.coldStart_lc] at lasting
    exact ⟨congrArg LinkController.mask lasting, congrArg LinkController.counters lasting,
      congrArg LinkController.receiver lasting, congrArg LinkController.waiting lasting, (keeps.array rfl).trans s.coldLoaded_array, time,
      (congrArg HallTables.staging (keeps.hall rfl)).trans s.coldLoaded_staging,
      (congrArg HallTables.locked (keeps.hall rfl)).trans s.coldLoaded_locked,
      (congrArg HallTables.licence (keeps.hall rfl)).trans licence,
      (congrArg HallTables.licenceSource (keeps.hall rfl)).trans licenceSource,
      fun c hc => State.coldReset_record hc keeps fun a k => survey.faults a k rfl,
      fun source hsource => State.coldReset_defaults hsource keeps,
      (keeps.frozen rfl).trans s.coldLoaded_frozen, lasting, replied.trans reply⟩
  · intro s h
    have keeps := (s.received.answer 0x06 .ok []).restarted_keeps
    have survey := (s.received.answer 0x06 .ok []).restarted.surveyAndScan_keeps
    have lasting := (s.received.answer 0x06 .ok []).restarted.surveyAndScan_lasting
    have clock := (s.received.answer 0x06 .ok []).restarted.surveyAndScan_clock
    have link := s.received.restarted_link
    have replied := State.surveyAndScan_reply (v := (s.received.answer 0x06 .ok []).restarted) (by rw [link]; rfl)
    have ht := (s.received.answer 0x06 .ok []).restarted_ht
    have array := (s.received.answer 0x06 .ok []).restarted_array
    have began := (s.received.answer 0x06 .ok []).restarted_clock
    refine ⟨_, (s.received.answer 0x06 .ok []).restarted, exec_restart h, rfl, State.restarted_notices _, by rw [link]; rfl, ?_⟩
    generalize (s.received.answer 0x06 .ok []).restarted.resetMatrix.startScan.settled = t at survey lasting clock replied
    generalize (s.received.answer 0x06 .ok []).restarted = v at keeps survey lasting clock link replied ht array began
    rw [link] at lasting replied
    exact ⟨(congrArg LinkController.mask lasting :), (congrArg LinkController.counters lasting :),
      (congrArg LinkController.receiver lasting :), (congrArg LinkController.waiting lasting :), replied, lasting, (survey.hall rfl).trans ht, (survey.time rfl).trans (keeps.time rfl),
      (survey.array rfl).trans (array.trans (State.cutShort_array_congr rfl rfl rfl)), (survey.settings rfl).trans (keeps.settings rfl),
      (survey.windows rfl).trans (keeps.windows rfl), (survey.frozen rfl).trans (keeps.frozen rfl), clock.trans began⟩

end Sys2Proof.Machine

/-! # The Season Store (O23, O24) -/

namespace Sys2Proof.Machine

open Sys2Proof

section

variable {s : State}

/-! ## The hand-overs of a command, one at a time -/

theorem State.settle_cons {n : Nat} {x : Notice} {rest : List Notice} (h : s.notices = x :: rest) :
    State.settle (n + 1) s = State.settle n (State.handleNotice { s with notices := rest } x) := by
  simp only [State.settle, h]

theorem State.settle_nil (n : Nat) (h : s.notices = []) : State.settle n s = s := by
  cases n with
  | zero => rfl
  | succ n => simp only [State.settle, h]

/-- One hand-over that leaves nothing to hand over. -/
theorem State.settled_one {x : Notice} (h : s.notices = [x]) (quiet : (State.handleNotice { s with notices := [] } x).notices = []) :
    s.settled = State.handleNotice { s with notices := [] } x := by
  show State.settle (9999 + 1) s = _
  rw [State.settle_cons h, State.settle_nil _ quiet]

/-- Two hand-overs, the first of which posts nothing. -/
theorem State.settled_two {x y : Notice} (h : s.notices = [x, y]) {t : State}
    (first : State.handleNotice { s with notices := [y] } x = { t with notices := [y] })
    (quiet : (State.handleNotice { t with notices := [] } y).notices = []) :
    s.settled = State.handleNotice { t with notices := [] } y := by
  show State.settle (9998 + 1 + 1) s = _
  rw [State.settle_cons h, first, State.settle_cons (rest := []) rfl, State.settle_nil _ quiet]

/-! ## STORE_READ -/

/-- The range of a STORE_READ of R43. -/
def readRange (address length : Nat) : Prop :=
  1 ≤ length ∧ length ≤ 200 ∧ address ≤ 524287 ∧ (address + length - 1) / 4096 = address / 4096

theorem readRange_range {address length : Nat} (h : readRange address length) :
    (!within 1 200 length || decide (524287 < address) || decide ((address + length - 1) / 4096 ≠ address / 4096)) = false := by
  obtain ⟨h1, h2, h3, h4⟩ := h
  simp [within, h1, h2, h3, h4]

theorem exec_storeRead (address length : Nat) (h : s.ready) :
    exec (.storeRead address length) s = .next (s.received.request 0x28 (s.storeReadChecks address length) fun u =>
      (u.hold 0x28).requestRead (.hostRead address length) address length) := by
  show execStoreRead address length s = _
  unfold execStoreRead
  rw [hostRequest_ready h]
  rfl

theorem exec_storeRead_accepted {address length : Nat} (h : s.ready) (range : readRange address length)
    (untouched : s.storeTouched address length = false) :
    exec (.storeRead address length) s =
      .next ((s.received.hold 0x28).requestRead (.hostRead address length) address length).settled := by
  rw [exec_storeRead address length h, State.request_accepted]
  simp only [State.storeReadChecks, readRange_range range, untouched, List.find?_cons, List.find?_nil]

/-- A served STORE_READ carries the octets as they stand (R32). -/
theorem State.handleNotice_hostRead {address length : Nat} (held : s.lc.held.isSome = true) :
    s.handleNotice (.served (.hostRead address length)) = s.answer 0x28 .ok (memReadAll s.ss.array address length) := by
  show (if s.lc.held.isSome then s.hostReadServed address length else s) = _
  rw [if_pos held]
  rfl

/-- The operation goes on after the last read of a suspension (R38). -/
theorem State.handleNotice_resumed {o : Operation} (quiet : s.notices = []) (operation : s.ss.operation = some o) :
    s.handleNotice .resumed = s.setStore { s.ss with
      state := o.op.state, suspensions := satSucc 65535 s.ss.suspensions
      operation := some { o with guardEnd := some (s.clock + 20) } } := by
  show s.resume = _
  unfold State.resume
  rw [quiet, operation]
  rfl

/-- A suspension for one STORE_READ: its reply, and then the operation goes on (R38). -/
theorem State.settled_suspension {o : Operation} {address length : Nat} (held : s.lc.held.isSome = true)
    (operation : s.ss.operation = some o) (notices : s.notices = [.served (.hostRead address length), .resumed]) :
    s.settled = State.answer { s with
      notices := []
      ss := { s.ss with state := o.op.state, suspensions := satSucc 65535 s.ss.suspensions
                        operation := some { o with guardEnd := some (s.clock + 20) } } } 0x28 .ok (memReadAll s.ss.array address length) := by
  have resumed := State.handleNotice_resumed (s := { s.answer 0x28 .ok (memReadAll s.ss.array address length) with notices := [] }) (o := o)
    rfl operation
  rw [State.settled_two notices (t := s.answer 0x28 .ok (memReadAll s.ss.array address length)) (State.handleNotice_hostRead held)
    (by rw [resumed]; rfl), resumed]
  rfl

theorem storeRead_idle {address length : Nat} (h : s.ready) (quiet : s.notices = []) (idle : s.ss.operation = none)
    (range : readRange address length) :
    exec (.storeRead address length) s = .next (s.received.answer 0x28 .ok (memReadAll s.ss.array address length)) := by
  have served : (s.received.hold 0x28).requestRead (.hostRead address length) address length =
      (s.received.hold 0x28).serve (.hostRead address length) := by
    unfold State.requestRead
    rw [show (s.received.hold 0x28).ss.operation = none from idle]
  rw [exec_storeRead_accepted h range (by simp [State.storeTouched, idle]), served]
  have notices : ((s.received.hold 0x28).serve (.hostRead address length)).notices = [.served (.hostRead address length)] := by
    show s.notices ++ _ = _
    rw [quiet, List.nil_append]
  rw [State.settled_one notices (by rw [State.handleNotice_hostRead rfl]; rfl), State.handleNotice_hostRead rfl]
  simp only [State.serve, State.post, State.answer, State.hold, State.received, quiet]

theorem storeRead_suspends {address length : Nat} {o : Operation} (h : s.ready) (quiet : s.notices = [])
    (operation : s.ss.operation = some o) (range : readRange address length) (untouched : o.op.touches address length = false)
    (unguarded : o.guardEnd = none) (running : s.ss.state ≠ .suspended) (noneWaits : s.ss.readWait = []) :
    exec (.storeRead address length) s = .next (State.answer { s.received with ss := { s.ss with
      state := o.op.state, suspensions := satSucc 65535 s.ss.suspensions
      operation := some { o with guardEnd := some (s.clock + 20) } } } 0x28 .ok (memReadAll s.ss.array address length)) := by
  have suspended : (s.received.hold 0x28).requestRead (.hostRead address length) address length =
      ((((s.received.hold 0x28).suspend).serve (.hostRead address length)).serveUnheld).post .resumed := by
    unfold State.requestRead
    rw [show (s.received.hold 0x28).ss.operation = some o from operation]
    dsimp only
    rw [if_neg (by simp [untouched]), if_neg (show ¬ (s.received.hold 0x28).ss.state = .suspended from running), if_neg (by simp [unguarded])]
  have queued : ((((s.received.hold 0x28).suspend).serve (.hostRead address length)).serveUnheld).post .resumed =
      { s.received.hold 0x28 with ss := { s.ss with state := .suspended }
                                  notices := [.served (.hostRead address length), .resumed] } := by
    simp only [State.serveUnheld, State.serve, State.post, State.suspend, State.setStore, State.hold, State.received, noneWaits,
      List.filter_nil, List.foldl_nil, quiet]
    rfl
  rw [exec_storeRead_accepted h range (by simp [State.storeTouched, operation, untouched]), suspended, queued]
  rw [State.settled_suspension (o := o) (by rfl) (by exact operation) (by rfl)]
  simp only [State.answer, State.hold, State.received, quiet]

theorem storeRead_waits {address length : Nat} {o : Operation} (h : s.ready) (quiet : s.notices = [])
    (operation : s.ss.operation = some o) (range : readRange address length) (untouched : o.op.touches address length = false)
    (guarded : o.guardEnd ≠ none) (running : s.ss.state ≠ .suspended) :
    exec (.storeRead address length) s = .next { s with
      lc := { s.lc with receiver := .hunt, held := some 0x28 }
      ss := { s.ss with readWait := s.ss.readWait ++ [{ reader := .hostRead address length, held := false }] } } := by
  have waits : (s.received.hold 0x28).requestRead (.hostRead address length) address length =
      (s.received.hold 0x28).waitRead (.hostRead address length) false := by
    unfold State.requestRead
    rw [show (s.received.hold 0x28).ss.operation = some o from operation]
    dsimp only
    rw [if_neg (by simp [untouched]), if_neg (show ¬ (s.received.hold 0x28).ss.state = .suspended from running),
      if_pos (by simpa [Option.isSome_iff_ne_none] using guarded)]
  rw [exec_storeRead_accepted h range (by simp [State.storeTouched, operation, untouched]), waits, State.settled_quiet (by exact quiet)]
  rfl

theorem storeRead_busy {address length : Nat} {o : Operation} (h : s.ready) (operation : s.ss.operation = some o)
    (range : readRange address length) (touched : o.op.touches address length = true) :
    exec (.storeRead address length) s = .next (s.received.answer 0x28 .busy []) := by
  have busy : s.storeTouched address length = true := by simp [State.storeTouched, operation, touched]
  rw [exec_storeRead address length h, State.request_refused (c := (true, .busy))]
  simp only [State.storeReadChecks, readRange_range range, busy, List.find?_cons]

/-! ## STORE_PROGRAM and STORE_ERASE -/

/-- A listed octet reads as it is listed, and never as an erased one. -/
theorem memRead_of_mem {m : List Host.Cell} (wf : memWf m = true) {c : Host.Cell} (h : c ∈ m) : memRead m c.1 ≠ 0xFF := by
  induction m with
  | nil => simp at h
  | cons d m ih =>
    obtain ⟨below, written, rest⟩ := (memWf_cons d m).mp wf
    obtain ⟨a, v⟩ := d
    rcases List.mem_cons.mp h with rfl | inside
    · simpa [memRead] using written
    · have apart : a ≠ c.1 := Nat.ne_of_lt (below c inside)
      simpa [memRead, apart] using ih rest inside

/-- A run that reads as erased is blank (R30). -/
theorem memBlank_of_memRead {m : List Host.Cell} {x n : Nat} (wf : memWf m = true) (erased : ∀ k, k < n → memRead m (x + k) = 0xFF) :
    memBlank m x n = true := by
  simp only [memBlank, List.all_eq_true, decide_eq_true_eq]
  intro c hc
  by_contra inside
  have reads := erased (c.1 - x) (by omega)
  rw [show x + (c.1 - x) = c.1 by omega] at reads
  exact memRead_of_mem wf hc reads

theorem exec_storeProgram_accepted {address : Nat} {data : List Byte} (h : s.ready)
    (pass : (s.storeProgramChecks address data).find? (fun c => c.1) = none) :
    exec (.storeProgram address data) s = .next ((s.received.startHostOp (.program address data)).answer 0x29 .ok []) := by
  show execStoreProgram address data s = _
  unfold execStoreProgram
  rw [hostRequest_ready h, State.handle_accepted (show (s.received.storeProgramChecks address data).find? (fun c => c.1) = none from pass)]

theorem exec_storeErase_accepted {sector : Nat} (h : s.ready) (pass : (s.storeEraseChecks sector).find? (fun c => c.1) = none) :
    exec (.storeErase sector) s = .next ((s.received.startHostOp (.erase sector)).answer 0x2A .ok []) := by
  show execStoreErase sector s = _
  unfold execStoreErase
  rw [hostRequest_ready h, State.handle_accepted (show (s.received.storeEraseChecks sector).find? (fun c => c.1) = none from pass)]

theorem State.storeProgramChecks_find? {address : Nat} {data : List Byte} (ready : s.ss.state = .ready) (h1 : 1 ≤ data.length)
    (h2 : data.length ≤ 200) (h3 : address ≤ 524287) (page : (address + data.length - 1) / 256 = address / 256)
    (low : 82 ≤ address / 4096) (high : address / 4096 ≤ 126) (blank : memBlank s.ss.array address data.length = true) :
    (s.storeProgramChecks address data).find? (fun c => c.1) = none := by
  simp [State.storeProgramChecks, within, ready, h1, h2, h3, page, low, high, blank]

theorem State.storeEraseChecks_find? {sector : Nat} (ready : s.ss.state = .ready)
    (area : (82 ≤ sector ∧ sector ≤ 126) ∨ (64 ≤ sector ∧ sector ≤ 79 ∧ s.pc.save = none ∧ s.pc.restore = none)) :
    (s.storeEraseChecks sector).find? (fun c => c.1) = none := by
  rcases area with ⟨low, high⟩ | ⟨low, high, save, restore⟩
  · have inside : sector ≤ 127 := by omega
    have outside : ¬(64 ≤ sector ∧ sector ≤ 79) := by omega
    simp [State.storeEraseChecks, within, ready, low, high, inside, outside]
  · have inside : sector ≤ 127 := by omega
    simp [State.storeEraseChecks, within, ready, low, high, inside, save, restore]

/-- Settles O23. -/
theorem host_store_requests_read_and_start : Obligations.host_store_requests_read_and_start := by
  refine ⟨fun address length s h quiet idle h1 h2 h3 h4 => storeRead_idle h quiet idle ⟨h1, h2, h3, h4⟩,
    fun address length s o h quiet operation h1 h2 h3 h4 =>
      ⟨fun untouched unguarded running noneWaits =>
        storeRead_suspends h quiet operation ⟨h1, h2, h3, h4⟩ untouched unguarded running noneWaits,
      fun untouched guarded running => storeRead_waits h quiet operation ⟨h1, h2, h3, h4⟩ untouched guarded running,
      fun touched => storeRead_busy h operation ⟨h1, h2, h3, h4⟩ touched⟩,
    fun s h ready => ⟨fun address data h1 h2 h3 page low high erased wf => ?_, fun sector area => ?_⟩⟩
  · exact exec_storeProgram_accepted h
      (State.storeProgramChecks_find? ready h1 h2 h3 page low high (memBlank_of_memRead wf erased))
  · exact exec_storeErase_accepted h (State.storeEraseChecks_find? ready area)

/-! ## The end of an operation -/

theorem State.alert_set (s : State) (f : Alert) : (s.alert f).lc.alerts.getLsbD f.bit = true := by
  have mask : (BitVec.ofNat 16 (2 ^ f.bit)).getLsbD f.bit = true := by cases f <;> decide
  show (s.lc.alerts ||| _).getLsbD f.bit = true
  rw [BitVec.getLsbD_or, mask, Bool.or_true]

/-- The array after the completion check, passed or failed. -/
def State.arrayAfter (s : State) (op : StoreOp) (passed : Bool) : List Host.Cell :=
  if passed then op.apply s.ss.array
  else (match op with
    | .erase k => s.undefineSector k
    | .program a data => s.undefine a data.length).ss.array

/-- What an operation at its end leaves of the array and the alerts (R33 to R36). -/
theorem State.operationPassed_after (s : State) (o : Operation) :
    (s.operationPassed o).ss.array = o.op.apply s.ss.array ∧
    (o.owner = .host → (s.operationPassed o).lc.alerts.getLsbD Alert.storeDone.bit = true) := by
  unfold State.operationPassed
  extract_lets _ t
  have written : t.ss.array = o.op.apply s.ss.array := rfl
  split
  next owner =>
    have done := State.operationDone_handed (Handed.refl (t.hostOpEnds .done))
    exact ⟨(Handed.array done).trans written, fun _ => done.alerts _ (State.alert_set _ .storeDone)⟩
  next kind owner => exact ⟨(Handed.array (State.operationDone_handed (Handed.refl t))).trans written, fun host => by simp [owner] at host⟩

theorem State.operationFailed_after (s : State) (o : Operation) :
    (s.operationFailed o).ss.array = s.arrayAfter o.op false ∧
    (s.operationFailed o).lc.alerts.getLsbD Alert.storeFault.bit = true ∧
    (o.owner = .host → (s.operationFailed o).lc.alerts.getLsbD Alert.storeDone.bit = true) := by
  unfold State.operationFailed
  extract_lets t
  have written : t.ss.array = s.arrayAfter o.op false := by
    refine (Handed.array (State.recordFailure_handed (Handed.refl _) _ _ _)).trans ?_
    unfold State.arrayAfter
    cases o.op with
    | erase k => exact (if_neg (by decide)).symm
    | program a data => exact (if_neg (by decide)).symm
  have failed : t.lc.alerts.getLsbD Alert.storeFault.bit = true := State.alert_set _ .storeFault
  split
  next owner =>
    have ends := State.hostOpEnds_handed (Handed.refl t) (.failed .check)
    have done := State.operationDone_handed (Handed.refl (t.hostOpEnds (.failed .check)))
    exact ⟨(Handed.array done).trans written, done.alerts _ (ends.alerts _ failed), fun _ => done.alerts _ (State.alert_set _ .storeDone)⟩
  next kind owner =>
    have ends : Handed t ((t.setStore { t.ss with item := none }).itemEnds kind (some .check)).operationDone :=
      State.operationDone_handed (State.itemEnds_handed (Handed.setStore (Handed.refl t) (by rfl)) _ _)
    exact ⟨(Handed.array ends).trans written, ends.alerts _ failed, fun host => by simp [owner] at host⟩

theorem freeOctets_length (k n : Nat) : (freeOctets k n).length = n := by simp [freeOctets]

/-- An octet outside the sector of an erase or the range of a program. -/
def StoreOp.spares (op : StoreOp) (x : Nat) : Prop :=
  match op with
  | .erase k => x / 4096 ≠ k
  | .program a data => x < a ∨ a + data.length ≤ x

theorem State.memRead_undefine (s : State) {address n x : Nat} (outside : x < address ∨ address + n ≤ x) :
    memRead (s.undefine address n).ss.array x = memRead s.ss.array x := by
  rw [State.undefine_array, memRead_memWriteAll_outside _ _ _ _ (by rwa [freeOctets_length])]

theorem State.memRead_undefineSector (s : State) {k x : Nat} (outside : x / 4096 ≠ k) :
    memRead (s.undefineSector k).ss.array x = memRead s.ss.array x := by
  unfold State.undefineSector
  exact s.memRead_undefine (by omega)

theorem State.memRead_arrayAfter (s : State) {op : StoreOp} {x : Nat} (spared : op.spares x) (passed : Bool) :
    memRead (s.arrayAfter op passed) x = memRead s.ss.array x := by
  unfold State.arrayAfter
  split
  · cases op with
    | erase k => exact (memRead_memErase _ _ _).trans (if_neg spared)
    | program a data => exact memRead_memWriteAll_outside _ _ _ _ spared
  · cases op with
    | erase k => exact s.memRead_undefineSector spared
    | program a data => exact s.memRead_undefine spared

/-- The state at the end of an operation, before the hand-overs. -/
def State.operationEnded (s : State) (o : Operation) (passed : Bool) : State :=
  if passed then s.operationPassed o else s.operationFailed o

theorem exec_operationEnd {o : Operation} (passed : Bool) (h : s.ss.operation = some o) :
    exec (.operationEnd passed) s = .next (s.operationEnded o passed).settled := by
  show execOperationEnd passed s = _
  unfold execOperationEnd
  rw [h]
  rfl

theorem State.operationEnded_array (s : State) (o : Operation) (passed : Bool) :
    (s.operationEnded o passed).ss.array = s.arrayAfter o.op passed := by
  unfold State.operationEnded
  cases passed with
  | true => exact (s.operationPassed_after o).1
  | false => exact (s.operationFailed_after o).1

theorem State.operationEnded_storeDone (s : State) {o : Operation} (passed : Bool) (host : o.owner = .host) :
    (s.operationEnded o passed).lc.alerts.getLsbD Alert.storeDone.bit = true := by
  unfold State.operationEnded
  cases passed with
  | true => exact (s.operationPassed_after o).2 host
  | false => exact (s.operationFailed_after o).2.2 host

theorem exec_operationOverrun {o : Operation} (h : s.ss.operation = some o) :
    exec .operationOverrun s = .next ((s.reach (o.startedAt + o.op.maxMs)).overrun o).settled := by
  show execOperationOverrun s = _
  unfold execOperationOverrun
  rw [h]

theorem exec_progressGuardEnd {o : Operation} {m : Nat} (h : s.ss.operation = some o) (guarded : o.guardEnd = some m) :
    exec .progressGuardEnd s = .next (s.reach m).guardEnds.settled := by
  show execProgressGuardEnd s = _
  simp only [execProgressGuardEnd, h, guarded]

/-- Reads are served in their order by one notice each. -/
theorem State.serveEach_eq (ws : List WaitingRead) (s : State) :
    ws.foldl (fun s w => s.serve w.reader) s = { s with notices := s.notices ++ ws.map fun w => .served w.reader } := by
  induction ws generalizing s with
  | nil => simp
  | cons w ws ih => rw [List.foldl_cons, ih]; simp [State.serve, State.post]

/-- The end of a progress guard with reads that wait for it: one more suspension. -/
theorem State.guardEnds_suspends (h : ∃ w ∈ s.ss.readWait, w.held = false) :
    s.guardEnds = { s with
      ss := { s.ss with state := .suspended, readWait := s.ss.readWait.filter fun w => w.held }
      notices := s.notices ++ ((s.ss.readWait.filter fun w => !w.held).map fun w => .served w.reader) ++ [.resumed] } := by
  have waits : (s.ss.readWait.any fun w => !w.held) = true := by simpa using h
  unfold State.guardEnds
  rw [if_pos waits]
  simp only [State.serveUnheld, State.serveEach_eq, State.suspend, State.setStore, State.post]

theorem State.guardEnds_over {o : Operation} (h : s.ss.readWait = []) (operation : s.ss.operation = some o) :
    s.guardEnds = s.setStore { s.ss with operation := some { o with guardEnd := none } } := by
  unfold State.guardEnds
  rw [h, if_neg (by simp), operation]
  rfl

/-- The suspension at the end of a guard for one STORE_READ. -/
theorem guardEnd_reads {o : Operation} {m address length : Nat} (operation : s.ss.operation = some o) (guarded : o.guardEnd = some m)
    (due : s.clock ≤ m) (quiet : s.notices = []) (waits : s.ss.readWait = [{ reader := .hostRead address length, held := false }])
    (held : s.lc.held ≠ none) :
    exec .progressGuardEnd s = .next (State.answer { s with
      clock := m
      ss := { s.ss with state := o.op.state, suspensions := satSucc 65535 s.ss.suspensions, readWait := []
                        operation := some { o with guardEnd := some (m + 20) } } } 0x28 .ok (memReadAll s.ss.array address length)) := by
  have isHeld : s.lc.held.isSome = true := by simpa [Option.isSome_iff_ne_none] using held
  rw [exec_progressGuardEnd operation guarded, State.reach_at due,
    State.guardEnds_suspends (s := { s with clock := m }) ⟨_, by rw [waits]; exact List.mem_singleton_self _, rfl⟩]
  simp only [waits, quiet]
  rw [State.settled_suspension (o := o) (by exact isHeld) (by exact operation) (by rfl)]
  simp only [State.answer]
  rfl

/-- Settles O24. -/
theorem operation_ends_change_only_their_own_range : Obligations.operation_ends_change_only_their_own_range := by
  refine ⟨fun s o wf operation => ⟨fun passed => ⟨_, exec_operationEnd passed operation, fun failed => ?_, fun host => ?_, fun k erase x hx => ?_,
    fun a data program x hx => ?_⟩, ⟨_, exec_operationEnd true operation, fun k erase x hx => ?_, fun a data program k hk => ?_⟩⟩,
    fun s o wf operation => ?_, fun s o m operation guarded due => ⟨fun quiet noneWaits => ?_, fun waits => ?_,
    fun address length quiet waits held => guardEnd_reads operation guarded due quiet waits held⟩⟩
  · subst failed
    exact (State.settled_self _).alerts _ (s.operationFailed_after o).2.1
  · exact (State.settled_self _).alerts _ (s.operationEnded_storeDone passed host)
  · rw [State.settled_array, State.operationEnded_array]
    exact s.memRead_arrayAfter (by rw [erase]; exact hx) passed
  · rw [State.settled_array, State.operationEnded_array]
    exact s.memRead_arrayAfter (by rw [program]; exact hx) passed
  · rw [State.settled_array, State.operationEnded_array, erase]
    exact (memRead_memErase _ _ _).trans (if_pos hx)
  · rw [State.settled_array, State.operationEnded_array, program]
    exact memRead_memWriteAll_inside data _ _ _ wf hk
  · have recorded := State.overrun_recorded (s := s.reach (o.startedAt + o.op.maxMs)) (o := o) rfl
    refine ⟨_, exec_operationOverrun operation, ?_, ?_, fun x hx => ?_⟩
    · rw [State.settled_clock]
      exact congrArg Kept.clock recorded.kept
    · exact (State.settled_self _).alerts _ (recorded.alerts _ (State.alert_set _ .storeFault))
    · rw [State.settled_array, Handed.array recorded, Handed.array (State.recordFailure_handed (Handed.refl _) _ _ _)]
      exact State.memRead_undefineSector (s.reach _) hx
  · rw [exec_progressGuardEnd operation guarded, State.reach_at due,
      State.guardEnds_over (s := { s with clock := m }) noneWaits operation, State.settled_quiet (by exact quiet)]
    rfl
  · refine ⟨_, exec_progressGuardEnd operation guarded, ?_⟩
    rw [State.reach_at due, State.guardEnds_suspends (s := { s with clock := m }) waits]
    exact ⟨rfl, rfl, rfl, rfl, rfl⟩

end

end Sys2Proof.Machine

/-! # Season Books (O25 to O27) -/

namespace Sys2Proof.Machine

open Sys2Proof

section

variable {c : Instr} {s : State} {k : Nat} {checks : State → List (Bool × Status)} {f : State → State}

/-- A request in a ready state whose checks pass is carried out to its end (R207, R208). -/
theorem hostRequest_accepted (h : s.ready) (pass : (checks s.received).find? (fun c => c.1) = none) :
    hostRequest c (fun u => u.request k (checks u) f) s = .next (f s.received).settled := by
  rw [hostRequest_ready h, State.request_accepted pass]

/-- A request in a ready state that a check refuses. -/
theorem hostRequest_refused {status : Status} (h : s.ready) (fails : (checks s.received).find? (fun c => c.1) = some (true, status)) :
    hostRequest c (fun u => u.request k (checks u) f) s = .next (s.received.answer k status []) := by
  rw [hostRequest_ready h, State.request_refused fails]

/-- A request in a ready state whose checks pass and that hands nothing over. -/
theorem hostRequest_handled (h : s.ready) (pass : (checks s.received).find? (fun c => c.1) = none) :
    hostRequest c (fun u => u.handle k (checks u) f) s = .next (f s.received) := by
  rw [hostRequest_ready h, State.handle_accepted pass]

theorem hostRequest_handle_refused {status : Status} (h : s.ready)
    (fails : (checks s.received).find? (fun c => c.1) = some (true, status)) :
    hostRequest c (fun u => u.handle k (checks u) f) s = .next (s.received.answer k status []) := by
  rw [hostRequest_ready h, State.handle_refused fails]

end

section

variable {s : State} {b : Nat}

theorem State.hasRoom_of_lt (h : s.ss.work.length < 8) : s.listHasRoom = true := by simpa [State.listHasRoom] using h

/-! ## Loading -/

theorem exec_bookOpen {season first last : Nat} (h : s.ready) (hb : b ≤ 1) (hs : season ≤ 65535) (window : first ≤ last)
    (hl : last ≤ 65535) (scan : s.sb.scanRunning = false) (empty : (s.book b).state = .empty)
    (other : (s.book (1 - b)).state ≠ .loading) (room : s.ss.work.length < 8) :
    exec (.bookOpen b season first last) s = .next ((s.received.openBook b season first last).answer 0x30 .ok []).settled := by
  show execBookOpen b season first last s = _
  refine hostRequest_accepted h (show (s.bookOpenChecks b season first last).find? _ = none from ?_)
  have hf : first ≤ 65535 := by omega
  simp [State.bookOpenChecks, hb, hs, hf, hl, window, scan, empty, other, State.hasRoom_of_lt room]

theorem exec_entryAdd {record : List Byte} (h : s.ready) (hb : b ≤ 1) (form : recordMalformed record = false)
    (range : entryInRange record = true) (scan : s.sb.scanRunning = false) (loading : (s.book b).state = .loading)
    (few : (s.book b).entriesAdded < 2048)
    (place : (s.book b).fits record = true ∨
      ((s.book b).slot (1 - (s.book b).filling.1)).isWaiting = false ∧ s.ss.work.length < 8) :
    exec (.entryAdd b record) s = .next ((s.received.addEntry b record).answer 0x31 .ok []).settled := by
  show execEntryAdd b record s = _
  refine hostRequest_accepted h (show (s.entryAddChecks b record).find? _ = none from ?_)
  have taken : (!(s.book b).fits record &&
      (((s.book b).slot (1 - (s.book b).filling.1)).isWaiting || !s.listHasRoom)) = false := by
    rcases place with fits | ⟨free, room⟩
    · simp [fits]
    · simp [free, State.hasRoom_of_lt room]
  simp [State.entryAddChecks, form, range, hb, scan, loading, few, taken]

theorem Book.fits_iff (x : Book) (record : List Byte) : x.fits record = true ↔ x.filling.2.2.flatten.length + record.length ≤ 256 := by
  simp [Book.fits]

theorem State.addEntry_joins {record : List Byte} (fits : (s.book b).fits record = true) :
    s.addEntry b record = s.setBook b (Book.setSlot { s.book b with entriesAdded := (s.book b).entriesAdded + 1 } (s.book b).filling.1
      (.filling (s.book b).filling.2.1 ((s.book b).filling.2.2 ++ [record]))) := if_pos fits

theorem State.addEntry_begins {record : List Byte} (full : ¬(s.book b).fits record = true) :
    s.addEntry b record = State.offerLoadPage (s.setBook b (Book.setSlot (Book.setSlot { s.book b with
      entriesAdded := (s.book b).entriesAdded + 1 } (s.book b).filling.1 (.waiting (s.book b).filling.2.1 (s.book b).filling.2.2))
        (1 - (s.book b).filling.1) (.filling ((s.book b).filling.2.1 + 1) [record]))) b (s.book b).filling.1 (s.book b).filling.2.1
        (s.book b).filling.2.2 := if_neg full

/-! ## Sealing and erasing -/

theorem State.bookSealChecks_find? {count crc : Nat} (hb : b ≤ 1) (hcount : count ≤ 65535) (hcrc : crc ≤ 4294967295)
    (scan : s.sb.scanRunning = false) (loading : (s.book b).state = .loading) :
    (s.bookSealChecks b count crc).find? (fun c => c.1) =
      if count ≠ (s.book b).entriesAdded then some (true, .range)
      else if 8 < s.ss.work.length + (s.book b).sealItems then some (true, .busy) else none := by
  simp only [State.bookSealChecks]
  split
  next wrong => simp [hb, hcount, hcrc, scan, loading, wrong]
  next right =>
    have right' : count = (s.book b).entriesAdded := not_not.mp right
    split
    next full => simp [hb, hcrc, scan, loading, right', right' ▸ hcount, full]
    next room => simp [hb, hcrc, scan, loading, right', right' ▸ hcount, Nat.le_of_not_lt room]

theorem exec_bookSeal_refused {count crc : Nat} (h : s.ready) (hb : b ≤ 1) (hcount : count ≤ 65535) (hcrc : crc ≤ 4294967295)
    (scan : s.sb.scanRunning = false) (loading : (s.book b).state = .loading) (wrong : count ≠ (s.book b).entriesAdded) :
    exec (.bookSeal b count crc) s = .next (s.received.answer 0x32 .range []) := by
  show execBookSeal b count crc s = _
  refine hostRequest_refused h (show (s.bookSealChecks b count crc).find? _ = some (true, .range) from ?_)
  rw [State.bookSealChecks_find? hb hcount hcrc scan loading, if_pos wrong]

theorem exec_bookSeal_accepted {count crc : Nat} (h : s.ready) (hb : b ≤ 1) (hcount : count ≤ 65535) (hcrc : crc ≤ 4294967295)
    (scan : s.sb.scanRunning = false) (loading : (s.book b).state = .loading) (right : count = (s.book b).entriesAdded)
    (room : s.ss.work.length + (s.book b).sealItems ≤ 8) :
    exec (.bookSeal b count crc) s = .next ((s.received.sealBook b count crc).answer 0x32 .ok []).settled := by
  show execBookSeal b count crc s = _
  refine hostRequest_accepted h (show (s.bookSealChecks b count crc).find? _ = none from ?_)
  rw [State.bookSealChecks_find? hb hcount hcrc scan loading, if_neg (not_not_intro right), if_neg (Nat.not_lt.mpr room)]

theorem State.sealBook_empty {count crc : Nat} (nothing : (s.book b).filling.2.2 = []) :
    s.sealBook b count crc = (s.setBook b { s.book b with state := .sealed, sealed := some (count, crc) }).markDue b .seal
      (u16 count ++ u32 crc) := by
  unfold State.sealBook
  simp [nothing]

theorem State.sealBook_page {count crc slot page : Nat} {records : List (List Byte)}
    (filling : (s.book b).filling = (slot, page, records)) (some : records ≠ []) {v : State}
    (hv : v = State.offerLoadPage (s.setBook b (Book.setSlot (s.book b) slot (.waiting page records))) b slot page records) :
    s.sealBook b count crc = (v.setBook b { v.book b with state := .sealed, sealed := .some (count, crc) }).markDue b .seal
      (u16 count ++ u32 crc) := by
  subst hv
  have nonempty : ¬records.isEmpty = true := by simpa using some
  unfold State.sealBook
  simp only [filling, if_neg nonempty]

theorem exec_bookErase (h : s.ready) (hb : b ≤ 1) (scan : s.sb.scanRunning = false) (active : (s.book b).state ≠ .active)
    (loading : (s.book b).state ≠ .loading) (verifying : (s.book b).state ≠ .verifying) (erasing : (s.book b).state ≠ .erasing)
    (room : s.ss.work.length < 8) (noHandover : (s.book b).pendingHandover = none) :
    exec (.bookErase b) s = .next ((s.received.eraseBook b).answer 0x37 .ok []).settled := by
  show execBookErase b s = _
  refine hostRequest_accepted h (show (s.bookEraseChecks b).find? _ = none from ?_)
  simp [State.bookEraseChecks, State.bookChecks, hb, scan, active, loading, verifying, erasing, State.hasRoom_of_lt room, noHandover]

/-- Settles O25. -/
theorem book_is_opened_filled_and_sealed : Obligations.book_is_opened_filled_and_sealed := by
  refine ⟨fun b season first last s h hb hs window hl scan empty other room => exec_bookOpen h hb hs window hl scan empty other room,
    fun b record s x h hb form range scan hx loading few => ⟨fun fits => ?_, fun full free room => ?_⟩,
    fun b count crc s h hb hcount hcrc scan loading => ⟨fun wrong => exec_bookSeal_refused h hb hcount hcrc scan loading wrong,
      fun right nothing room => ?_, fun v slot page records right filling some room hv => ?_⟩,
    fun b s x h hb scan hx active loading verifying erasing room noHandover => ?_⟩
  · subst hx
    have joins : (s.book b).fits record = true := (Book.fits_iff _ _).mpr fits
    rw [exec_entryAdd h hb form range scan loading few (.inl joins), State.addEntry_joins (s := s.received) joins]
    rfl
  · subst hx
    have begins : ¬(s.book b).fits record = true := fun fits => by
      have inside := (Book.fits_iff _ _).mp fits
      omega
    rw [exec_entryAdd h hb form range scan loading few (.inr ⟨free, room⟩), State.addEntry_begins (s := s.received) begins]
    rfl
  · have one : (s.book b).sealItems = 1 := by simp [Book.sealItems, nothing]
    rw [exec_bookSeal_accepted h hb hcount hcrc scan loading right (by omega), State.sealBook_empty (s := s.received) nothing]
    rfl
  · have two : (s.book b).sealItems = 2 := by simp [Book.sealItems, filling, some]
    rw [exec_bookSeal_accepted h hb hcount hcrc scan loading right (by omega),
      State.sealBook_page (s := s.received) filling some hv]
  · subst hx
    exact exec_bookErase h hb scan active loading verifying erasing room noHandover

/-! ## Verification -/

theorem exec_bookVerify (h : s.ready) (hb : b ≤ 1) (scan : s.sb.scanRunning = false)
    (state : (s.book b).state = .sealed ∨ (s.book b).state = .failed) (other : (s.book (1 - b)).state ≠ .verifying)
    (noneLoads : s.itemPending (fun k => k.loads b) = false) (noMarks : (s.book b).waitingMarks = []) :
    exec (.bookVerify b) s = .next ((s.received.verifyBook b).answer 0x33 .ok []).settled := by
  show execBookVerify b s = _
  refine hostRequest_accepted h (show (s.bookVerifyChecks b).find? _ = none from ?_)
  rcases state with state | state
  · simp [State.bookVerifyChecks, State.bookChecks, hb, scan, state, other, noneLoads, noMarks]
  · simp [State.bookVerifyChecks, State.bookChecks, hb, scan, state, other, noneLoads, noMarks]

theorem exec_verifyEnd {v : Verifier} (running : s.sb.verifier = some v) (finished : v.finished = true) (verify : v.reindex = false) :
    exec .verifyEnd s = .next (s.verificationEnds v).settled := by
  show execVerifyEnd s = _
  simp [execVerifyEnd, running, finished, verify]

theorem State.verificationEnds_standby {v : Verifier} (none_found : (s.book v.book).findings.total = 0) :
    s.verificationEnds v = State.alert (State.markDue ((s.setVerifier none).setBook v.book { s.book v.book with
      state := .standby, runIndex := some (s.indexOf v.book), findings := { (s.book v.book).findings with outcome := .standby } })
      v.book .verified []) .book := by
  unfold State.verificationEnds
  simp only [none_found, if_true]
  rfl

theorem State.verificationEnds_failed {v : Verifier} (found : (s.book v.book).findings.total ≠ 0) :
    s.verificationEnds v = State.alert ((s.setVerifier none).setBook v.book { s.book v.book with
      state := .failed, findings := { (s.book v.book).findings with outcome := .failed } }) .book := by
  unfold State.verificationEnds
  simp only [found, if_false]

theorem exec_verifierRead (s : State) : exec .verifierRead s = .next s.verifierReads.settled := rfl

theorem exec_reindexEnd {v : Verifier} (running : s.sb.verifier = some v) (finished : v.finished = true) (reindex : v.reindex = true) :
    exec .reindexEnd s = .next s.reindexEnds.settled := by
  show execReindexEnd s = _
  simp [execReindexEnd, running, finished, reindex]

theorem State.now_invalid (h : s.timeValid = false) : s.now = none := by simp [State.now, h]

theorem State.reindexEnds_invalid (h : s.timeValid = false) :
    s.reindexEnds = { s with sb := { s.sb with scanRunning := false, verifier := none } } := by
  have noTime : State.now { s with sb := { s.sb with scanRunning := false, verifier := none } } = none := State.now_invalid h
  unfold State.reindexEnds
  simp only [noTime]

theorem State.verifierReads_unreadable {v : Verifier} (running : s.sb.verifier = some v)
    (unreadable : (s.book v.book).state.verifiable = false) : s.verifierReads = s := by
  simp [State.verifierReads, running, unreadable]

theorem State.verifierReads_reads {v : Verifier} (running : s.sb.verifier = some v) (unfinished : v.finished = false)
    (idle : v.waiting = false) (readable : (s.book v.book).state.verifiable = true) :
    s.verifierReads = (s.setVerifier (some { v with waiting := true })).requestRead .verifier (pageAddress v.book v.page) 256 := by
  simp [State.verifierReads, running, unfinished, idle, readable]

theorem BookState.verifiable_iff (x : BookState) : x.verifiable = true ↔ x = .verifying ∨ x = .standby ∨ x = .active := by
  cases x <;> simp [BookState.verifiable]

/-- Settles O26. -/
theorem verifier_reads_and_its_ends_are_taken : Obligations.verifier_reads_and_its_ends_are_taken := by
  refine ⟨fun b s hb => ⟨fun h scan state other noneLoads noMarks => exec_bookVerify h hb scan state other noneLoads noMarks,
    fun v running hv finished verify => ⟨fun none_found => ?_, fun found => ?_⟩⟩,
    fun s v running => ⟨BookState.verifiable_iff _, fun unreadable => ?_, fun unfinished idle readable => ?_,
      fun finished reindex invalid => ?_⟩⟩
  · subst hv
    rw [exec_verifyEnd running finished verify, State.verificationEnds_standby none_found]
  · subst hv
    rw [exec_verifyEnd running finished verify, State.verificationEnds_failed found]
  · rw [exec_verifierRead, State.verifierReads_unreadable running unreadable]
  · rw [exec_verifierRead, State.verifierReads_reads running unfinished idle readable]
  · rw [exec_reindexEnd running finished reindex, State.reindexEnds_invalid invalid]

/-! ## Handover -/

/-- The lowest-numbered blank slot of four. -/
theorem Book.blankSlot_eq {x : Book} {n : Nat} (h1 : 1 ≤ n) (h4 : n ≤ 4) (blank : nth x.slots .torn n = .blank)
    (lowest : ∀ k, 1 ≤ k → k < n → nth x.slots .torn k ≠ .blank) : x.blankSlot = some n := by
  unfold Book.blankSlot
  rw [List.find?_eq_some_iff_append]
  refine ⟨by simpa using blank, (List.range (n - 1)).map (· + 1), (List.range (4 - n)).map (· + n + 1), ?_, fun k hk => ?_⟩
  · interval_cases n <;> rfl
  · obtain ⟨i, hi, rfl⟩ := List.mem_map.mp hk
    have below : i < n - 1 := List.mem_range.mp hi
    simpa using lowest (i + 1) (by omega) (by omega)

/-- An instant of R63: at least 10 s on, in the book's window, and after the present activation. -/
theorem State.handoverRange_eq_false {day second now : Nat} (hsecond : second ≤ 86399) (hnow : s.now = some now)
    (later : now + 10 ≤ day * 86400 + second) (first : (s.book b).firstDay ≤ day) (last : day ≤ (s.book b).lastDay)
    (since : ∀ a, s.activeSince = some a → a < day * 86400 + second) : s.handoverRange b (day * 86400 + second) = false := by
  have theDay : (day * 86400 + second) / 86400 = day := by omega
  unfold State.handoverRange
  rw [hnow, theDay]
  simp only [Option.getD_some, later, within, first, last, Nat.not_lt.mpr, and_self, decide_true, Bool.not_true, Bool.or_false]
  split
  next a ha => simpa using since a ha
  next => rfl

theorem State.setHandover_eq {n instant : Nat} (slot : (s.book b).blankSlot = some n) :
    s.setHandover b instant = (s.setBook b { s.book b with
      slots := setNth (s.book b).slots n (.used instant false)
      pendingHandover := some { slot := n, instant := instant } }).markDue b (.slotInstant n) (instantOctets instant) := by
  simp only [State.setHandover, slot, Option.getD_some]

/-- Settles O27. -/
theorem handover_set_uses_the_lowest_blank_slot : Obligations.handover_set_uses_the_lowest_blank_slot := by
  intro b day second now n s h hb hsecond scan standby none_pending h1 h4 blank lowest hnow later first last hday since room
  have slot := Book.blankSlot_eq h1 h4 blank lowest
  have valid : s.timeValid = true := by
    by_contra invalid
    rw [State.now_invalid (by simpa using invalid)] at hnow
    cases hnow
  have pass : (s.handoverSetChecks b day second).find? (fun c => c.1) = none := by
    simp [State.handoverSetChecks, hb, hday, hsecond, scan, standby, none_pending, slot, valid,
      State.handoverRange_eq_false hsecond hnow later first last since, State.hasRoom_of_lt room]
  have accepted : exec (.handoverSet b day second) s =
      .next ((s.received.setHandover b (day * 86400 + second)).answer 0x38 .ok []).settled := by
    show execHandoverSet b day second s = _
    exact hostRequest_accepted h pass
  rw [accepted, State.setHandover_eq (s := s.received) slot]
  rfl

end

end Sys2Proof.Machine

/-! # What the operations of one transmitter do

Every operation of a sequencer and of its protection record leaves the rest of the machine as it is, but for the permits and the notices
posted. `Moves t s u q p` says so, with the sequencer `q` and the protection record `p` that transmitter `t` has afterwards. -/

namespace Sys2Proof.Machine

open Sys2Proof

section TransmitterMoves

variable {s u v : State} {t : Nat} {q q' : Sequencer} {p p' : Protection}

/-- The machine with another sequencer and protection record of one transmitter, other permits and other notices. -/
def State.withTx (s : State) (t : Nat) (q : Sequencer) (p : Protection) (pu : PermitUnit) (ns : List Notice) : State :=
  { s with tq := setNth s.tq t q, pt := { s.pt with txs := setNth s.pt.txs t p }, pu := pu, notices := ns }

/-- The transmitter has a sequencer and a protection record. -/
structure State.HasTx (s : State) (t : Nat) : Prop where
  pos : 1 ≤ t
  sequencers : t ≤ s.tq.length
  protections : t ≤ s.pt.txs.length

theorem State.sized.hasTx (h : s.sized) (h1 : 1 ≤ t) (h12 : t ≤ 12) : s.HasTx t := by
  obtain ⟨-, -, tq, ⟨txs, -⟩, -⟩ := State.sized_iff.mp h
  exact ⟨h1, by omega, by omega⟩

theorem State.HasTx.atClock (h : s.HasTx t) (m : Nat) : State.HasTx { s with clock := m } t :=
  ⟨h.pos, h.sequencers, h.protections⟩

theorem State.HasTx.alert (h : s.HasTx t) (f : Alert) : (s.alert f).HasTx t := ⟨h.pos, h.sequencers, h.protections⟩

/-- The step from `s` to `u` gives transmitter `t` the sequencer `q` and the protection record `p`, and changes nothing else but the
permits and the notices, which it may add to. -/
def Moves (t : Nat) (s u : State) (q : Sequencer) (p : Protection) : Prop :=
  ∃ pu ns, u = s.withTx t q p pu ns ∧ s.notices ⊆ ns

theorem setNth_setNth {α : Type} (xs : List α) (n : Nat) (v w : α) : setNth (setNth xs n v) n w = setNth xs n w := by
  unfold setNth
  split
  · rfl
  · simp

theorem Moves.refl (t : Nat) (s : State) : Moves t s s (s.seq t) (s.prot t) := by
  refine ⟨s.pu, s.notices, ?_, fun _ h => h⟩
  unfold State.withTx State.seq State.prot
  rw [setNth_nth, setNth_nth]

theorem Moves.trans (first : Moves t s u q p) (second : Moves t u v q' p') : Moves t s v q' p' := by
  obtain ⟨pu, ns, rfl, kept⟩ := first
  obtain ⟨pu', ns', rfl, kept'⟩ := second
  refine ⟨pu', ns', ?_, fun n hn => kept' (kept hn)⟩
  simp only [State.withTx, setNth_setNth]

/-! ## What a move leaves -/

theorem Moves.seq (h : Moves t s u q p) (has : s.HasTx t) : u.seq t = q := by
  obtain ⟨pu, ns, rfl, -⟩ := h
  exact nth_setNth_self _ _ _ _ has.pos has.sequencers

theorem Moves.prot (h : Moves t s u q p) (has : s.HasTx t) : u.prot t = p := by
  obtain ⟨pu, ns, rfl, -⟩ := h
  exact nth_setNth_self _ _ _ _ has.pos has.protections

theorem Moves.hasTx (h : Moves t s u q p) (has : s.HasTx t) : u.HasTx t := by
  obtain ⟨pu, ns, rfl, -⟩ := h
  exact ⟨has.pos, by simpa [State.withTx] using has.sequencers, by simpa [State.withTx] using has.protections⟩

theorem Moves.seq_ne (h : Moves t s u q p) {k : Nat} (hk : k ≠ t) : u.seq k = s.seq k := by
  obtain ⟨pu, ns, rfl, -⟩ := h
  exact nth_setNth_ne _ _ _ _ _ hk

theorem Moves.prot_ne (h : Moves t s u q p) {k : Nat} (hk : k ≠ t) : u.prot k = s.prot k := by
  obtain ⟨pu, ns, rfl, -⟩ := h
  exact nth_setNth_ne _ _ _ _ _ hk

theorem Moves.clock (h : Moves t s u q p) : u.clock = s.clock := by
  obtain ⟨pu, ns, rfl, -⟩ := h
  rfl

theorem Moves.ht (h : Moves t s u q p) : u.ht = s.ht := by
  obtain ⟨pu, ns, rfl, -⟩ := h
  rfl

theorem Moves.tb (h : Moves t s u q p) : u.tb = s.tb := by
  obtain ⟨pu, ns, rfl, -⟩ := h
  rfl

theorem Moves.se (h : Moves t s u q p) : u.se = s.se := by
  obtain ⟨pu, ns, rfl, -⟩ := h
  rfl

theorem Moves.mc (h : Moves t s u q p) : u.mc = s.mc := by
  obtain ⟨pu, ns, rfl, -⟩ := h
  rfl

theorem Moves.pc (h : Moves t s u q p) : u.pc = s.pc := by
  obtain ⟨pu, ns, rfl, -⟩ := h
  rfl

theorem Moves.lc (h : Moves t s u q p) : u.lc = s.lc := by
  obtain ⟨pu, ns, rfl, -⟩ := h
  rfl

theorem Moves.settings (h : Moves t s u q p) : u.pt.settings = s.pt.settings := by
  obtain ⟨pu, ns, rfl, -⟩ := h
  rfl

theorem Moves.notices (h : Moves t s u q p) {n : Notice} (posted : n ∈ s.notices) : n ∈ u.notices := by
  obtain ⟨pu, ns, rfl, kept⟩ := h
  exact kept posted

theorem Moves.tx (h : Moves t s u q p) (k : Nat) : u.tx k = s.tx k := by
  unfold State.tx
  rw [h.ht]

/-! ## Writes and notices -/

theorem moves_setSeq (t : Nat) (s : State) (q : Sequencer) : Moves t s (s.setSeq t q) q (s.prot t) := by
  refine ⟨s.pu, s.notices, ?_, fun _ h => h⟩
  unfold State.withTx State.setSeq State.prot
  rw [setNth_nth]

theorem moves_setProt (t : Nat) (s : State) (p : Protection) : Moves t s (s.setProt t p) (s.seq t) p := by
  refine ⟨s.pu, s.notices, ?_, fun _ h => h⟩
  unfold State.withTx State.setProt State.seq
  rw [setNth_nth]

theorem Moves.setSeq (h : Moves t s u q p) (has : s.HasTx t) (q' : Sequencer) : Moves t s (u.setSeq t q') q' p := by
  have next := h.trans (moves_setSeq t u q')
  rwa [h.prot has] at next

theorem Moves.setProt (h : Moves t s u q p) (has : s.HasTx t) (p' : Protection) : Moves t s (u.setProt t p') q p' := by
  have next := h.trans (moves_setProt t u p')
  rwa [h.seq has] at next

/-- Other permits and further notices are a move too. -/
theorem Moves.quiet (h : Moves t s u q p) (pu : PermitUnit) (ns : List Notice) (kept : u.notices ⊆ ns) :
    Moves t s { u with pu := pu, notices := ns } q p := by
  obtain ⟨pu', ns', rfl, kept'⟩ := h
  exact ⟨pu, ns, rfl, fun n hn => kept (kept' hn)⟩

theorem State.postOnce_subset (s : State) (n : Notice) : s.notices ⊆ (s.postOnce n).notices := by
  intro x hx
  unfold State.postOnce addOnce
  split
  · exact hx
  · exact List.mem_append_left _ hx

theorem Moves.post (h : Moves t s u q p) (n : Notice) : Moves t s (u.post n) q p :=
  h.quiet u.pu _ (List.subset_append_left _ _)

theorem Moves.postOnce (h : Moves t s u q p) (n : Notice) : Moves t s (u.postOnce n) q p :=
  h.quiet u.pu _ (u.postOnce_subset n)

theorem Moves.lineFalls (h : Moves t s u q p) (r : Nat) (cause : FallCause) : Moves t s (u.lineFalls r cause) q p := by
  unfold State.lineFalls
  dsimp only
  split
  · exact h.quiet _ _ fun _ hn => hn
  · exact (h.quiet (u.setPermit r _).pu _ fun _ hn => hn).post _

theorem Moves.updateLine (h : Moves t s u q p) (r : Nat) : Moves t s (u.updateLine r) q p := by
  have requested : Moves t s (u.setPermit r { u.permit r with request := (u.seq r).requesting }) q p := h.quiet _ _ fun _ hn => hn
  unfold State.updateLine
  dsimp only
  split
  · exact requested.lineFalls r _
  · split
    · exact (requested.quiet _ _ fun _ hn => hn).post _
    · exact requested

/-! ## Entering a state, R148 -/

/-- The sequencer once it has entered a state. -/
def Sequencer.entered (q : Sequencer) (st : SeqState) (timer : Option Nat) : Sequencer :=
  { q with state := st, tuneMode := .none, tunedFreq := if st.keepsFreq then q.tunedFreq else none, timer := timer, mute := none,
           restart := none, kept := none, quench := .none, feedback := if q.state = .onAir then none else q.feedback }

/-- The protection record once its sequencer has entered a state: the restore run ends outside RAMP_UP and ON_AIR. -/
def Protection.entered (p : Protection) (st : SeqState) : Protection :=
  if st = .rampUp ∨ st = .onAir then p else { p with restoreRun := none }

theorem moves_enterSeq (has : s.HasTx t) (st : SeqState) (timer : Option Nat) :
    Moves t s (s.enterSeq t st timer) ((s.seq t).entered st timer) ((s.prot t).entered st) := by
  have first : Moves t s (if !(s.permit t).line && (s.seq t).requesting then s.updateLine t else s) (s.seq t) (s.prot t) := by
    split
    · exact (Moves.refl t s).updateLine t
    · exact Moves.refl t s
  unfold State.enterSeq
  dsimp only
  generalize (if !(s.permit t).line && (s.seq t).requesting then s.updateLine t else s) = u at first
  have entered := first.setSeq has ((s.seq t).entered st timer)
  have record : Moves t s (if st = .rampUp ∨ st = .onAir then u.setSeq t ((s.seq t).entered st timer)
      else (u.setSeq t ((s.seq t).entered st timer)).setProt t
        { (u.setSeq t ((s.seq t).entered st timer)).prot t with restoreRun := none })
      ((s.seq t).entered st timer) ((s.prot t).entered st) := by
    unfold Protection.entered
    split
    · exact entered
    · rw [entered.prot has]
      exact entered.setProt has _
  have last := fun w (hw : Moves t s w ((s.seq t).entered st timer) ((s.prot t).entered st)) =>
    (show Moves t s (if (w.permit t).line && !(w.seq t).requesting then w.updateLine t else w) _ _ from by
      split
      · exact hw.updateLine t
      · exact hw)
  exact (((last _ record).postOnce _).post _).postOnce _

/-- The line of a transmitter that requests no permit and has none is left as it is. -/
theorem State.enterSeq_permits (off : (s.permit t).line = false) (quiet : (s.seq t).requesting = false) (st : SeqState)
    (timer : Option Nat) : (s.enterSeq t st timer).pu = s.pu := by
  unfold State.enterSeq
  have first : (!(s.permit t).line && (s.seq t).requesting) = false := by simp [quiet]
  simp only [first, Bool.false_eq_true, if_false]
  have stays : ∀ w : State, w.pu = s.pu → (if (w.permit t).line && !(w.seq t).requesting then w.updateLine t else w).pu = s.pu := by
    intro w hw
    have line : (w.permit t).line = false := by
      unfold State.permit at off ⊢
      rwa [hw]
    rw [line, Bool.false_and, if_neg Bool.false_ne_true, hw]
  split
  · exact stays _ rfl
  · exact stays _ rfl

/-! ## Ends of orders, R145 -/

/-- The same sequencer but for its last order outcome. -/
def Sequencer.SameButLast (q q' : Sequencer) : Prop := ∃ l, q' = { q with lastOrder := l }

theorem moves_endOrder (t : Nat) (s : State) (kind : OrderKind) (number : Option Nat) (owner : OrderOwner) (e : OrderEnd) :
    Moves t s (s.endOrder t kind number owner e)
      { s.seq t with lastOrder := some { kind := kind, number := number, owner := owner, outcome := e } } (s.prot t) :=
  (moves_setSeq t s _).post _

theorem moves_endOutstanding_none (h : (s.seq t).outstanding = none) (e : OrderEnd) : s.endOutstanding t e = s := by
  unfold State.endOutstanding
  rw [h]

theorem moves_endOutstanding {o : Outstanding} (has : s.HasTx t) (h : (s.seq t).outstanding = some o) (e : OrderEnd) :
    Moves t s (s.endOutstanding t e) { s.seq t with
      outstanding := none
      lastOrder := some { kind := o.order.kind, number := some o.number, owner := o.owner, outcome := e } } (s.prot t) := by
  unfold State.endOutstanding
  rw [h]
  have cleared := moves_setSeq t s { s.seq t with outstanding := none }
  have ended := cleared.trans (moves_endOrder t _ o.order.kind (some o.number) o.owner e)
  rwa [cleared.seq has, cleared.prot has] at ended

theorem moves_endAll (has : s.HasTx t) (xs : List QueuedOrder) (e : OrderEnd) :
    ∃ l, Moves t s (xs.foldl (fun w x => w.endQueued t x e) s) { s.seq t with lastOrder := l } (s.prot t) := by
  induction xs generalizing s with
  | nil => exact ⟨_, Moves.refl t s⟩
  | cons x xs ih =>
    have ended := moves_endOrder t s x.order.kind none x.owner e
    obtain ⟨l, rest⟩ := ih (ended.hasTx has)
    rw [ended.seq has, ended.prot has] at rest
    exact ⟨l, ended.trans rest⟩

theorem moves_discardOrders (has : s.HasTx t) :
    ∃ l, Moves t s (s.discardOrders t) { s.seq t with queue := [], deferred := [], lastOrder := l } (s.prot t) := by
  unfold State.discardOrders
  have emptied := moves_setSeq t s { s.seq t with queue := [], deferred := [] }
  obtain ⟨l, rest⟩ := moves_endAll (emptied.hasTx has) ((s.seq t).queue ++ (s.seq t).deferred) .discarded
  rw [emptied.seq has, emptied.prot has] at rest
  exact ⟨l, emptied.trans rest⟩

/-! ## Sending, R142 to R144 -/

/-- What the taking of an order makes of the protection record (R142). -/
def Protection.command (p : Protection) (power : Nat) (tune : Bool) : Protection :=
  { p with commanded := power, working := if power = 0 ∨ tune then p.working else power }

def Protection.ordered (p : Protection) (o : Order) : Protection :=
  match o with
  | .tuneAuto _ kw => p.command kw true
  | .rfOn power _ _ => p.command power false
  | .rfOff _ => p.command 0 false
  | .mute => p.command 0 false
  | .power power => p.command power false
  | .tunePreset _ _ _ _ _ => p
  | .feed _ => p
  | .clearTrip => p

theorem moves_commandOrder (t : Nat) (s : State) (o : Order) :
    Moves t s (s.commandOrder t o) (s.seq t) ((s.prot t).ordered o) := by
  cases o with
  | tunePreset => exact Moves.refl t s
  | feed => exact Moves.refl t s
  | clearTrip => exact Moves.refl t s
  | tuneAuto => exact moves_setProt t s _
  | rfOn => exact moves_setProt t s _
  | rfOff => exact moves_setProt t s _
  | mute => exact moves_setProt t s _
  | power => exact moves_setProt t s _

/-- The sequencer once an order's frame has gone out at `now`. -/
def Sequencer.sends (q : Sequencer) (o : Order) (owner : OrderOwner) (now : Nat) : Sequencer :=
  { q with counter := (q.counter + 1) % 256, lastFrame := orderFrame o ((q.counter + 1) % 256)
           outstanding := some { order := o, number := (q.counter + 1) % 256, owner := owner, sentAt := now } }

theorem moves_sendFrame (t : Nat) (s : State) (x : QueuedOrder) :
    Moves t s (s.sendFrame t x) ((s.seq t).sends x.order x.owner s.clock) (s.prot t) := moves_setSeq t s _

/-- The sequencer with its order bookkeeping replaced: the queue, the number, the frame, the outstanding order and the last outcome. -/
def Sequencer.withOrders (q : Sequencer) (queue : List QueuedOrder) (counter : Nat) (frame : List Byte) (out : Option Outstanding)
    (last : Option OrderRecord) : Sequencer :=
  { q with queue := queue, counter := counter, lastFrame := frame, outstanding := out, lastOrder := last }

theorem moves_trySend (has : s.HasTx t) :
    ∃ qu c f o, Moves t s (s.trySend t) ((s.seq t).withOrders qu c f o (s.seq t).lastOrder) (s.prot t) := by
  unfold State.trySend
  dsimp only
  split
  · split
    · exact ⟨_, _, _, _, Moves.refl t s⟩
    · rename_i x rest _ _ _
      have removed := moves_setSeq t s { s.seq t with queue := rest }
      have sent := removed.trans (moves_sendFrame t _ x)
      rw [removed.seq has, removed.prot has] at sent
      exact ⟨_, _, _, _, sent⟩
  · exact ⟨_, _, _, _, Moves.refl t s⟩

/-- An order that is taken changes the sequencer's orders alone, and the commanded power (R142). -/
theorem moves_enqueue (has : s.HasTx t) (o : Order) (owner : OrderOwner) :
    ∃ qu c f out l, Moves t s (s.enqueue t o owner) ((s.seq t).withOrders qu c f out l) ((s.prot t).ordered o) := by
  unfold State.enqueue State.endReplaced
  dsimp only
  have joined := moves_setSeq t s { s.seq t with queue := replaceKind { order := o, owner := owner } (s.seq t).queue }
  obtain ⟨l, replaced⟩ := moves_endAll (joined.hasTx has)
    ((s.seq t).queue.filter fun y => y.order.kind == ({ order := o, owner := owner } : QueuedOrder).order.kind) .replaced
  rw [joined.seq has, joined.prot has] at replaced
  have ended := joined.trans replaced
  have commanded := ended.trans (moves_commandOrder t _ o)
  rw [ended.seq has, ended.prot has] at commanded
  obtain ⟨qu, c, f, out, sent⟩ := moves_trySend (commanded.hasTx has)
  rw [commanded.seq has, commanded.prot has] at sent
  exact ⟨qu, c, f, out, l, commanded.trans sent⟩

/-- An order taken into an empty queue, before it is tried to be sent. -/
theorem moves_enqueue_empty (has : s.HasTx t) (empty : (s.seq t).queue = []) (o : Order) (owner : OrderOwner) :
    ∃ w, s.enqueue t o owner = w.trySend t ∧ w.pu = s.pu ∧
      Moves t s w { s.seq t with queue := [{ order := o, owner := owner }] } ((s.prot t).ordered o) := by
  have joined := moves_setSeq t s { s.seq t with queue := [{ order := o, owner := owner }] }
  have commanded := joined.trans (moves_commandOrder t _ o)
  rw [joined.seq has, joined.prot has] at commanded
  refine ⟨_, ?_, ?_, commanded⟩
  · unfold State.enqueue State.endReplaced
    simp only [empty]
    rfl
  · cases o <;> rfl

theorem Sequencer.idle_eq {q : Sequencer} (free : q.outstanding = none) (empty : q.queue = []) :
    { q with outstanding := none, queue := [] } = q := by
  cases q
  cases free
  cases empty
  rfl

/-- With no order outstanding and none queued, an order that does not wait for the line goes out at once (R143, R144). -/
theorem moves_enqueue_sends (has : s.HasTx t) (free : (s.seq t).outstanding = none) (empty : (s.seq t).queue = []) {o : Order}
    (ungated : o.gated = false) (owner : OrderOwner) :
    Moves t s (s.enqueue t o owner) ((s.seq t).sends o owner s.clock) ((s.prot t).ordered o) := by
  obtain ⟨w, eq, -, moved⟩ := moves_enqueue_empty has empty o owner
  rw [eq]
  unfold State.trySend
  simp only [moved.seq has, free, ungated, Bool.false_and, Bool.false_eq_true, if_false]
  have removed := moved.setSeq has { s.seq t with outstanding := none, queue := [] }
  have sent := removed.trans (moves_sendFrame t _ { order := o, owner := owner })
  rw [removed.seq has, removed.prot has, removed.clock] at sent
  rw [Sequencer.idle_eq free empty] at sent ⊢
  exact sent

/-- While the line is OFF a gated order waits in the queue (R144). -/
theorem moves_enqueue_waits (has : s.HasTx t) (empty : (s.seq t).queue = []) {o : Order} (gated : o.gated = true)
    (off : (s.permit t).line = false) (owner : OrderOwner) :
    Moves t s (s.enqueue t o owner) { s.seq t with queue := [{ order := o, owner := owner }] } ((s.prot t).ordered o) := by
  obtain ⟨w, eq, permits, moved⟩ := moves_enqueue_empty has empty o owner
  have line : (w.permit t).line = false := by
    unfold State.permit at off ⊢
    rwa [permits]
  have waits : w.trySend t = w := by
    unfold State.trySend
    dsimp only
    split
    next x rest free queue =>
      rw [moved.seq has] at queue
      obtain ⟨rfl, -⟩ := List.cons.inj queue
      simp only [gated, line, Bool.not_false, Bool.and_self, if_true]
    next => rfl
  rw [eq, waits]
  exact moved

/-- With an order outstanding, one taken into an empty queue waits there. -/
theorem moves_enqueue_behind {out : Outstanding} (has : s.HasTx t) (busy : (s.seq t).outstanding = some out)
    (empty : (s.seq t).queue = []) (o : Order) (owner : OrderOwner) :
    Moves t s (s.enqueue t o owner) { s.seq t with queue := [{ order := o, owner := owner }] } ((s.prot t).ordered o) := by
  obtain ⟨w, eq, -, moved⟩ := moves_enqueue_empty has empty o owner
  have waits : w.trySend t = w := by
    unfold State.trySend
    simp only [moved.seq has, busy]
  rw [eq, waits]
  exact moved

/-! ## MUTE and quench, R146 -/

theorem moves_endOutstanding_any (has : s.HasTx t) (e : OrderEnd) :
    ∃ l, Moves t s (s.endOutstanding t e) { s.seq t with outstanding := none, lastOrder := l } (s.prot t) := by
  cases h : (s.seq t).outstanding with
  | none =>
    rw [moves_endOutstanding_none h]
    refine ⟨(s.seq t).lastOrder, ?_⟩
    have same := Moves.refl t s
    rw [← h]
    exact same
  | some o => exact ⟨_, moves_endOutstanding has h e⟩

/-- A MUTE goes ahead of every other order. -/
theorem moves_takeMute (has : s.HasTx t) (owner : OrderOwner) :
    ∃ l, Moves t s (s.takeMute t owner) (Sequencer.sends { s.seq t with queue := [], deferred := [], lastOrder := l } .mute owner s.clock)
      ((s.prot t).ordered .mute) := by
  unfold State.takeMute
  dsimp only
  obtain ⟨l, ended⟩ := moves_endOutstanding_any has (s := s) .superseded
  obtain ⟨l', discarded⟩ := moves_discardOrders (ended.hasTx has)
  rw [ended.seq has, ended.prot has] at discarded
  have emptied := ended.trans discarded
  have commanded := emptied.trans (moves_commandOrder t _ .mute)
  rw [emptied.seq has, emptied.prot has] at commanded
  have sent := commanded.trans (moves_sendFrame t _ { order := .mute, owner := owner })
  rw [commanded.seq has, commanded.prot has, commanded.clock] at sent
  exact ⟨l', sent⟩

/-- A quench leaves its MUTE outstanding and its RF_OFF behind it. -/
theorem moves_takeQuench (has : s.HasTx t) :
    ∃ l, Moves t s (s.takeQuench t)
      { Sequencer.sends { s.seq t with queue := [], deferred := [], lastOrder := l } .mute .quench s.clock with
        queue := [{ order := .rfOff (s.rampDown t), owner := .quench }] }
      (((s.prot t).ordered .mute).ordered (.rfOff (s.rampDown t))) := by
  unfold State.takeQuench
  obtain ⟨l, muted⟩ := moves_takeMute has .quench
  have queued := muted.trans (moves_enqueue_behind (muted.hasTx has) (by rw [muted.seq has]; rfl) (by rw [muted.seq has]; rfl)
    (.rfOff (s.rampDown t)) .quench)
  rw [muted.seq has, muted.prot has] at queued
  exact ⟨l, queued⟩

theorem moves_muteFor (has : s.HasTx t) (origin : MuteOrigin) (owner : OrderOwner) (notice : Option Nat) :
    ∃ l, Moves t s (s.muteFor t origin owner notice)
      { (Sequencer.sends { s.seq t with queue := [], deferred := [], lastOrder := l } .mute owner s.clock).entered .muted none with
        mute := some { origin := origin, accepted := false, notice := notice } }
      (((s.prot t).ordered .mute).entered .muted) := by
  unfold State.muteFor
  dsimp only
  obtain ⟨l, muted⟩ := moves_takeMute has owner
  have entered := muted.trans (moves_enterSeq (muted.hasTx has) .muted none)
  rw [muted.seq has, muted.prot has] at entered
  refine ⟨l, ?_⟩
  rw [entered.seq has]
  exact entered.setSeq has _

/-! ## CLEAR_TRIP, R157 -/

theorem moves_clearTrip (has : s.HasTx t) (free : (s.seq t).outstanding = none) (empty : (s.seq t).queue = []) (owner : OrderOwner) :
    Moves t s (s.clearTrip t owner) (((s.seq t).entered .off none).sends .clearTrip owner s.clock) ((s.prot t).entered .off) := by
  have off := moves_enterSeq has .off none
  have sent := off.trans (moves_enqueue_sends (off.hasTx has) (o := .clearTrip) (by rw [off.seq has]; exact free)
    (by rw [off.seq has]; exact empty) rfl owner)
  rw [off.seq has, off.prot has, off.clock] at sent
  exact sent

end TransmitterMoves

end Sys2Proof.Machine

/-! # Requests of the Schedule Executor -/

namespace Sys2Proof.Machine

open Sys2Proof

section ExecutorRequests

variable {s : State} {now b : Nat}

/-! ## EXEC_START, EXEC_HOLD and EXEC_RELEASE -/

theorem State.timeValid_of_now (h : s.now = some now) : s.timeValid = true := by
  by_contra invalid
  rw [State.now_invalid (by simpa using invalid)] at h
  cases h

/-- The season is not over: the day is not past the ACTIVE book's last, or a handover is pending. -/
theorem State.seasonCheck_none (active : s.activeBook = some b)
    (inSeason : now / 86400 ≤ (s.book b).lastDay ∨ s.handoverPending = true) : s.seasonCheck now = s := by
  unfold State.seasonCheck
  simp only [active]
  refine if_neg fun ⟨_, past, nonePending⟩ => ?_
  rcases inSeason with within | pending
  · omega
  · simp [pending] at nonePending

theorem exec_execStart (h : s.ready) (stopped : s.se.state = .stopped) (hnow : s.now = some now) (active : s.activeBook = some b)
    (index : (s.book b).runIndex ≠ none) (scan : s.sb.scanRunning = false) (surveyed : s.mc.surveyed = true)
    (inSeason : now / 86400 ≤ (s.book b).lastDay ∨ s.handoverPending = true) :
    exec .execStart s = .next (State.settled (State.answer { s.received with se := { s.se with state := .running } } 0x40 .ok [])) := by
  have runnable : s.runnable = true := by simp [State.runnable, active, Option.isSome_iff_ne_none.mpr index]
  have pass : s.execStartChecks.find? (fun c => c.1) = none := by
    simp [State.execStartChecks, State.timeValid_of_now hnow, stopped, runnable, scan, surveyed]
  have started : s.received.startExecutor = { s.received with se := { s.se with state := .running } } := by
    unfold State.startExecutor
    have hnow' : State.now { s.received with se := { s.received.se with state := .running } } = some now := hnow
    simp only [hnow']
    exact State.seasonCheck_none (s := { s.received with se := { s.received.se with state := .running } }) active inSeason
  show execExecStart s = _
  rw [← started]
  exact hostRequest_accepted h pass

theorem exec_execStart_noTime (h : s.ready) (invalid : s.timeValid = false) :
    exec .execStart s = .next (s.received.answer 0x40 .noTime []) := by
  have refused : s.execStartChecks.find? (fun c => c.1) = some (true, .noTime) := by simp [State.execStartChecks, invalid]
  show execExecStart s = _
  exact hostRequest_refused h refused

theorem exec_execHold (h : s.ready) (running : s.se.state = .running) :
    exec .execHold s = .next (State.answer { s.received with se := { s.se with state := .held } } 0x42 .ok []) := by
  show execExecHold s = _
  exact hostRequest_handled h (checks := fun u => [(u.se.state != .running, .state)]) (by simp [running])

theorem exec_execRelease (h : s.ready) (held : s.se.state = .held) :
    exec .execRelease s = .next (State.settled (s.received.releaseExecutor.answer 0x43 .ok [])) := by
  show execExecRelease s = _
  exact hostRequest_accepted h (checks := fun u => [(u.se.state != .held, .state)]) (by simp [held])


theorem State.releaseExecutor_invalid (invalid : s.timeValid = false) (noRebuild : s.se.rebuild = false) :
    s.releaseExecutor = { s with se := { s.se with state := .running } } := by
  unfold State.releaseExecutor
  have noTime : State.now { s with se := { s.se with rebuild := false } } = none := State.now_invalid invalid
  simp only [noRebuild, Bool.false_eq_true, if_false, noTime]

/-- Without a rebuild the state that EXEC_RELEASE works on is the one it finds. -/
theorem State.rebuild_none (h : s.se.rebuild = false) : { s with se := { s.se with rebuild := false } } = s := by
  rw [← h]

theorem State.releaseExecutor_valid (hnow : s.now = some now) (noRebuild : s.se.rebuild = false) :
    s.releaseExecutor = State.executorPass
      { s.releasePlans now with se := { (s.releasePlans now).se with state := .running } } now false := by
  unfold State.releaseExecutor
  simp only [noRebuild, Bool.false_eq_true, if_false]
  rw [State.rebuild_none noRebuild, hnow]

/-- Settles O29. -/
theorem executor_starts_holds_and_is_released : Obligations.executor_starts_holds_and_is_released := by
  refine fun s h => ⟨fun b now stopped hnow active index scan surveyed inSeason =>
    exec_execStart h stopped hnow active index scan surveyed inSeason, exec_execStart_noTime h, exec_execHold h,
    fun held invalid noRebuild => ?_, fun now held hnow noRebuild => ⟨s.received.releasePlans now, ?_, rfl⟩⟩
  · rw [exec_execRelease h held, State.releaseExecutor_invalid (s := s.received) invalid noRebuild]
    rfl
  · rw [exec_execRelease h held, State.releaseExecutor_valid (s := s.received) hnow noRebuild]

/-! ## EXEC_STOP -/

/-- What EXEC_STOP may do to the executor: PLANNED records are dropped, held routes given up, and all else runs on (R70). -/
structure Winds (s u : State) : Prop where
  state : u.se.state = s.se.state
  changesLength : u.se.changeovers.length = s.se.changeovers.length
  dutiesLength : u.se.duties.length = s.se.duties.length
  change : ∀ k, u.change k = s.change k ∨ (u.change k = none ∧ ∃ c, s.change k = some c ∧ c.phase = .planned)
  current : ∀ k, (u.duty k).current = (s.duty k).current
  mode : ∀ k, (u.duty k).mode = (s.duty k).mode
  held : ∀ k, (s.duty k).heldRoute = none → (u.duty k).heldRoute = none

theorem Winds.refl (s : State) : Winds s s := ⟨rfl, rfl, rfl, fun _ => .inl rfl, fun _ => rfl, fun _ => rfl, fun _ h => h⟩

theorem Winds.trans {s u v : State} (first : Winds s u) (second : Winds u v) : Winds s v where
  state := second.state.trans first.state
  changesLength := second.changesLength.trans first.changesLength
  dutiesLength := second.dutiesLength.trans first.dutiesLength
  change k := by
    rcases second.change k with same | ⟨gone, c, hc, planned⟩
    · rw [same]
      exact first.change k
    · rcases first.change k with same' | ⟨gone', -⟩
      · exact .inr ⟨gone, c, same' ▸ hc, planned⟩
      · rw [hc] at gone'
        cases gone'
  current k := (second.current k).trans (first.current k)
  mode k := (second.mode k).trans (first.mode k)
  held k h := second.held k (first.held k h)

/-- A duty changed at one transmitter reads elsewhere as before. -/
theorem State.duty_updateDuty_cases (s : State) (t k : Nat) (f : Duty → Duty) :
    (s.updateDuty t f).duty k = s.duty k ∨ (k = t ∧ (s.updateDuty t f).duty k = f (s.duty k)) := by
  by_cases hk : k = t
  · subst hk
    by_cases inside : 1 ≤ k ∧ k ≤ s.se.duties.length
    · exact .inr ⟨rfl, s.duty_setDuty k _ inside.1 inside.2⟩
    · refine .inl ?_
      unfold State.updateDuty State.setDuty State.duty nth setNth
      rcases Nat.eq_zero_or_pos k with rfl | pos
      · rfl
      · have beyond : s.se.duties.length ≤ k - 1 := by omega
        simp only [List.set_eq_of_length_le beyond, ite_self]
  · exact .inl (s.duty_setDuty_ne t k _ hk)

theorem State.updateDuty_winds (s : State) (t : Nat) (f : Duty → Duty) (current : ∀ d, (f d).current = d.current)
    (mode : ∀ d, (f d).mode = d.mode) (held : ∀ d, d.heldRoute = none → (f d).heldRoute = none) : Winds s (s.updateDuty t f) where
  state := rfl
  changesLength := rfl
  dutiesLength := setNth_length _ _ _
  change _ := .inl rfl
  current k := by
    rcases s.duty_updateDuty_cases t k f with same | ⟨-, new⟩
    · rw [same]
    · rw [new, current]
  mode k := by
    rcases s.duty_updateDuty_cases t k f with same | ⟨-, new⟩
    · rw [same]
    · rw [new, mode]
  held k h := by
    rcases s.duty_updateDuty_cases t k f with same | ⟨-, new⟩
    · rw [same, h]
    · rw [new, held _ h]

theorem State.change_setChange (s : State) (t : Nat) (c : Option Changeover) (h1 : 1 ≤ t) (h2 : t ≤ s.se.changeovers.length) :
    (s.setChange t c).change t = c := nth_setNth_self _ _ _ _ h1 h2

theorem State.change_setChange_ne (s : State) (t k : Nat) (c : Option Changeover) (h : k ≠ t) :
    (s.setChange t c).change k = s.change k := nth_setNth_ne _ _ _ _ _ h

/-- A row above the table has no changeover record. -/
theorem State.change_none_outside (s : State) {t : Nat} (h : ¬(1 ≤ t ∧ t ≤ s.se.changeovers.length)) : s.change t = none := by
  unfold State.change nth
  rcases Nat.eq_zero_or_pos t with rfl | pos
  · rfl
  · have beyond : s.se.changeovers.length ≤ t - 1 := by omega
    rw [if_neg (by omega), List.getD_eq_default _ _ beyond]

theorem State.duty_outside (s : State) {t : Nat} (h : ¬(1 ≤ t ∧ t ≤ s.se.duties.length)) : s.duty t = Duty.reset := by
  unfold State.duty nth
  rcases Nat.eq_zero_or_pos t with rfl | pos
  · rfl
  · have beyond : s.se.duties.length ≤ t - 1 := by omega
    rw [if_neg (by omega), List.getD_eq_default _ _ beyond]

theorem State.releaseReservation_se (s : State) (t a : Nat) : (s.releaseReservation t a).se = s.se := by
  unfold State.releaseReservation
  dsimp only
  split
  · rfl
  · rfl

theorem State.setChange_winds (s : State) {t : Nat} {c : Changeover} (hc : s.change t = some c) (planned : c.phase = .planned) :
    Winds s (s.setChange t none) where
  state := rfl
  changesLength := setNth_length _ _ _
  dutiesLength := rfl
  change k := by
    by_cases hk : k = t
    · subst hk
      by_cases inside : 1 ≤ k ∧ k ≤ s.se.changeovers.length
      · exact .inr ⟨s.change_setChange k none inside.1 inside.2, c, hc, planned⟩
      · rw [s.change_none_outside inside] at hc
        cases hc
    · exact .inl (s.change_setChange_ne t k none hk)
  current _ := rfl
  mode _ := rfl
  held _ h := h

theorem Winds.of_se {s u : State} (h : u.se = s.se) : Winds s u := by
  have change : ∀ k, u.change k = s.change k := fun k => by unfold State.change; rw [h]
  have duty : ∀ k, u.duty k = s.duty k := fun k => by unfold State.duty; rw [h]
  exact ⟨by rw [h], by rw [h], by rw [h], fun k => .inl (change k), fun k => by rw [duty], fun k => by rw [duty],
    fun k hk => by rw [duty, hk]⟩

theorem State.dropPlan_winds (s : State) (t : Nat) : Winds s (s.dropPlan t) := by
  unfold State.dropPlan
  split
  next c hc =>
    split
    next planned =>
      have released := Winds.of_se (s.releaseReservation_se t c.target.antenna)
      have hc' : (s.releaseReservation t c.target.antenna).change t = some c := by
        unfold State.change at hc ⊢
        rwa [s.releaseReservation_se]
      exact (released.trans (State.setChange_winds _ hc' planned)).trans
        (State.updateDuty_winds _ t _ (fun _ => rfl) (fun _ => rfl) fun _ h => h)
    next => exact Winds.refl s
  next => exact Winds.refl s

theorem State.dropPlan_change (s : State) (t : Nat) (c : Changeover) (h : (s.dropPlan t).change t = some c) : c.phase ≠ .planned := by
  intro planned
  have wound := (s.dropPlan_winds t).change t
  rcases wound with same | ⟨gone, -⟩
  · have hc : s.change t = some c := same ▸ h
    by_cases inside : 1 ≤ t ∧ t ≤ s.se.changeovers.length
    · have dropped : (s.dropPlan t).change t = none := by
        unfold State.dropPlan
        simp only [hc, planned, if_true]
        refine State.change_setChange _ t none inside.1 ?_
        rw [s.releaseReservation_se]
        exact inside.2
      rw [dropped] at h
      cases h
    · rw [s.change_none_outside inside] at hc
      cases hc
  · rw [gone] at h
    cases h

theorem State.releaseHeld_winds (s : State) (t : Nat) : Winds s (s.releaseHeld t) := by
  unfold State.releaseHeld
  split
  · have released := State.updateDuty_winds s t (fun d => { d with heldRoute := none, settle := .park }) (fun _ => rfl) (fun _ => rfl)
      fun _ _ => rfl
    exact released.trans (Winds.of_se (State.postOnce_se _ _))
  · exact Winds.refl s

theorem State.releaseHeld_none (s : State) (t : Nat) : ((s.releaseHeld t).duty t).heldRoute = none := by
  unfold State.releaseHeld
  split
  next held =>
    rcases s.duty_updateDuty_cases t t (fun d => { d with heldRoute := none, settle := .park }) with same | ⟨-, new⟩
    · exfalso
      have inside : 1 ≤ t ∧ t ≤ s.se.duties.length := by
        by_contra outside
        rw [s.duty_outside outside] at held
        cases held
      have written := s.duty_setDuty t { s.duty t with heldRoute := none, settle := .park } inside.1 inside.2
      have gone : (s.duty t).heldRoute = none := by
        rw [← same]
        exact congrArg Duty.heldRoute written
      rw [gone] at held
      cases held
    · exact congrArg Duty.heldRoute new
  next free =>
    simpa using free

/-- A pass over rows that only winds down, and brings about `Q` at each of them for good, has it at all of them. -/
theorem foldl_winds {f : State → Nat → State} (winds : ∀ u n, Winds u (f u n)) {Q : State → Nat → Prop}
    (reached : ∀ u n, Q (f u n) n) (stays : ∀ u v n, Winds u v → Q u n → Q v n) (ns : List Nat) (s : State) :
    Winds s (ns.foldl f s) ∧ ∀ n ∈ ns, Q (ns.foldl f s) n := by
  induction ns generalizing s with
  | nil => exact ⟨Winds.refl s, fun n hn => by cases hn⟩
  | cons m ns ih =>
    obtain ⟨rest, hits⟩ := ih (f s m)
    refine ⟨(winds s m).trans rest, fun n hn => ?_⟩
    rcases List.mem_cons.mp hn with rfl | later
    · exact stays _ _ _ rest (reached s n)
    · exact hits n later

/-- The row has no PLANNED record. -/
def State.Unplanned (s : State) (t : Nat) : Prop := ∀ c, s.change t = some c → c.phase ≠ .planned

theorem State.Unplanned.winds {s u : State} {t : Nat} (h : s.Unplanned t) (w : Winds s u) : u.Unplanned t := by
  intro c hc
  rcases w.change t with same | ⟨gone, -⟩
  · exact h c (same ▸ hc)
  · rw [gone] at hc
    cases hc

/-- A route stays given up. -/
theorem Winds.unheld {s u : State} {t : Nat} (w : Winds s u) (h : (s.duty t).heldRoute = none) : (u.duty t).heldRoute = none :=
  w.held t h

/-- EXEC_STOP winds down, and leaves no PLANNED record and no held route. -/
theorem State.stopExecutor_winds (s : State) :
    Winds { s with se := { s.se with state := .stopped } } s.stopExecutor ∧
    (∀ t ∈ upTo 12, s.stopExecutor.Unplanned t) ∧ (∀ t ∈ upTo 12, (s.stopExecutor.duty t).heldRoute = none) := by
  obtain ⟨dropped, unplanned⟩ := foldl_winds State.dropPlan_winds (Q := State.Unplanned) State.dropPlan_change
    (fun u v n w h => h.winds w) (upTo 12) { s with se := { s.se with state := .stopped } }
  obtain ⟨released, unheld⟩ := foldl_winds State.releaseHeld_winds (Q := fun u n => (u.duty n).heldRoute = none)
    State.releaseHeld_none (fun u v n w h => w.unheld h) (upTo 12) (State.dropPlans { s with se := { s.se with state := .stopped } })
  exact ⟨dropped.trans released, fun t ht => (unplanned t ht).winds released, unheld⟩

theorem exec_execStop (h : s.ready) (going : s.se.state ≠ .stopped) :
    exec .execStop s = .next (State.settled (s.received.stopExecutor.answer 0x41 .ok [])) := by
  show execExecStop s = _
  exact hostRequest_accepted h (checks := fun u => [(u.se.state == .stopped, .state)]) (by simp [going])

/-! ## OCCURRENCE_SKIP, R76 -/

theorem State.handleNotice_occurrenceSkip {t entryId day : Nat} (held : s.lc.held.isSome = true) :
    s.handleNotice (.served (.occurrenceSkip t entryId day)) = s.occurrenceSkipServed t entryId day := by
  show (if s.lc.held.isSome then s.occurrenceSkipServed t entryId day else s) = _
  rw [if_pos held]

theorem State.skipNamed_unplanned {t entryId day : Nat} {o : Occurrence} (named : s.namedOccurrence t entryId day = some o)
    (none_change : s.change t = none) :
    s.skipNamed t entryId day = { s with se := { s.se with
      skip := if s.skipHas t entryId day then s.se.skip
        else s.se.skip ++ [{ tx := t, entryId := entryId, day := day, endAt := o.endAt }] } } := by
  have other : s.changeFor t entryId day = false := by simp [State.changeFor, none_change]
  unfold State.skipNamed
  simp only [named, other, Bool.false_eq_true, if_false]
  split
  · rfl
  · rfl

theorem State.occurrenceSkipServed_accepted {t entryId day : Nat} {o : Occurrence}
    (first : (s.skipFirstChecks t day).find? (fun c => c.1) = none) (named : s.namedOccurrence t entryId day = some o)
    (toCome : ∀ h, (s.duty t).handledThrough = some h → h < o.startAt) (notCurrent : s.occurrenceCurrent t entryId day = false)
    (none_change : s.change t = none) (room : s.se.skip.length < 16) :
    s.occurrenceSkipServed t entryId day = (s.skipNamed t entryId day).answer 0x47 .ok [] := by
  have later : laterThan (s.duty t).handledThrough o.startAt = true := by
    unfold laterThan
    split
    next h hh => exact decide_eq_true (toCome h hh)
    next => rfl
  have other : s.changeFor t entryId day = false := by simp [State.changeFor, none_change]
  have unhandled : s.occurrenceHandled t entryId day = false := by simp [State.occurrenceHandled, named, later]
  have pass : (s.skipChecks t entryId day).find? (fun c => c.1) = none := by
    have few : ¬16 ≤ s.se.skip.length := by omega
    rw [State.skipChecks, List.find?_append, first]
    simp [named, unhandled, notCurrent, other, few]
  exact State.handle_accepted pass

theorem exec_occurrenceSkip {t entryId day : Nat} {o : Occurrence} (h : s.ready) (h1 : 1 ≤ t) (ht : t ≤ s.params.txCount)
    (hday : day ≤ 65535) (active : s.activeBook ≠ none) (named : s.namedOccurrence t entryId day = some o)
    (toCome : ∀ h, (s.duty t).handledThrough = some h → h < o.startAt) (notCurrent : s.occurrenceCurrent t entryId day = false)
    (none_change : s.change t = none) (room : s.se.skip.length < 16) (quiet : s.notices = []) (idle : s.ss.operation = none) :
    exec (.occurrenceSkip t entryId day) s = .next (((s.received.hold 0x47).skipNamed t entryId day).answer 0x47 .ok []) := by
  have first : (s.skipFirstChecks t day).find? (fun c => c.1) = none := by
    have hday' : ¬65535 < day := by omega
    simp [State.skipFirstChecks, badTx_eq_false h1 ht, hday', active]
  have read : (s.received.hold 0x47).readEntries (.occurrenceSkip t entryId day) =
      (s.received.hold 0x47).serve (.occurrenceSkip t entryId day) := by
    unfold State.readEntries State.requestRead
    rw [show (s.received.hold 0x47).ss.operation = none from idle]
  have notices : ((s.received.hold 0x47).serve (.occurrenceSkip t entryId day)).notices = [.served (.occurrenceSkip t entryId day)] := by
    show s.notices ++ _ = _
    rw [quiet, List.nil_append]
  have served : State.handleNotice { (s.received.hold 0x47).serve (.occurrenceSkip t entryId day) with notices := [] }
      (.served (.occurrenceSkip t entryId day)) = ((s.received.hold 0x47).skipNamed t entryId day).answer 0x47 .ok [] := by
    have same : { (s.received.hold 0x47).serve (.occurrenceSkip t entryId day) with notices := [] } = s.received.hold 0x47 := by
      simp only [State.serve, State.post, State.hold, State.received, quiet]
    rw [same, State.handleNotice_occurrenceSkip rfl]
    exact State.occurrenceSkipServed_accepted (s := s.received.hold 0x47) first named toCome notCurrent none_change room
  have done : ((s.received.hold 0x47).skipNamed t entryId day).notices = [] := by
    rw [State.skipNamed_unplanned (s := s.received.hold 0x47) named none_change]
    exact quiet
  have settled := State.settled_one notices (by rw [served]; exact done)
  rw [served] at settled
  show execOccurrenceSkip t entryId day s = _
  unfold execOccurrenceSkip
  rw [hostRequest_accepted h (show (s.received.skipFirstChecks t day).find? _ = none from first), read, settled]

/-- Settles O30. -/
theorem exec_stop_and_occurrence_skip_take_effect : Obligations.exec_stop_and_occurrence_skip_take_effect := by
  refine ⟨fun s h sized going => ⟨s.received.stopExecutor, exec_execStop h going, ?_⟩,
    fun t entryId day o s h h1 ht hday active named toCome notCurrent none_change room quiet idle => ?_⟩
  · obtain ⟨-, -, -, -, -, ⟨duties, changeovers⟩, -⟩ := State.sized_iff.mp sized
    obtain ⟨wound, unplanned, unheld⟩ := s.received.stopExecutor_winds
    refine ⟨wound.state, fun t c hc => ⟨?_, ?_⟩, fun t c hc begun => ?_, fun t => ⟨?_, wound.current t, wound.mode t⟩⟩
    · by_cases inside : 1 ≤ t ∧ t ≤ 12
      · exact unplanned t (mem_upTo.mpr inside) c hc
      · have length : s.received.stopExecutor.se.changeovers.length = 12 := wound.changesLength.trans changeovers
        rw [State.change_none_outside _ (by rw [length]; exact inside)] at hc
        cases hc
    · rcases wound.change t with same | ⟨gone, -⟩
      · exact same ▸ hc
      · rw [gone] at hc
        cases hc
    · rcases wound.change t with same | ⟨-, d, hd, planned⟩
      · exact same.trans hc
      · have eq : some d = some c := hd.symm.trans hc
        cases eq
        exact absurd planned begun
    · by_cases inside : 1 ≤ t ∧ t ≤ 12
      · exact unheld t (mem_upTo.mpr inside)
      · refine wound.held t ?_
        show (s.duty t).heldRoute = none
        rw [State.duty_outside s (by rw [duties]; exact inside)]
        rfl
  · rw [exec_occurrenceSkip h h1 ht hday active named toCome notCurrent none_change room quiet idle,
      State.skipNamed_unplanned (s := s.received.hold 0x47) named none_change]
    rfl

end ExecutorRequests

end Sys2Proof.Machine

/-! # TX_MANUAL and TX_AUTO -/

namespace Sys2Proof.Machine

open Sys2Proof

section DutyModes

variable {s : State} {t : Nat}

/-! ## TX_MANUAL, R74 -/

theorem State.changeBegun_eq_false (h : ∀ c, s.change t = some c → c.phase = .planned) : s.changeBegun t = false := by
  unfold State.changeBegun
  split
  next c hc => simp [h c hc]
  next => rfl

theorem exec_txManual (h : s.ready) (h1 : 1 ≤ t) (ht : t ≤ s.params.txCount)
    (planned : ∀ c, s.change t = some c → c.phase = .planned) :
    exec (.txManual t) s = .next (State.settled ((s.received.toManual t).answer 0x45 .ok [])) := by
  have pass : (s.txManualChecks t).find? (fun c => c.1) = none := by
    simp [State.txManualChecks, badTx_eq_false h1 ht, State.changeBegun_eq_false planned]
  show execTxManual t s = _
  exact hostRequest_accepted h pass

theorem State.toManual_of_manual (h : (s.duty t).mode = .manual) : s.toManual t = s := if_pos h

/-- What the giving of a transmitter to the host, or a part of it, changes: the duty and the record of that one, and claims. -/
structure OnlyDuty (t : Nat) (s u : State) : Prop where
  dutiesLength : u.se.duties.length = s.se.duties.length
  changesLength : u.se.changeovers.length = s.se.changeovers.length
  others : ∀ r, r ≠ t → u.duty r = s.duty r ∧ u.change r = s.change r
  tq : u.tq = s.tq
  movers : u.mc.movers = s.mc.movers
  pt : u.pt = s.pt

theorem OnlyDuty.refl (t : Nat) (s : State) : OnlyDuty t s s := ⟨rfl, rfl, fun _ _ => ⟨rfl, rfl⟩, rfl, rfl, rfl⟩

theorem OnlyDuty.trans {u v : State} (first : OnlyDuty t s u) (second : OnlyDuty t u v) : OnlyDuty t s v where
  dutiesLength := second.dutiesLength.trans first.dutiesLength
  changesLength := second.changesLength.trans first.changesLength
  others r hr := ⟨(second.others r hr).1.trans (first.others r hr).1, (second.others r hr).2.trans (first.others r hr).2⟩
  tq := second.tq.trans first.tq
  movers := second.movers.trans first.movers
  pt := second.pt.trans first.pt

theorem State.updateDuty_onlyDuty (s : State) (t : Nat) (f : Duty → Duty) : OnlyDuty t s (s.updateDuty t f) where
  dutiesLength := setNth_length _ _ _
  changesLength := rfl
  others _ hr := ⟨s.duty_setDuty_ne t _ _ hr, rfl⟩
  tq := rfl
  movers := rfl
  pt := rfl

theorem State.setChange_onlyDuty (s : State) (t : Nat) (c : Option Changeover) : OnlyDuty t s (s.setChange t c) where
  dutiesLength := rfl
  changesLength := setNth_length _ _ _
  others _ hr := ⟨rfl, s.change_setChange_ne t _ c hr⟩
  tq := rfl
  movers := rfl
  pt := rfl

theorem State.releaseReservation_onlyDuty (s : State) (t a : Nat) : OnlyDuty t s (s.releaseReservation t a) := by
  unfold State.releaseReservation
  dsimp only
  split
  · exact ⟨rfl, rfl, fun _ _ => ⟨rfl, rfl⟩, rfl, rfl, rfl⟩
  · exact OnlyDuty.refl t s

theorem State.dropPlan_onlyDuty (s : State) (t : Nat) : OnlyDuty t s (s.dropPlan t) := by
  unfold State.dropPlan
  split
  next c _ =>
    split
    next =>
      exact ((s.releaseReservation_onlyDuty t _).trans (State.setChange_onlyDuty _ t none)).trans (State.updateDuty_onlyDuty _ t _)
    next => exact OnlyDuty.refl t s
  next => exact OnlyDuty.refl t s

theorem State.forgetEntry_onlyDuty (s : State) (t : Nat) : OnlyDuty t s (s.forgetEntry t) := by
  unfold State.forgetEntry
  split
  · unfold State.recordOutcome
    exact s.updateDuty_onlyDuty t _
  · exact OnlyDuty.refl t s

theorem State.forgetEntry_change (s : State) (t k : Nat) : (s.forgetEntry t).change k = s.change k := by
  unfold State.forgetEntry
  split
  · rfl
  · rfl

theorem State.recoveryTest_onlyDuty (s : State) (t : Nat) : OnlyDuty t s (s.recoveryTest t) := by
  unfold State.recoveryTest
  split
  · exact ⟨rfl, rfl, fun _ _ => ⟨rfl, rfl⟩, rfl, rfl, rfl⟩
  · exact OnlyDuty.refl t s

theorem State.recoveryTest_se (s : State) (t : Nat) : (s.recoveryTest t).se = s.se := by
  unfold State.recoveryTest
  split
  · rfl
  · rfl

/-- The host has the transmitter: no current entry, no held route and no record are left to it. -/
theorem State.toManual_of_auto (h : (s.duty t).mode = .auto) (h1 : 1 ≤ t) (duties : t ≤ s.se.duties.length)
    (planned : ∀ c, s.change t = some c → c.phase = .planned) :
    OnlyDuty t s (s.toManual t) ∧ ((s.toManual t).duty t).mode = .manual ∧ ((s.toManual t).duty t).current = none ∧
      ((s.toManual t).duty t).heldRoute = none ∧ (s.toManual t).change t = none := by
  have dropped := (s.dropPlan_onlyDuty t).trans (State.forgetEntry_onlyDuty _ t)
  have given := dropped.trans (State.updateDuty_onlyDuty _ t fun d =>
    { d with mode := .manual, current := none, heldRoute := none, settle := .none })
  have unfolded : s.toManual t = (((s.dropPlan t).forgetEntry t).updateDuty t fun d =>
      { d with mode := .manual, current := none, heldRoute := none, settle := .none }).recoveryTest t := by
    unfold State.toManual
    rw [if_neg (by simp [h])]
  have duty : (s.toManual t).duty t = { ((s.dropPlan t).forgetEntry t).duty t with
      mode := .manual, current := none, heldRoute := none, settle := .none } := by
    rw [unfolded, State.duty, State.recoveryTest_se]
    exact State.duty_setDuty _ t _ h1 (by rw [dropped.dutiesLength]; exact duties)
  have change : (s.toManual t).change t = none := by
    rw [unfolded, State.change, State.recoveryTest_se]
    show ((s.dropPlan t).forgetEntry t).change t = none
    rw [State.forgetEntry_change]
    cases hc : (s.dropPlan t).change t with
    | none => rfl
    | some c =>
      have begun := s.dropPlan_change t c hc
      rcases (s.dropPlan_winds t).change t with same | ⟨gone, -⟩
      · exact absurd (planned c (same ▸ hc)) begun
      · rw [gone] at hc
        cases hc
  refine ⟨unfolded ▸ given.trans (State.recoveryTest_onlyDuty _ t), ?_, ?_, ?_, change⟩
  · rw [duty]
  · rw [duty]
  · rw [duty]

/-! ## TX_AUTO, R75 -/

theorem exec_txAuto (h : s.ready) (h1 : 1 ≤ t) (ht : t ≤ s.params.txCount) :
    exec (.txAuto t) s = .next (State.settled ((s.received.toAuto t).answer 0x46 .ok [])) := by
  show execTxAuto t s = _
  exact hostRequest_accepted h (checks := fun u => [(u.badTx t, .range)])
    (by show List.find? _ [(s.badTx t, Status.range)] = none
        simp [badTx_eq_false h1 ht])

/-- The state in which the executor has a transmitter with nothing on air. -/
def State.takenOver (s : State) (t : Nat) : State := s.setDuty t { s.duty t with mode := .auto, handledThrough := none }

theorem State.toAuto_fault (h : (s.duty t).mode = .manual) (fault : (s.seq t).state = .fault) :
    s.toAuto t = (s.takenOver t).clearTrip t .sequencer := by
  unfold State.toAuto
  rw [if_neg (by simp [h])]
  exact if_pos fault

theorem State.toAuto_onAir (h : (s.duty t).mode = .manual) (sound : (s.seq t).state ≠ .fault) (onAir : s.onAirNow t = true) :
    s.toAuto t = (s.takenOver t).updateDuty t fun d => { d with current := some ((s.takenOver t).adoptedEntry t) } := by
  unfold State.toAuto
  rw [if_neg (by simp [h])]
  exact (if_neg sound).trans (if_pos onAir)

theorem State.toAuto_silent (h : (s.duty t).mode = .manual) (sound : (s.seq t).state ≠ .fault) (silent : s.onAirNow t = false) :
    s.toAuto t = s.takenOver t := by
  unfold State.toAuto
  rw [if_neg (by simp [h])]
  exact (if_neg sound).trans (if_neg (show ¬s.onAirNow t = true by simp [silent]))

theorem State.onAirNow_not_fault (h : s.onAirNow t = true) : (s.seq t).state ≠ .fault := by
  intro fault
  simp [State.onAirNow, fault] at h

/-- The entry of a transmitter on air by its route, R75. -/
theorem State.adoptedEntry_routed {a now freq : Nat} {v : Int} (route : s.routeAntenna t = some a)
    (slew : (s.mover (slewDrive a)).confirmedAt = some (.slew v)) (hnow : s.now = some now) (tuned : (s.seq t).tunedFreq = some freq) :
    (s.takenOver t).adoptedEntry t = { entryId := 0, day := none, startAt := none, endAt := now, antenna := some a, onAlternate := false
                                       freq := freq, power := (s.prot t).commanded, slew := v
                                       reversed := (s.mover (reverserOf a)).confirmedAt == some .rev, feed := (s.seq t).lastFeed
                                       alternate := none } := by
  have route' : (s.takenOver t).routeAntenna t = some a := route
  have slew' : ((s.takenOver t).mover (slewDrive a)).confirmedAt = some (.slew v) := slew
  have now' : (s.takenOver t).now = some now := hnow
  have tuned' : ((s.takenOver t).seq t).tunedFreq = some freq := tuned
  unfold State.adoptedEntry
  simp only [route', slew', now', tuned', Option.getD_some]
  rfl

/-- Two writes of a duty are the last one. -/
theorem State.setDuty_setDuty (s : State) (t : Nat) (d d' : Duty) : (s.setDuty t d).setDuty t d' = s.setDuty t d' := by
  simp only [State.setDuty, setNth_setNth]

/-- Settles O31. -/
theorem transmitter_duty_moves_between_host_and_executor : Obligations.transmitter_duty_moves_between_host_and_executor := by
  refine ⟨fun t s h sized h1 h12 ht planned => ⟨fun manual => ?_, fun auto => ⟨s.received.toManual t, exec_txManual h h1 ht planned, ?_⟩⟩,
    fun t s h sized h1 h12 ht manual => ⟨fun sound silent => ?_, fun a v now freq onAir route slew hnow tuned => ?_,
      fun fault free empty => ⟨s.received.toAuto t, exec_txAuto h h1 ht, ?_⟩⟩⟩
  · rw [exec_txManual h h1 ht planned, State.toManual_of_manual (s := s.received) manual]
  · obtain ⟨-, -, -, -, -, ⟨duties, -⟩, -⟩ := State.sized_iff.mp sized
    obtain ⟨only, mode, current, held, change⟩ := State.toManual_of_auto (s := s.received) auto h1 (by rw [State.received_se]; omega) planned
    exact ⟨mode, current, held, change, only.others, only.tq, only.movers, only.pt⟩
  · rw [exec_txAuto h h1 ht, State.toAuto_silent (s := s.received) manual sound silent]
    rfl
  · obtain ⟨-, -, -, -, -, ⟨duties, -⟩, -⟩ := State.sized_iff.mp sized
    have read : (s.received.takenOver t).duty t = { s.duty t with mode := .auto, handledThrough := none } :=
      State.duty_setDuty _ t _ h1 (by rw [State.received_se]; omega)
    rw [exec_txAuto h h1 ht, State.toAuto_onAir (s := s.received) manual (State.onAirNow_not_fault onAir) onAir,
      State.adoptedEntry_routed (s := s.received) route slew hnow tuned, State.updateDuty, read, State.takenOver, State.setDuty_setDuty]
    rfl
  · obtain ⟨-, -, -, -, -, ⟨duties, -⟩, -⟩ := State.sized_iff.mp sized
    have has : (s.received.takenOver t).HasTx t :=
      have all := sized.hasTx h1 h12
      ⟨h1, all.sequencers, all.protections⟩
    have read : (s.received.takenOver t).duty t = { s.duty t with mode := .auto, handledThrough := none } :=
      State.duty_setDuty _ t _ h1 (by rw [State.received_se]; omega)
    have cleared := moves_clearTrip has (show (s.seq t).outstanding = none from free) (show (s.seq t).queue = [] from empty) .sequencer
    rw [State.toAuto_fault (s := s.received) manual fault]
    have duty : ((s.received.takenOver t).clearTrip t .sequencer).duty t = { s.duty t with mode := .auto, handledThrough := none } := by
      rw [State.duty, cleared.se]
      exact read
    rw [duty, cleared.seq has]
    exact ⟨rfl, rfl, rfl, rfl⟩

end DutyModes

end Sys2Proof.Machine

/-! # Transmitter orders of the host -/

namespace Sys2Proof.Machine

open Sys2Proof

section HostOrders

variable {s : State} {t : Nat} {r : TxRecord}

/-! ## What the taking of an order leaves -/

/-- The protection record with a limit computed (R162). -/
def Protection.limited (p : Protection) (limit : Nat) : Protection :=
  { p with limit := some limit, floor := ceilDiv limit 4, folded := false, lastFold := none, restoreRun := none }

theorem moves_setLimit (t : Nat) (s : State) (limit : Nat) :
    Moves t s (s.setLimit t limit) (s.seq t) ((s.prot t).limited limit) := moves_setProt t s _

theorem State.rampUp_of (h : s.tx t = some r) : s.rampUp t = r.rampUpDs := by simp [State.rampUp, h]

theorem State.rampDown_of (h : s.tx t = some r) : s.rampDown t = r.rampDownDs := by simp [State.rampDown, h]

/-- RF_ON taken while the line is OFF: RAMP_UP, with the order waiting for the line. -/
theorem moves_takeRfOn_waits (has : s.HasTx t) (empty : (s.seq t).queue = []) (off : (s.permit t).line = false)
    (quiet : (s.seq t).requesting = false) (power feed : Nat) (owner : OrderOwner) :
    Moves t s (s.takeRfOn t power feed owner)
      { (s.seq t).entered .rampUp (some (s.clock + (2 * s.rampUp t + 10) * 100)) with
        lastFeed := feed, queue := [{ order := .rfOn power (s.rampUp t) feed, owner := owner }] }
      (Protection.ordered { (s.prot t).entered .rampUp with ratio := none, warn := false } (.rfOn power (s.rampUp t) feed)) := by
  unfold State.takeRfOn
  dsimp only
  have permits := State.enterSeq_permits off quiet .rampUp (some (s.clock + (2 * s.rampUp t + 10) * 100))
  have entered := moves_enterSeq has .rampUp (some (s.clock + (2 * s.rampUp t + 10) * 100))
  generalize s.enterSeq t .rampUp (some (s.clock + (2 * s.rampUp t + 10) * 100)) = u at permits entered ⊢
  rw [entered.seq has]
  have fed := entered.setSeq has { (s.seq t).entered .rampUp (some (s.clock + (2 * s.rampUp t + 10) * 100)) with lastFeed := feed }
  rw [fed.prot has]
  have unmeasured := fed.setProt has { (s.prot t).entered .rampUp with ratio := none, warn := false }
  have line : (State.permit (State.setProt (State.setSeq u t { (s.seq t).entered .rampUp
      (some (s.clock + (2 * s.rampUp t + 10) * 100)) with lastFeed := feed }) t
      { (s.prot t).entered .rampUp with ratio := none, warn := false }) t).line = false := by
    show (nth u.pu.rows _ t).line = false
    rw [permits]
    exact off
  generalize State.setProt (State.setSeq u t _) t _ = w at unmeasured line ⊢
  have ramp : w.rampUp t = s.rampUp t := by
    unfold State.rampUp
    rw [unmeasured.tx]
  rw [ramp]
  have queued := unmeasured.trans (moves_enqueue_waits (unmeasured.hasTx has) (by rw [unmeasured.seq has]; exact empty)
    (o := .rfOn power (s.rampUp t) feed) rfl line owner)
  rw [unmeasured.seq has, unmeasured.prot has] at queued
  exact queued

/-- A tune is taken: TUNING with its timer. -/
theorem moves_enterTuning (has : s.HasTx t) (mode : TuneMode) (freq : Nat) (ant : Option Nat) (ds : Nat) :
    Moves t s (s.enterTuning t mode freq ant ds)
      { (s.seq t).entered .tuning (some (s.clock + 2 * ds * 100)) with
        tuneMode := mode, tuneFreq := freq, tuneAnt := ant
        feedback := if mode = .preset then ant.map fun a => (a, channelOf freq) else none }
      ((s.prot t).entered .tuning) := by
  unfold State.enterTuning
  dsimp only
  have entered := moves_enterSeq has .tuning (some (s.clock + 2 * ds * 100))
  rw [entered.seq has]
  exact entered.setSeq has _

theorem State.enterTuning_permits (off : (s.permit t).line = false) (quiet : (s.seq t).requesting = false) (mode : TuneMode)
    (freq : Nat) (ant : Option Nat) (ds : Nat) : (s.enterTuning t mode freq ant ds).pu = s.pu :=
  State.enterSeq_permits off quiet _ _

/-- The host's RF_OFF with no order on the way: RAMP_DOWN, and the frame goes out. -/
theorem moves_takeRfOff_sends (has : s.HasTx t) (free : (s.seq t).outstanding = none) (empty : (s.seq t).queue = [])
    (owner : OrderOwner) :
    Moves t s (s.takeRfOff t owner)
      (((s.seq t).entered .rampDown (some (s.clock + (2 * s.rampDown t + 10) * 100))).sends (.rfOff (s.rampDown t)) owner s.clock)
      (((s.prot t).entered .rampDown).ordered (.rfOff (s.rampDown t))) := by
  unfold State.takeRfOff
  have entered := moves_enterSeq has .rampDown (some (s.clock + (2 * s.rampDown t + 10) * 100))
  have sent := entered.trans (moves_enqueue_sends (entered.hasTx has) (o := .rfOff (s.rampDown t)) (by rw [entered.seq has]; exact free)
    (by rw [entered.seq has]; exact empty) rfl owner)
  rw [entered.seq has, entered.prot has, entered.clock] at sent
  exact sent

/-! ## The checks of TX_ORDER, R159 -/

theorem State.orderChecks_pass (free : s.FreeForOrder t r) {takes : Sequencer → Bool} (takesIt : takes (s.seq t) = true)
    (notDown : (s.seq t).state ≠ .rampDown) : (s.orderChecks t true takes).find? (fun c => c.1) = none := by
  obtain ⟨h1, -, ht⟩ := free.number
  simp [State.orderChecks, badTx_eq_false h1 ht, free.manual, free.record, takesIt, notDown]

theorem State.tuneChecks_pass (free : s.FreeForOrder t r) {freq : Nat} (ready : (s.seq t).state = .off ∨ (s.seq t).state = .tuned)
    (ok : freqOk freq = true) (low : r.freqLow ≤ freq) (high : freq ≤ r.freqHigh) :
    (s.tuneChecks t freq).find? (fun c => c.1) = none := by
  have notDown : (s.seq t).state ≠ .rampDown := by rcases ready with h | h <;> simp [h]
  have takes : Sequencer.takesTune (s.seq t) = true := by
    rcases ready with h | h
    · simp [Sequencer.takesTune, h]
    · simp [Sequencer.takesTune, h]
  have inside : s.tuneInRange t freq = true := by simp [State.tuneInRange, free.record, within, low, high]
  rw [State.tuneChecks, ok, List.find?_append, State.orderChecks_pass free takes notDown]
  simp [inside]

theorem State.powerChecks_pass (free : s.FreeForOrder t r) {power : Nat} {takes : Sequencer → Bool} (takesIt : takes (s.seq t) = true)
    (notDown : (s.seq t).state ≠ .rampDown) (rating : power ≤ r.ratingKw) (unrouted : s.routeAntenna t = none) :
    (s.powerChecks t power true takes).find? (fun c => c.1) = none := by
  have inside : s.powerInRange t power = true := by simp [State.powerInRange, free.record, rating, unrouted]
  have licensed : s.powerLicensed t power = true := by simp [State.powerLicensed, unrouted]
  rw [State.powerChecks, List.find?_append, State.orderChecks_pass free takesIt notDown]
  simp [inside, licensed]

theorem Sequencer.not_requesting {q : Sequencer} (h : q.state = .off ∨ q.state = .tuned) : q.requesting = false := by
  rcases h with h | h
  · simp [Sequencer.requesting, h]
  · simp [Sequencer.requesting, h]

theorem State.FreeForOrder.hasTx (free : s.FreeForOrder t r) : s.received.HasTx t := by
  have has := free.sized.hasTx free.number.1 free.number.2.1
  exact ⟨has.pos, has.sequencers, has.protections⟩

/-! ## Orders that wait for the line -/

theorem exec_txOrderRfOn (free : s.FreeForOrder t r) {power feed : Nat} (tuned : (s.seq t).state = .tuned) (h1 : 1 ≤ power)
    (h1000 : power ≤ 1000) (rating : power ≤ r.ratingKw) (hf1 : 1 ≤ feed) (hf : feed ≤ 16) (unrouted : s.routeAntenna t = none) :
    exec (.txOrderRfOn t power feed) s =
      .next (((s.received.setLimit t power).takeRfOn t power feed .host).orderTaken t .rfOn).settled := by
  have fields : (powerOk power && feedOk feed) = true := by simp [powerOk, feedOk, within, h1, h1000, hf1, hf]
  have pass := State.powerChecks_pass free (takes := fun q => q.state == .tuned) (by simp [tuned]) (by simp [tuned]) rating unrouted
  show execTxOrderRfOn t power feed s = _
  unfold execTxOrderRfOn
  rw [fields]
  exact hostRequest_accepted free.ready pass

theorem exec_txOrderTuneAuto (free : s.FreeForOrder t r) {freq : Nat} (ready : (s.seq t).state = .off ∨ (s.seq t).state = .tuned)
    (ok : freqOk freq = true) (low : r.freqLow ≤ freq) (high : freq ≤ r.freqHigh) :
    exec (.txOrderTuneAuto t freq) s = .next ((s.received.takeTuneAuto t freq .host).orderTaken t .tuneAuto).settled := by
  have pass := State.tuneChecks_pass free ready ok low high
  show execTxOrderTuneAuto t freq s = _
  exact hostRequest_accepted free.ready pass

/-- TUNE_AUTO taken while the line is OFF: TUNING, with the order waiting for the line. -/
theorem moves_takeTuneAuto_waits (has : s.HasTx t) (record : s.tx t = some r) (empty : (s.seq t).queue = [])
    (off : (s.permit t).line = false) (quiet : (s.seq t).requesting = false) (freq : Nat) (owner : OrderOwner) :
    Moves t s (s.takeTuneAuto t freq owner)
      { (s.seq t).entered .tuning (some (s.clock + 2 * r.autotuneDs * 100)) with
        tuneMode := .auto, tuneFreq := freq, tuneAnt := s.routeAntenna t, feedback := none
        queue := [{ order := .tuneAuto freq r.tuneKw, owner := owner }] }
      (((s.prot t).entered .tuning).ordered (.tuneAuto freq r.tuneKw)) := by
  unfold State.takeTuneAuto
  simp only [record]
  have tuning := moves_enterTuning has .auto freq (s.routeAntenna t) r.autotuneDs
  have line : ((s.enterTuning t .auto freq (s.routeAntenna t) r.autotuneDs).permit t).line = false := by
    unfold State.permit
    rw [State.enterTuning_permits off quiet]
    exact off
  have queued := tuning.trans (moves_enqueue_waits (tuning.hasTx has) (by rw [tuning.seq has]; exact empty)
    (o := .tuneAuto freq r.tuneKw) rfl line owner)
  rw [tuning.seq has, tuning.prot has] at queued
  exact queued

theorem ceilDiv_four (n : Nat) : ceilDiv n 4 = (n + 3) / 4 := rfl

/-- Settles O37. -/
theorem gated_orders_wait_for_the_line : Obligations.gated_orders_wait_for_the_line := by
  refine fun t r s free off => ⟨fun power feed tuned h1 h1000 rating hf1 hf unrouted => ?_, fun freq ready ok low high => ?_⟩
  · have has := free.hasTx
    have limited := moves_setLimit t s.received power
    have moved := limited.trans (moves_takeRfOn_waits (limited.hasTx has) (by rw [limited.seq has]; exact free.queue) off
      (by rw [limited.seq has]; exact Sequencer.not_requesting (.inr tuned)) power feed .host)
    have ramp : (s.received.setLimit t power).rampUp t = r.rampUpDs := State.rampUp_of free.record
    rw [limited.seq has, limited.prot has, ramp] at moved
    refine ⟨_, exec_txOrderRfOn free tuned h1 h1000 rating hf1 hf unrouted, ?_⟩
    rw [moved.seq has, moved.prot has]
    exact ⟨rfl, rfl, rfl, free.outstanding, rfl, ceilDiv_four power, rfl, rfl, rfl, fun k hk => ⟨moved.seq_ne hk, moved.prot_ne hk⟩⟩
  · have has := free.hasTx
    have moved := moves_takeTuneAuto_waits has free.record free.queue off (Sequencer.not_requesting ready) freq .host
    refine ⟨_, exec_txOrderTuneAuto free ready ok low high, ?_⟩
    rw [moved.seq has, moved.prot has]
    exact ⟨rfl, rfl, rfl, rfl, rfl, rfl, fun k hk => ⟨moved.seq_ne hk, moved.prot_ne hk⟩⟩

/-! ## Orders that go out at once -/

theorem exec_txOrderRfOff (free : s.FreeForOrder t r)
    (state : (s.seq t).state = .rampUp ∨ (s.seq t).state = .onAir ∨ (s.seq t).state = .muted ∨ (s.seq t).state = .recoveryWait) :
    exec (.txOrderRfOff t) s = .next ((s.received.takeRfOff t .host).orderTaken t .rfOff).settled := by
  have pass := State.orderChecks_pass free (takes := Sequencer.takesRfOff)
    (by rcases state with h | h | h | h <;> simp [Sequencer.takesRfOff, h]) (by rcases state with h | h | h | h <;> simp [h])
  show execTxOrderRfOff t s = _
  exact hostRequest_accepted free.ready pass

theorem exec_txOrderMute (free : s.FreeForOrder t r) (state : (s.seq t).state = .rampUp ∨ (s.seq t).state = .onAir) :
    exec (.txOrderMute t) s = .next ((s.received.muteFor t .host .host none).orderTaken t .mute).settled := by
  have pass := State.orderChecks_pass free (takes := Sequencer.takesMute)
    (by rcases state with h | h <;> simp [Sequencer.takesMute, h]) (by rcases state with h | h <;> simp [h])
  show execTxOrderMute t s = _
  exact hostRequest_accepted free.ready pass

theorem exec_txOrderPower (free : s.FreeForOrder t r) {power : Nat} (state : (s.seq t).state = .rampUp ∨ (s.seq t).state = .onAir)
    (h1 : 1 ≤ power) (h1000 : power ≤ 1000) (rating : power ≤ r.ratingKw) (unrouted : s.routeAntenna t = none) :
    exec (.txOrderPower t power) s =
      .next (((s.received.setLimit t power).enqueue t (.power power) .host).orderTaken t .power).settled := by
  have fields : powerOk power = true := by simp [powerOk, within, h1, h1000]
  have pass := State.powerChecks_pass free (takes := Sequencer.takesPower)
    (by rcases state with h | h <;> simp [Sequencer.takesPower, h]) (by rcases state with h | h <;> simp [h]) rating unrouted
  show execTxOrderPower t power s = _
  unfold execTxOrderPower
  rw [fields]
  exact hostRequest_accepted free.ready pass

theorem exec_txOrderFeed (free : s.FreeForOrder t r) {feed : Nat} (takes : (s.seq t).state.takesFeed = true) (h1 : 1 ≤ feed)
    (h16 : feed ≤ 16) : exec (.txOrderFeed t feed) s = .next ((s.received.takeFeed t feed .host).orderTaken t .feed).settled := by
  have fields : feedOk feed = true := by simp [feedOk, within, h1, h16]
  have notDown : (s.seq t).state ≠ .rampDown := by
    intro down
    simp [down, SeqState.takesFeed] at takes
  have pass := State.orderChecks_pass free (takes := fun q => q.state.takesFeed) takes notDown
  show execTxOrderFeed t feed s = _
  unfold execTxOrderFeed
  rw [fields]
  exact hostRequest_accepted free.ready pass

theorem exec_txOrderClearTrip (free : s.FreeForOrder t r) (fault : (s.seq t).state = .fault) :
    exec (.txOrderClearTrip t) s = .next ((s.received.clearTrip t .host).orderTaken t .clearTrip).settled := by
  have pass := State.orderChecks_pass free (takes := fun q => q.state == .fault) (by simp [fault]) (by simp [fault])
  show execTxOrderClearTrip t s = _
  exact hostRequest_accepted free.ready pass

theorem moves_takeFeed_sends (has : s.HasTx t) (free : (s.seq t).outstanding = none) (empty : (s.seq t).queue = []) (feed : Nat)
    (owner : OrderOwner) :
    Moves t s (s.takeFeed t feed owner) (Sequencer.sends { s.seq t with lastFeed := feed } (.feed feed) owner s.clock) (s.prot t) := by
  unfold State.takeFeed
  have fed := moves_setSeq t s { s.seq t with lastFeed := feed }
  have sent := fed.trans (moves_enqueue_sends (fed.hasTx has) (o := .feed feed) (by rw [fed.seq has]; exact free)
    (by rw [fed.seq has]; exact empty) rfl owner)
  rw [fed.seq has, fed.prot has] at sent
  exact sent

theorem moves_powerOrder_sends (has : s.HasTx t) (free : (s.seq t).outstanding = none) (empty : (s.seq t).queue = []) (power : Nat)
    (owner : OrderOwner) :
    Moves t s ((s.setLimit t power).enqueue t (.power power) owner) ((s.seq t).sends (.power power) owner s.clock)
      (((s.prot t).limited power).ordered (.power power)) := by
  have limited := moves_setLimit t s power
  have sent := limited.trans (moves_enqueue_sends (limited.hasTx has) (o := .power power) (by rw [limited.seq has]; exact free)
    (by rw [limited.seq has]; exact empty) rfl owner)
  rw [limited.seq has, limited.prot has] at sent
  exact sent

theorem Protection.command_zero_working (p : Protection) (tune : Bool) : (p.command 0 tune).working = p.working := by
  simp [Protection.command]

theorem Protection.command_working (p : Protection) {power : Nat} (h : 1 ≤ power) : (p.command power false).working = power := by
  simp [Protection.command, Nat.ne_of_gt h]

/-- Settles O38. -/
theorem host_orders_go_out_at_once : Obligations.host_orders_go_out_at_once := by
  rintro t r s st free noneDeferred rfl
  have has := free.hasTx
  have ramp : s.received.rampDown t = r.rampDownDs := State.rampDown_of free.record
  refine ⟨fun state => ⟨_, exec_txOrderRfOff free state, ?_⟩, fun state => ⟨_, exec_txOrderMute free state, ?_⟩,
    fun power state h1 h1000 rating unrouted => ⟨_, exec_txOrderPower free state h1 h1000 rating unrouted, ?_⟩,
    fun feed takes h1 h16 => ⟨_, exec_txOrderFeed free takes h1 h16, ?_⟩, fun fault => ⟨_, exec_txOrderClearTrip free fault, ?_⟩⟩
  · have moved := moves_takeRfOff_sends has free.outstanding free.queue .host
    rw [ramp] at moved
    rw [moved.seq has, moved.prot has]
    exact ⟨rfl, rfl, rfl, rfl, rfl, Protection.command_zero_working _ _⟩
  · obtain ⟨l, moved⟩ := moves_muteFor has .host .host none
    rw [moved.seq has, moved.prot has]
    exact ⟨rfl, rfl, rfl, rfl, rfl⟩
  · have moved := moves_powerOrder_sends has free.outstanding free.queue power .host
    rw [moved.seq has, moved.prot has]
    exact ⟨rfl, rfl, rfl, ceilDiv_four power, rfl, Protection.command_working _ h1, rfl⟩
  · have moved := moves_takeFeed_sends has free.outstanding free.queue feed .host
    rw [moved.seq has, moved.prot has]
    exact ⟨rfl, rfl, rfl, rfl⟩
  · have moved := moves_clearTrip has free.outstanding free.queue .host
    rw [moved.seq has]
    exact ⟨rfl, rfl, rfl⟩

/-! ## What a read of the directories changes -/

/-- The state once the Preset Cache has been read: its records and counters, and the alerts. -/
def ReadsPresets (s u : State) : Prop := ∃ pc lc, u = { s with pc := pc, lc := lc }

theorem ReadsPresets.refl (s : State) : ReadsPresets s s := ⟨s.pc, s.lc, rfl⟩

theorem ReadsPresets.trans {u v : State} (first : ReadsPresets s u) (second : ReadsPresets u v) : ReadsPresets s v := by
  obtain ⟨pc, lc, rfl⟩ := first
  obtain ⟨pc', lc', rfl⟩ := second
  exact ⟨pc', lc', rfl⟩

theorem State.presetError_reads (s : State) (kind : PresetErrorKind) (t n way : Nat) (source : PresetSource) :
    ReadsPresets s (s.presetError kind t n way source) := ⟨_, _, rfl⟩

theorem State.setPresetSet_reads (s : State) (t n : Nat) (x : PresetSet) : ReadsPresets s (s.setPresetSet t n x) := ⟨_, s.lc, rfl⟩

theorem State.checkWay_reads (s : State) (t n way : Nat) (source : PresetSource) : ReadsPresets s (s.checkWay t n way source).1 := by
  unfold State.checkWay
  dsimp only
  split
  · exact ReadsPresets.refl s
  · split
    · exact ⟨_, _, rfl⟩
    · exact (s.setPresetSet_reads t n _).trans (State.presetError_reads _ .double t n way source)
    · exact ReadsPresets.refl s

theorem State.checkDuplicate_reads (s : State) (t n : Nat) (source : PresetSource) : ReadsPresets s (s.checkDuplicate t n source) := by
  unfold State.checkDuplicate
  dsimp only
  split
  · exact (s.setPresetSet_reads t n _).trans (State.presetError_reads _ .duplicate t n 1 source)
  · exact ReadsPresets.refl s

theorem State.readSet_reads (s : State) (t n : Nat) (source : PresetSource) : ReadsPresets s (s.readSet t n source) :=
  ((s.checkWay_reads t n 0 source).trans (State.checkWay_reads _ t n 1 source)).trans (State.checkDuplicate_reads _ t n source)

theorem State.lookup_reads (s : State) (t ant channel : Nat) : ReadsPresets s (s.lookup t ant channel).1 := by
  unfold State.lookup
  dsimp only
  split
  · exact ReadsPresets.refl s
  · split
    · exact (s.readSet_reads t _ _).trans ⟨_, _, rfl⟩
    · exact s.readSet_reads t _ _

/-! ## A read does not look at the receiver -/

theorem State.presetError_received (s : State) (kind : PresetErrorKind) (t n way : Nat) (source : PresetSource) :
    s.received.presetError kind t n way source = (s.presetError kind t n way source).received := rfl

theorem State.checkWay_received (s : State) (t n way : Nat) (source : PresetSource) :
    s.received.checkWay t n way source = ((s.checkWay t n way source).1.received, (s.checkWay t n way source).2) := by
  unfold State.checkWay
  dsimp only
  have same : s.received.presetSet t n = s.presetSet t n := rfl
  rw [same]
  split
  · rfl
  · split
    · rfl
    · rfl
    · rfl

theorem State.checkDuplicate_received (s : State) (t n : Nat) (source : PresetSource) :
    s.received.checkDuplicate t n source = (s.checkDuplicate t n source).received := by
  unfold State.checkDuplicate
  dsimp only
  have same : s.received.presetSet t n = s.presetSet t n := rfl
  rw [same]
  split
  · rfl
  · rfl

theorem State.readSet_received (s : State) (t n : Nat) (source : PresetSource) :
    s.received.readSet t n source = (s.readSet t n source).received := by
  unfold State.readSet
  rw [State.checkWay_received, State.checkWay_received, State.checkDuplicate_received]

theorem State.lookup_received (s : State) (t ant channel : Nat) :
    s.received.lookup t ant channel = ((s.lookup t ant channel).1.received, (s.lookup t ant channel).2) := by
  unfold State.lookup
  dsimp only
  have windowed : s.received.windowed channel = s.windowed channel := rfl
  rw [windowed, State.readSet_received]
  split
  · rfl
  · have same : (s.readSet t (keySet ant channel) .lookup).received.presetSet t (keySet ant channel) =
        (s.readSet t (keySet ant channel) .lookup).presetSet t (keySet ant channel) := rfl
    rw [same]
    split
    · rfl
    · rfl

/-! ## TUNE_PRESET, R150 -/

theorem exec_txOrderTunePreset (free : s.FreeForOrder t r) {freq : Nat} (ready : (s.seq t).state = .off ∨ (s.seq t).state = .tuned)
    (ok : freqOk freq = true) (low : r.freqLow ≤ freq) (high : freq ≤ r.freqHigh) :
    exec (.txOrderTunePreset t freq) s = .next (s.received.hostTunePreset t freq).settled := by
  have pass := State.tuneChecks_pass free ready ok low high
  show execTxOrderTunePreset t freq s = _
  exact hostRequest_accepted free.ready pass

theorem State.takeTunePreset_hit {a freq : Nat} {p : PresetRecord} {owner : OrderOwner} (antenna : s.tuneAntenna t owner = some a)
    (record : s.tx t = some r) (hit : (s.lookup t a (channelOf freq)).2 = some p) :
    s.takeTunePreset t freq owner = ((((s.lookup t a (channelOf freq)).1.enterTuning t .preset freq (some a) r.presetDs).enqueue t
      (.tunePreset freq p.s1 p.s2 p.s3 p.s4) owner), true) := by
  unfold State.takeTunePreset
  simp only [antenna, record, hit]

theorem State.takeTunePreset_miss {a freq : Nat} {owner : OrderOwner} (antenna : s.tuneAntenna t owner = some a)
    (record : s.tx t = some r) (miss : (s.lookup t a (channelOf freq)).2 = none) :
    s.takeTunePreset t freq owner = ((s.lookup t a (channelOf freq)).1, false) := by
  unfold State.takeTunePreset
  simp only [antenna, record, miss]

theorem State.takeTunePreset_unrouted {freq : Nat} {owner : OrderOwner} (antenna : s.tuneAntenna t owner = none) :
    s.takeTunePreset t freq owner = (s, false) := by
  unfold State.takeTunePreset
  simp only [antenna]

/-- Settles O39. -/
theorem tune_preset_takes_what_the_lookup_finds : Obligations.tune_preset_takes_what_the_lookup_finds := by
  refine fun t freq r s free ready ok low high => ⟨fun a p route hit => ?_, fun a route miss => ?_, fun unrouted quiet => ?_⟩
  · have has := free.hasTx
    have found := s.lookup_received t a (channelOf freq)
    have hit' : (s.received.lookup t a (channelOf freq)).2 = some p := by rw [found, hit]
    have taken := State.takeTunePreset_hit (s := s.received) (owner := .host) (freq := freq) route free.record hit'
    obtain ⟨pc, lc, read⟩ := s.received.lookup_reads t a (channelOf freq)
    have pcSame : pc = (s.lookup t a (channelOf freq)).1.pc := by
      rw [found] at read
      exact (congrArg State.pc read).symm
    rw [read] at taken
    have has' : State.HasTx { s.received with pc := pc, lc := lc } t := ⟨has.pos, has.sequencers, has.protections⟩
    have tuning := moves_enterTuning has' .preset freq (some a) r.presetDs
    have sent := tuning.trans (moves_enqueue_sends (tuning.hasTx has') (o := .tunePreset freq p.s1 p.s2 p.s3 p.s4)
      (by rw [tuning.seq has']; exact free.outstanding) (by rw [tuning.seq has']; exact free.queue) rfl .host)
    rw [tuning.seq has', tuning.prot has', tuning.clock] at sent
    refine ⟨(s.received.takeTunePreset t freq .host).1, ?_, ?_⟩
    · rw [exec_txOrderTunePreset free ready ok low high, State.hostTunePreset, if_pos (by rw [taken])]
    · rw [taken, sent.seq has', sent.pc]
      exact ⟨rfl, rfl, rfl, rfl, rfl, pcSame⟩
  · have miss' : (s.received.lookup t a (channelOf freq)).2 = none := by rw [s.lookup_received, miss]
    rw [exec_txOrderTunePreset free ready ok low high, State.hostTunePreset,
      State.takeTunePreset_miss (s := s.received) (owner := .host) (freq := freq) route free.record miss']
    rfl
  · rw [exec_txOrderTunePreset free ready ok low high, State.hostTunePreset,
      State.takeTunePreset_unrouted (s := s.received) (owner := .host) (freq := freq) unrouted]
    exact congrArg _ (State.settle_nil _ quiet)

end HostOrders

end Sys2Proof.Machine

/-! # Reports, links and deadlines of a transmitter -/

namespace Sys2Proof.Machine

open Sys2Proof

section Links

variable {s : State} {t : Nat}

/-! ## A valid report is held, R139, R141 -/

/-- The sequencer once a valid report has come at `now`. -/
def Sequencer.holding (q : Sequencer) (r : Report) (now : Nat) : Sequencer :=
  { q with report := some { report := r, arrived := now }, link := .up, receiver := .hunt
           counter := if (q.state == .unknown && q.report.isNone) = true then r.lastNumber else q.counter
           counters := { q.counters with good := satSucc 65535 q.counters.good } }

/-- The protection record once a report has come; the restore run ends when the report held before had become stale (R164). -/
def Protection.refreshed (p : Protection) (stale : Bool) : Protection := if stale then { p with restoreRun := none } else p

theorem Protection.refreshed_eq (p : Protection) (stale : Bool) : ∃ run, p.refreshed stale = { p with restoreRun := run } := by
  cases stale with
  | true => exact ⟨none, rfl⟩
  | false => exact ⟨p.restoreRun, rfl⟩

theorem moves_holdReport (has : s.HasTx t) (r : Report) :
    Moves t s (s.holdReport t r) ((s.seq t).holding r s.clock) ((s.prot t).refreshed (s.stale t)) := by
  unfold State.holdReport
  dsimp only
  cases s.stale t with
  | true => exact (moves_setProt t s _).setSeq has _
  | false => exact moves_setSeq t s _

/-- A report is evaluated in RAMP_UP and ON_AIR alone (R164). -/
theorem State.evaluate_skips (h : (s.seq t).state ≠ .rampUp ∧ (s.seq t).state ≠ .onAir) (r : Report) : s.evaluate t r = s := by
  unfold State.evaluate State.evaluates
  simp [h.1, h.2]

theorem State.answerOrder_none (h : (s.seq t).outstanding = none) (r : Report) : s.answerOrder t r = s := by
  unfold State.answerOrder
  simp only [h]

theorem exec_txReport (h1 : 1 ≤ t) (ht : t ≤ s.params.txCount) (r : Report) :
    exec (.txReport t r) s = .next (s.takeReport t r).settled := by
  show execTxReport t r s = _
  unfold execTxReport
  rw [badTx_eq_false h1 ht]
  exact if_neg Bool.false_ne_true

theorem State.badTx_eq_true (ht : s.params.txCount < t) : s.badTx t = true := by
  have beyond : s.ht.params.txCount < t := ht
  simp [State.badTx, beyond]

theorem exec_txReport_absent (ht : s.params.txCount < t) (r : Report) : exec (.txReport t r) s = .next s := by
  show execTxReport t r s = _
  unfold execTxReport
  exact if_pos (State.badTx_eq_true ht)

/-- The first valid report in UNKNOWN that shows RF off leaves OFF behind it (R149). -/
theorem moves_takeReport_first (has : s.HasTx t) {r : Report} (unknown : (s.seq t).state = .unknown)
    (free : (s.seq t).outstanding = none) (off : r.txState = .off ∨ r.txState = .tuned ∨ r.txState = .fault) :
    Moves t s (s.takeReport t r) (((s.seq t).holding r s.clock).entered .off none)
      (((s.prot t).refreshed (s.stale t)).entered .off) := by
  unfold State.takeReport
  dsimp only
  have held := moves_holdReport has r
  have still : (s.holdReport t r).evaluate t r = s.holdReport t r :=
    State.evaluate_skips (by rw [held.seq has]; simp [Sequencer.holding, unknown]) r
  rw [still, State.answerOrder_none (by rw [held.seq has]; exact free)]
  have left : (s.holdReport t r).reportTransition t r (s.seq t).report.isNone (s.seq t).quench (s.prot t).commanded =
      (s.holdReport t r).enterSeq t .off none := by
    unfold State.reportTransition State.leaveUnknown
    rw [held.seq has]
    simp only [Sequencer.holding, unknown, if_pos off]
  rw [left]
  have entered := held.trans (moves_enterSeq (held.hasTx has) .off none)
  rw [held.seq has, held.prot has] at entered
  exact entered.postOnce _

theorem State.trySend_empty (h : (s.seq t).queue = []) : s.trySend t = s := by
  unfold State.trySend
  dsimp only
  split
  next x rest _ queue => rw [h] at queue; cases queue
  next => rfl

/-- An order other than a MUTE that is waited for ends ACCEPTED, and with an empty queue nothing follows (R145). -/
theorem moves_orderAccepted {o : Outstanding} (has : s.HasTx t) (out : (s.seq t).outstanding = some o) (unmuted : (s.seq t).mute = none)
    (empty : (s.seq t).queue = []) :
    Moves t s (s.orderAccepted t o) { s.seq t with
      outstanding := none
      lastOrder := some { kind := o.order.kind, number := some o.number, owner := o.owner, outcome := .accepted } } (s.prot t) := by
  have ended := moves_endOutstanding has out .accepted
  have mute : ((s.endOutstanding t .accepted).seq t).mute = none := by rw [ended.seq has]; exact unmuted
  have queue : ((s.endOutstanding t .accepted).seq t).queue = [] := by rw [ended.seq has]; exact empty
  unfold State.orderAccepted
  dsimp only
  generalize s.endOutstanding t .accepted = u at ended mute queue
  split
  next m _ some => rw [mute] at some; cases some
  next => rw [State.trySend_empty queue]; exact ended

theorem State.answerOrder_accepted {o : Outstanding} {r : Report} (out : (s.seq t).outstanding = some o)
    (number : r.lastNumber = o.number) (accepted : r.lastAnswer = .accepted) : s.answerOrder t r = s.orderAccepted t o := by
  unfold State.answerOrder
  simp only [out, number, accepted]
  exact if_neg (by simp)

/-- In TUNED a report that shows TUNED and accepts the outstanding order changes no state. -/
theorem moves_takeReport_accepts {o : Outstanding} {r : Report} (has : s.HasTx t) (out : (s.seq t).outstanding = some o)
    (number : r.lastNumber = o.number) (accepted : r.lastAnswer = .accepted) (tuned : (s.seq t).state = .tuned)
    (unmuted : (s.seq t).mute = none) (empty : (s.seq t).queue = []) (shows : r.txState = .tuned) :
    Moves t s (s.takeReport t r) { (s.seq t).holding r s.clock with
      outstanding := none
      lastOrder := some { kind := o.order.kind, number := some o.number, owner := o.owner, outcome := .accepted } }
      ((s.prot t).refreshed (s.stale t)) := by
  unfold State.takeReport
  dsimp only
  have held := moves_holdReport has r
  have still : (s.holdReport t r).evaluate t r = s.holdReport t r :=
    State.evaluate_skips (by rw [held.seq has]; simp [Sequencer.holding, tuned]) r
  rw [still, State.answerOrder_accepted (o := o) (by rw [held.seq has]; exact out) number accepted]
  have ended := held.trans (moves_orderAccepted (held.hasTx has) (o := o) (by rw [held.seq has]; exact out)
    (by rw [held.seq has]; exact unmuted) (by rw [held.seq has]; exact empty))
  rw [held.seq has, held.prot has] at ended
  generalize (s.holdReport t r).orderAccepted t o = u at ended ⊢
  have stays : u.reportTransition t r (s.seq t).report.isNone (s.seq t).quench (s.prot t).commanded = u := by
    have state : (u.seq t).state = .tuned := by rw [ended.seq has]; exact tuned
    unfold State.reportTransition
    simp [state, shows, contradicts]
  rw [stays]
  exact ended.postOnce _

/-- Settles O40. -/
theorem reports_bring_the_link_up_and_answer_orders : Obligations.reports_bring_the_link_up_and_answer_orders := by
  refine ⟨fun t r s sized h1 h12 => ⟨fun ht unknown unheld free off => ?_, fun ht => exec_txReport_absent ht r⟩,
    fun t r s o sized h1 h12 ht out number accepted tuned unmuted empty shows => ?_⟩
  · have has := sized.hasTx h1 h12
    have moved := moves_takeReport_first has unknown free off
    obtain ⟨run, refreshed⟩ := (s.prot t).refreshed_eq (s.stale t)
    refine ⟨_, exec_txReport h1 ht r, ?_⟩
    rw [moved.seq has]
    refine ⟨rfl, rfl, rfl, ?_, rfl, fun k hk => moved.seq_ne hk, fun k => ?_⟩
    · simp [Sequencer.holding, Sequencer.entered, unknown, unheld]
    · by_cases hk : k = t
      · subst hk
        rw [moved.prot has, refreshed]
        exact ⟨rfl, rfl⟩
      · rw [moved.prot_ne hk]
        exact ⟨rfl, rfl⟩
  · have has := sized.hasTx h1 h12
    have moved := moves_takeReport_accepts has out number accepted tuned unmuted empty shows
    refine ⟨_, exec_txReport h1 ht r, ?_⟩
    rw [moved.seq has]
    refine ⟨rfl, tuned, rfl, ?_⟩
    simp [Sequencer.holding, tuned]

/-! ## An evaluated report, R164 -/

/-- A ratio below warn_pm while FOLDED is clear is recorded, and no decision follows (R165). -/
theorem State.evaluate_below_warn {r : Report} {q : Nat} (has : s.HasTx t) (onAir : (s.seq t).state = .onAir)
    (noKey : (s.seq t).feedback = none) (taken : s.evaluates t r = true) (hq : ratioOf r.pf r.pr = q)
    (below : q < s.pt.settings.warnPm) (unfolded : (s.prot t).folded = false) :
    s.evaluate t r = s.setProt t { s.prot t with ratio := some q, evaluatedAt := some s.clock, warn := false } := by
  have recorded := moves_setProt t s { s.prot t with ratio := some q, evaluatedAt := some s.clock, warn := false }
  unfold State.evaluate
  rw [if_pos taken]
  dsimp only
  rw [hq, decide_eq_false (Nat.not_le.mpr below)]
  generalize s.setProt t { s.prot t with ratio := some q, evaluatedAt := some s.clock, warn := false } = u at recorded ⊢
  have kept : u.sendFeedback t q = u := by
    unfold State.sendFeedback
    rw [recorded.seq has]
    simp only [onAir, noKey]
  rw [kept, State.ratioDecision_of_lt_warn (by rw [recorded.settings]; exact below), recorded.prot has]
  exact if_neg (by simp [unfolded])

theorem State.reportTransition_onAir {r : Report} (onAir : (s.seq t).state = .onAir) (noTrip : Report.isTrip r = false) (first : Bool)
    (quench : QuenchState) (power : Nat) : s.reportTransition t r first quench power = s := by
  unfold State.reportTransition
  simp only [onAir, noTrip]
  exact if_neg Bool.false_ne_true

theorem moves_takeReport_evaluates {r : Report} {q : Nat} (has : s.HasTx t) (onAir : (s.seq t).state = .onAir)
    (free : (s.seq t).outstanding = none) (noKey : (s.seq t).feedback = none) (noTrip : Report.isTrip r = false) (forward : 1 ≤ r.pf)
    (power : (s.prot t).commanded * 10 ≤ r.pf * 20) (hq : ratioOf r.pf r.pr = q) (below : q < s.pt.settings.warnPm)
    (unfolded : (s.prot t).folded = false) :
    Moves t s (s.takeReport t r) ((s.seq t).holding r s.clock)
      { (s.prot t).refreshed (s.stale t) with ratio := some q, evaluatedAt := some s.clock, warn := false } := by
  have held := moves_holdReport has r
  obtain ⟨run, refreshed⟩ := (s.prot t).refreshed_eq (s.stale t)
  have taken : (s.holdReport t r).evaluates t r = true := by
    unfold State.evaluates
    rw [held.seq has, held.prot has, refreshed]
    simp [Sequencer.holding, onAir, noTrip, forward, power]
  have evaluated := State.evaluate_below_warn (held.hasTx has) (by rw [held.seq has]; exact onAir) (by rw [held.seq has]; exact noKey)
    taken hq (by rw [held.settings]; exact below) (by rw [held.prot has, refreshed]; exact unfolded)
  have measured := held.setProt has
    { (s.prot t).refreshed (s.stale t) with ratio := some q, evaluatedAt := some s.clock, warn := false }
  rw [held.prot has, held.clock] at evaluated
  unfold State.takeReport
  dsimp only
  rw [evaluated]
  generalize (s.holdReport t r).setProt t
    { (s.prot t).refreshed (s.stale t) with ratio := some q, evaluatedAt := some s.clock, warn := false } = u at measured ⊢
  rw [State.answerOrder_none (by rw [measured.seq has]; exact free),
    State.reportTransition_onAir (by rw [measured.seq has]; exact onAir) noTrip]
  exact measured.postOnce _

/-- Settles O44. -/
theorem fresh_report_is_evaluated_on_air : Obligations.fresh_report_is_evaluated_on_air := by
  intro t q r s sized h1 h12 ht onAir free noKey shows noCode forward power hq below unfolded
  have has := sized.hasTx h1 h12
  have noTrip : Report.isTrip r = false := by simp [Report.isTrip, shows, noCode]
  have moved := moves_takeReport_evaluates has onAir free noKey noTrip forward power hq.symm below unfolded
  obtain ⟨run, refreshed⟩ := (s.prot t).refreshed_eq (s.stale t)
  refine ⟨_, exec_txReport h1 ht r, ?_⟩
  rw [moved.seq has, moved.prot has, refreshed]
  exact ⟨onAir, rfl, rfl, rfl, rfl, rfl, fun k hk => moved.prot_ne hk⟩

end Links

end Sys2Proof.Machine

/-! # The transmitter links -/

namespace Sys2Proof.Machine

open Sys2Proof

section LinkReceivers

variable {s : State} {t : Nat}

/-! ## The receiver of a link, R138 -/

/-- Two writes of a sequencer are the last one. -/
theorem State.setSeq_setSeq (s : State) (t : Nat) (q q' : Sequencer) : (s.setSeq t q).setSeq t q' = s.setSeq t q' := by
  simp only [State.setSeq, setNth_setNth]

/-- The state with the receiver of one link in another state. -/
def State.atReceiver (s : State) (t : Nat) (x : LinkReceiver) : State := s.setSeq t { s.seq t with receiver := x }

theorem State.atReceiver_seq (has : s.HasTx t) (x : LinkReceiver) : (s.atReceiver t x).seq t = { s.seq t with receiver := x } :=
  s.seq_setSeq t _ has.pos has.sequencers

theorem State.atReceiver_self {x : LinkReceiver} (h : (s.seq t).receiver = x) : s.atReceiver t x = s := by
  have same : ({ s.seq t with receiver := x } : Sequencer) = s.seq t := by rw [← h]
  unfold State.atReceiver State.setSeq State.seq at *
  rw [same, setNth_nth]

/-- An octet that ends nothing moves the receiver alone. -/
theorem State.takeLinkOctet_none {x y : LinkReceiver} {b : Byte} (has : s.HasTx t) (next : x.take b = (y, .none)) :
    (s.atReceiver t x).takeLinkOctet t b = s.atReceiver t y := by
  unfold State.takeLinkOctet
  rw [State.atReceiver_seq has]
  simp only [next]
  unfold State.atReceiver
  rw [State.setSeq_setSeq]

theorem State.takeLinkOctet_discard {x y : LinkReceiver} {b : Byte} {reason : LinkDiscard} (has : s.HasTx t)
    (next : x.take b = (y, .discard reason)) :
    (s.atReceiver t x).takeLinkOctet t b =
      s.setSeq t { s.seq t with receiver := y, counters := (s.seq t).counters.discard reason } := by
  unfold State.takeLinkOctet
  rw [State.atReceiver_seq has]
  simp only [next]
  unfold State.atReceiver
  rw [State.setSeq_setSeq]

/-- A report is held whatever the receiver was doing: it is in HUNT afterwards. -/
theorem State.takeReport_atReceiver (has : s.HasTx t) (x : LinkReceiver) (r : Report) :
    (s.atReceiver t x).takeReport t r = s.takeReport t r := by
  have seq := State.atReceiver_seq has x
  have stale : (s.atReceiver t x).stale t = s.stale t := by
    unfold State.stale
    rw [seq]
    rfl
  have held : (s.atReceiver t x).holdReport t r = s.holdReport t r := by
    unfold State.holdReport
    dsimp only
    rw [stale]
    split
    · have seq' : (State.setProt (s.atReceiver t x) t { (s.atReceiver t x).prot t with restoreRun := none }).seq t =
          { s.seq t with receiver := x } := seq
      rw [seq']
      exact State.setSeq_setSeq (s.setProt t { s.prot t with restoreRun := none }) t { s.seq t with receiver := x } _
    · rw [seq]
      exact State.setSeq_setSeq s t { s.seq t with receiver := x } _
  unfold State.takeReport
  dsimp only
  rw [held, seq]
  rfl

theorem State.takeLinkOctet_report {x y : LinkReceiver} {b : Byte} {r : Report} (has : s.HasTx t)
    (next : x.take b = (y, .report r)) : (s.atReceiver t x).takeLinkOctet t b = (s.takeReport t r).settled := by
  unfold State.takeLinkOctet
  rw [State.atReceiver_seq has]
  simp only [next]
  rw [State.takeReport_atReceiver has]

/-! ## From SYNC to the end of a frame -/

theorem LinkReceiver.take_length {n : Byte} (notSync : n ≠ 0xB4) (bad : n = 0 ∨ 60 < n.toNat) :
    LinkReceiver.take .sync n = (.hunt, .discard .length) := by
  simp only [LinkReceiver.take]
  rw [if_neg notSync, if_pos bad]

theorem LinkReceiver.take_first {n : Byte} (h1 : 1 ≤ n.toNat) (h60 : n.toNat ≤ 60) : LinkReceiver.take .sync n = (.taking [n], .none) := by
  have notSync : n ≠ 0xB4 := fun eq => by
    rw [eq] at h60
    exact absurd h60 (by decide)
  have notZero : n ≠ 0 := fun eq => by
    rw [eq] at h1
    exact absurd h1 (by decide)
  simp only [LinkReceiver.take]
  rw [if_neg notSync, if_neg (by rintro (zero | long); exacts [notZero zero, absurd long (by omega)])]

theorem LinkReceiver.take_more {n b : Byte} {xs : List Byte} (short : (n :: xs ++ [b]).length < n.toNat + 3) :
    LinkReceiver.take (.taking (n :: xs)) b = (.taking (n :: xs ++ [b]), .none) := by
  simp only [LinkReceiver.take]
  exact if_neg (by
    show ¬(n :: xs ++ [b]).length = n.toNat + 3
    omega)

theorem LinkReceiver.take_last {n b : Byte} {xs : List Byte} (full : (n :: xs ++ [b]).length = n.toNat + 3) :
    LinkReceiver.take (.taking (n :: xs)) b = (.hunt, checkLinkFrame (n :: xs ++ [b])) := by
  simp only [LinkReceiver.take]
  exact if_pos full

/-- Octets short of a whole frame are kept. -/
theorem State.takeLinkOctets_more (has : s.HasTx t) (n : Byte) (ys xs : List Byte) (short : (n :: xs ++ ys).length < n.toNat + 3) :
    ys.foldl (fun u b => u.takeLinkOctet t b) (s.atReceiver t (.taking (n :: xs))) = s.atReceiver t (.taking (n :: xs ++ ys)) := by
  induction ys generalizing xs with
  | nil => simp
  | cons b ys ih =>
    have step := State.takeLinkOctet_none has (LinkReceiver.take_more (n := n) (b := b) (xs := xs) (by simp at short ⊢; omega))
    rw [List.foldl_cons, step, List.cons_append, ih (xs ++ [b]) (by simpa using short)]
    simp

theorem exec_txFrameDiscard (h1 : 1 ≤ t) (ht : t ≤ s.params.txCount) (octets : List Byte) :
    exec (.txFrameDiscard t octets) s = .next (octets.foldl (fun u b => u.takeLinkOctet t b) s) := by
  show execTxFrameDiscard t octets s = _
  unfold execTxFrameDiscard
  rw [badTx_eq_false h1 ht]
  exact if_neg Bool.false_ne_true

/-- A frame that is not complete is kept in TAKING. -/
theorem frame_incomplete (has : s.HasTx t) (sync : (s.seq t).receiver = .sync) {n : Byte} {rest : List Byte} (h1 : 1 ≤ n.toNat)
    (h60 : n.toNat ≤ 60) (short : (n :: rest).length < n.toNat + 3) :
    (n :: rest).foldl (fun u b => u.takeLinkOctet t b) s = s.atReceiver t (.taking (n :: rest)) := by
  have first := State.takeLinkOctet_none has (LinkReceiver.take_first h1 h60)
  rw [State.atReceiver_self sync] at first
  rw [List.foldl_cons, first, State.takeLinkOctets_more has n rest [] short]
  rfl

/-- The last octet of a frame comes to a receiver that holds the rest of it. -/
theorem frame_complete (has : s.HasTx t) (sync : (s.seq t).receiver = .sync) {n : Byte} {rest : List Byte} (h1 : 1 ≤ n.toNat)
    (h60 : n.toNat ≤ 60) (full : (n :: rest).length = n.toNat + 3) :
    ∃ x b, (n :: rest).foldl (fun u b => u.takeLinkOctet t b) s = (s.atReceiver t x).takeLinkOctet t b ∧
      x.take b = (.hunt, checkLinkFrame (n :: rest)) := by
  have nonempty : rest ≠ [] := by
    rintro rfl
    simp at full
  have split : rest = rest.dropLast ++ [rest.getLast nonempty] := (List.dropLast_append_getLast nonempty).symm
  refine ⟨.taking (n :: rest.dropLast), rest.getLast nonempty, ?_, ?_⟩
  · rw [split] at full
    conv_lhs => rw [split]
    rw [← List.cons_append, List.foldl_append, frame_incomplete has sync h1 h60 (by simp at full ⊢; omega)]
    rfl
  · have whole : n :: rest.dropLast ++ [rest.getLast nonempty] = n :: rest := by rw [List.cons_append, ← split]
    have last := LinkReceiver.take_last (n := n) (b := rest.getLast nonempty) (xs := rest.dropLast) (by rw [whole]; exact full)
    rwa [whole] at last

/-! ## The checks of a frame -/

theorem checkLinkFrame_crc {octets : List Byte}
    (wrong : (crc16 (octets.take (octets.length - 2))).toNat ≠ wordAt octets (octets.length - 2)) :
    checkLinkFrame octets = .discard .crc := if_pos wrong

theorem reportBodyOk_iff (body : List Byte) :
    reportBodyOk body = true ↔ body.length = 12 ∧ octetAt body 11 = 0 ∨ body.length = 22 ∧ octetAt body 11 = 1 := by
  simp [reportBodyOk]

theorem checkLinkFrame_format {octets body : List Byte} (hbody : body = (octets.take (octets.length - 2)).drop 2)
    (right : (crc16 (octets.take (octets.length - 2))).toNat = wordAt octets (octets.length - 2))
    (wrong : octetAt octets 1 ≠ 0x50 ∨ ¬(body.length = 12 ∧ octetAt body 11 = 0 ∨ body.length = 22 ∧ octetAt body 11 = 1)) :
    checkLinkFrame octets = .discard .format := by
  subst hbody
  unfold checkLinkFrame
  rw [← reportBodyOk_iff, Bool.not_eq_true, ← Bool.not_eq_true'] at wrong
  exact (if_neg (not_not.mpr right)).trans (if_pos wrong)

theorem checkLinkFrame_report {octets body : List Byte} (hbody : body = (octets.take (octets.length - 2)).drop 2)
    (right : (crc16 (octets.take (octets.length - 2))).toNat = wordAt octets (octets.length - 2)) (kind : octetAt octets 1 = 0x50)
    (ok : body.length = 12 ∧ octetAt body 11 = 0 ∨ body.length = 22 ∧ octetAt body 11 = 1) :
    checkLinkFrame octets = .report (reportOf body) := by
  subst hbody
  unfold checkLinkFrame
  rw [← reportBodyOk_iff] at ok
  exact (if_neg (not_not.mpr right)).trans (if_neg (by rintro (other | bad); exacts [other kind, by simp [ok] at bad]))

/-! ## A link grows stale and is lost, R139, R141, R158 -/

theorem exec_reportStale {h : HeldReport} (held : (s.seq t).report = some h)
    (due : s.clock ≤ h.arrived + s.params.txStaleDs * 100 + 1) :
    exec (.reportStale t) s = .next (State.setProt { s with clock := h.arrived + s.params.txStaleDs * 100 + 1 } t
      { s.prot t with restoreRun := none }) := by
  show execReportStale t s = _
  unfold execReportStale
  simp only [held]
  rw [State.reach_at due]
  have stale : State.stale { s with clock := h.arrived + s.params.txStaleDs * 100 + 1 } t = true := by
    have held' : (State.seq { s with clock := h.arrived + s.params.txStaleDs * 100 + 1 } t).report = some h := held
    unfold State.stale
    simp only [held', decide_eq_true_eq]
    exact Nat.lt_succ_self _
  unfold State.checkStale
  rw [if_pos stale]
  rfl

/-- A sequencer in UNKNOWN, FAULT or LOCKOUT keeps its state when the link is LOST, another enters LINK_LOST with nothing left to do. -/
theorem moves_linkLossAt (has : s.HasTx t) :
    ∃ q p, Moves t s (s.linkLossAt t) q p ∧ q.link = (s.seq t).link ∧
      ((s.seq t).state ≠ .unknown → (s.seq t).state ≠ .fault → (s.seq t).state ≠ .lockout → q.state = .linkLost ∧
        q.outstanding = none ∧ q.queue = [] ∧ q.deferred = [] ∧ q.timer = none ∧ q.mute = none ∧ q.feedback = none) ∧
      ((s.seq t).state = .unknown ∨ (s.seq t).state = .fault ∨ (s.seq t).state = .lockout → q.state = (s.seq t).state) := by
  obtain ⟨l, ended⟩ := moves_endOutstanding_any has (s := s) .discarded
  unfold State.linkLossAt
  split
  next unknown => exact ⟨_, _, Moves.refl t s, rfl, fun h => absurd unknown h, fun _ => rfl⟩
  next fault =>
    obtain ⟨qu, c, f, o, sent⟩ := moves_trySend (ended.hasTx has)
    rw [ended.seq has, ended.prot has] at sent
    exact ⟨_, _, ended.trans sent, rfl, fun _ h => absurd fault h, fun _ => rfl⟩
  next lockout =>
    obtain ⟨qu, c, f, o, sent⟩ := moves_trySend (ended.hasTx has)
    rw [ended.seq has, ended.prot has] at sent
    exact ⟨_, _, ended.trans sent, rfl, fun _ _ h => absurd lockout h, fun _ => rfl⟩
  next notUnknown notFault notLockout =>
    unfold State.seqLinkLost
    dsimp only
    obtain ⟨l', emptied⟩ := moves_discardOrders (ended.hasTx has)
    rw [ended.seq has, ended.prot has] at emptied
    have discarded := ended.trans emptied
    have entered := discarded.trans (moves_enterSeq (discarded.hasTx has) .linkLost none)
    rw [discarded.seq has, discarded.prot has] at entered
    rw [entered.seq has]
    refine ⟨_, _, entered.setSeq has _, rfl, fun _ _ _ => ⟨rfl, rfl, rfl, rfl, rfl, rfl, rfl⟩, fun h => ?_⟩
    rcases h with h | h | h
    · exact absurd h notUnknown
    · exact absurd h notFault
    · exact absurd h notLockout

theorem exec_txLinkTimeout {h : HeldReport} (up : (s.seq t).link = .up) (held : (s.seq t).report = some h)
    (due : s.clock ≤ h.arrived + s.params.txLinkDs * 100) :
    exec (.txLinkTimeout t) s =
      .next (State.linkBecomesLost { s with clock := h.arrived + s.params.txLinkDs * 100 } t).settled := by
  have deadline : s.linkDeadline t = h.arrived + s.params.txLinkDs * 100 := by simp [State.linkDeadline, held]
  show execTxLinkTimeout t s = _
  unfold execTxLinkTimeout
  rw [if_pos up, deadline, State.reach_at due]

/-- Settles O41. -/
theorem links_count_frames_grow_stale_and_are_lost : Obligations.links_count_frames_grow_stale_and_are_lost := by
  refine ⟨fun t s h1 => ⟨fun ht receiver => ?_, fun ht => ⟨fun octets => ?_, ?_⟩⟩,
    fun t s n rest octets body sized h1 h12 ht sync hoctets hbody => ?_,
    fun t h s st sized h1 h12 up held due hst => ?_, fun t h s held due => exec_reportStale held due⟩
  · show execTxLinkSyncFound t s = _
    unfold execTxLinkSyncFound
    rw [badTx_eq_false h1 ht]
    exact (if_neg Bool.false_ne_true).trans (if_pos receiver)
  · exact if_pos (State.badTx_eq_true ht)
  · exact if_pos (State.badTx_eq_true ht)
  · have has := sized.hasTx h1 h12
    subst hoctets
    refine ⟨fun only notSync bad => ?_, fun hn1 hn60 short => ?_, fun hn1 hn60 full => ?_⟩
    · subst only
      have dropped := State.takeLinkOctet_discard has (LinkReceiver.take_length notSync bad)
      rw [State.atReceiver_self sync] at dropped
      rw [exec_txFrameDiscard h1 ht]
      exact congrArg _ dropped
    · rw [exec_txFrameDiscard h1 ht, frame_incomplete has sync hn1 hn60 short]
      rfl
    · obtain ⟨x, b, taken, last⟩ := frame_complete has sync hn1 hn60 full
      refine ⟨fun wrong => ?_, fun right => ⟨fun wrong => ?_, fun kind ok => ?_⟩⟩
      · rw [checkLinkFrame_crc wrong] at last
        rw [exec_txFrameDiscard h1 ht, taken, State.takeLinkOctet_discard has last]
        rfl
      · rw [checkLinkFrame_format hbody right wrong] at last
        rw [exec_txFrameDiscard h1 ht, taken, State.takeLinkOctet_discard has last]
        rfl
      · rw [checkLinkFrame_report hbody right kind ok] at last
        rw [exec_txFrameDiscard h1 ht, taken, State.takeLinkOctet_report has last, exec_txReport h1 ht]
  · subst hst
    have has := sized.hasTx h1 h12
    have lost := moves_setSeq t { s with clock := h.arrived + s.params.txLinkDs * 100 } { s.seq t with link := .lost }
    have hasLost : State.HasTx (State.alert (State.setSeq { s with clock := h.arrived + s.params.txLinkDs * 100 } t
        { s.seq t with link := .lost }) .txLink) t :=
      (lost.hasTx (has.atClock _)).alert _
    have seq : State.seq (State.alert (State.setSeq { s with clock := h.arrived + s.params.txLinkDs * 100 } t
        { s.seq t with link := .lost }) .txLink) t = { s.seq t with link := .lost } := lost.seq (has.atClock _)
    obtain ⟨q, p, moved, link, other, same⟩ := moves_linkLossAt hasLost
    rw [seq] at link other same
    have after := moved.postOnce .permits
    refine ⟨_, exec_txLinkTimeout up held due, after.clock, ?_, ?_, ?_, ?_⟩
    · exact (congrArg Sequencer.link (after.seq hasLost)).trans link
    · exact (congrArg (fun l : LinkController => l.alerts.getLsbD Alert.txLink.bit) after.lc).trans (State.alert_set _ _)
    · exact (after.seq hasLost).symm ▸ other
    · exact (after.seq hasLost).symm ▸ same

end LinkReceivers

end Sys2Proof.Machine

/-! # Faults, trips and recovery of a transmitter -/

namespace Sys2Proof.Machine

open Sys2Proof

section Trips

variable {s : State} {t : Nat}

/-! ## The record of a trip, R168 to R170 -/

/-- The record of a trip. -/
def lastTripOf (cause : TripCause) (code now : Nat) (o : TripOutcome) : LastTrip :=
  { cause := cause, code := code, elapsed := now, counted := cause.counted, outcome := o }

theorem Protection.trip_lockout {x : Protection} {cause : TripCause} (counted : cause.counted = true) (free : x.lockout = false)
    {now w : Nat} (due : lockoutDue (appendHistory 3 x.history now) w = true) (code : Nat) :
    x.trip cause code now w = ({ x with
      counted := satSucc 65535 x.counted, history := appendHistory 3 x.history now, lockout := true, folded := false
      restoreRun := none, lastFold := none, lastTrip := some (lastTripOf cause code now .lockout) }, .lockout) := by
  unfold Protection.trip
  simp only [counted, free, due, if_true, Bool.false_eq_true, if_false, lastTripOf]

theorem Protection.trip_recovery {x : Protection} {cause : TripCause} (counted : cause.counted = true) (free : x.lockout = false)
    {now w : Nat} (few : lockoutDue (appendHistory 3 x.history now) w = false) (code : Nat) :
    x.trip cause code now w = ({ x with
      counted := satSucc 65535 x.counted, history := appendHistory 3 x.history now
      restart := x.restartPower true, folded := true, lastTrip := some (lastTripOf cause code now .recovery) }, .recovery) := by
  unfold Protection.trip
  simp only [counted, free, few, if_true, Bool.false_eq_true, if_false, lastTripOf]
  rfl

theorem Protection.restartPower_counted {x : Protection} {l : Nat} (limit : x.limit = some l) :
    x.restartPower true = max x.floor (foldOf x.working) := by
  unfold Protection.restartPower
  simp only [limit, if_true]

theorem lockoutDue_three (a b c w : Nat) : lockoutDue [a, b, c] w = decide (c - a ≤ w) := by simp [lockoutDue]

theorem lockoutDue_short {h : List Nat} (short : h.length ≤ 2) (w : Nat) : lockoutDue h w = false := by
  have notThree : h.length ≠ 3 := by omega
  simp [lockoutDue, notThree]

/-- Settles O47. -/
theorem counted_trip_recovers_or_locks_out : Obligations.counted_trip_recovers_or_locks_out := by
  rintro x cause code now w l h counted free limit rfl few
  refine ⟨fun a b three close => ?_, fun apart => ?_⟩
  · have due : lockoutDue (appendHistory 3 x.history now) w = true := by
      rw [show appendHistory 3 x.history now = [a, b, now] from three, lockoutDue_three]
      exact decide_eq_true close
    rw [Protection.trip_lockout counted free due]
    exact ⟨rfl, rfl, rfl, rfl⟩
  · have notDue : lockoutDue (appendHistory 3 x.history now) w = false := by
      rcases apart with short | ⟨a, b, three, far⟩
      · exact lockoutDue_short short w
      · rw [show appendHistory 3 x.history now = [a, b, now] from three, lockoutDue_three]
        exact decide_eq_false (by omega)
    rw [Protection.trip_recovery counted free notDue, Protection.restartPower_counted limit]
    exact ⟨rfl, free, rfl, rfl, rfl, by rw [← counted]; rfl⟩

/-! ## A trip reaches the sequencer -/

/-- The recording of a trip changes the protection record, the alerts and the notices. -/
theorem moves_recordTrip (t : Nat) (s : State) (cause : TripCause) (code : Nat) :
    ∃ lc, Moves t { s with lc := lc } (s.recordTrip t cause code).1 (s.seq t)
        ((s.prot t).trip cause code s.tb.elapsed s.pt.settings.tripWindowS).1 ∧
      (s.recordTrip t cause code).2 = ((s.prot t).trip cause code s.tb.elapsed s.pt.settings.tripWindowS).2 ∧
      (cause.counted = true → lc.alerts.getLsbD Alert.trip.bit = true) ∧
      (((s.prot t).trip cause code s.tb.elapsed s.pt.settings.tripWindowS).2 = .lockout →
        lc.alerts.getLsbD Alert.lockout.bit = true) := by
  unfold State.recordTrip
  dsimp only
  generalize (s.prot t).trip cause code s.tb.elapsed s.pt.settings.tripWindowS = r
  have tripped : ∃ lc, (if cause.counted = true then (s.setProt t r.1).alert .trip else s.setProt t r.1) =
      State.setProt { s with lc := lc } t r.1 ∧ (cause.counted = true → lc.alerts.getLsbD Alert.trip.bit = true) := by
    split
    next => exact ⟨(s.alert .trip).lc, rfl, fun _ => State.alert_set s .trip⟩
    next uncounted => exact ⟨s.lc, rfl, fun counted => absurd counted uncounted⟩
  obtain ⟨lc, eq, flag⟩ := tripped
  rw [eq]
  by_cases locks : r.2 = .lockout
  · rw [if_pos locks]
    refine ⟨(State.alert { s with lc := lc } .lockout).lc, ?_, rfl, fun counted => ?_, fun _ => State.alert_set _ _⟩
    · exact (moves_setProt t (State.alert { s with lc := lc } .lockout) r.1).postOnce .permits
    · show (lc.alerts ||| _).getLsbD Alert.trip.bit = true
      rw [BitVec.getLsbD_or, flag counted, Bool.true_or]
  · rw [if_neg locks]
    exact ⟨lc, moves_setProt t { s with lc := lc } r.1, rfl, flag, fun h => absurd h locks⟩

theorem State.HasTx.withLink (h : s.HasTx t) (lc : LinkController) : State.HasTx { s with lc := lc } t :=
  ⟨h.pos, h.sequencers, h.protections⟩

/-- A recovery notice to a sequencer that has just muted waits for the MUTE's acceptance (R154). -/
theorem moves_recoveryNotice_muted {m : Mute} (has : s.HasTx t) (muted : (s.seq t).state = .muted) (mute : (s.seq t).mute = some m)
    (waiting : m.accepted = false) (power : Nat) :
    Moves t s (s.recoveryNotice t power) { s.seq t with mute := some { m with notice := some power } } (s.prot t) := by
  have noted := moves_setSeq t s { s.seq t with mute := some { m with notice := some power } }
  have stays : (s.setSeq t { s.seq t with mute := some { m with notice := some power } }).mutedProgress t =
      s.setSeq t { s.seq t with mute := some { m with notice := some power } } := by
    unfold State.mutedProgress
    rw [noted.seq has]
    simp only [waiting, Bool.not_false, if_true]
  rw [← stays] at noted
  unfold State.recoveryNotice
  dsimp only
  split
  next =>
    rw [mute]
    exact noted
  next other => rw [muted] at other; cases other
  next other _ => exact absurd muted other

/-- A lockout notice to a sequencer that has just muted: a quench, and LOCKOUT (R156). -/
theorem moves_lockoutNotice_muted {o : Outstanding} (has : s.HasTx t) (muted : (s.seq t).state = .muted)
    (out : (s.seq t).outstanding = some o) (mute : o.order = .mute) :
    ∃ q, Moves t s (s.lockoutNotice t) q ((((s.prot t).ordered .mute).ordered (.rfOff (s.rampDown t))).entered .lockout) ∧
      q.state = .lockout := by
  unfold State.lockoutNotice
  dsimp only
  rw [if_neg (by rw [muted]; simp), out]
  dsimp only
  rw [if_pos mute]
  obtain ⟨l, discarded⟩ := moves_discardOrders has
  have ramp : (s.discardOrders t).rampDown t = s.rampDown t := by
    unfold State.rampDown
    rw [discarded.tx]
  have holds : (s.seq t).mayHoldRf = true := by simp [Sequencer.mayHoldRf, muted]
  rw [if_pos holds]
  obtain ⟨l', quenched⟩ := moves_takeQuench (discarded.hasTx has)
  rw [discarded.seq has, discarded.prot has, ramp] at quenched
  have silenced := discarded.trans quenched
  have entered := silenced.trans (moves_enterSeq (silenced.hasTx has) .lockout none)
  rw [silenced.seq has, silenced.prot has] at entered
  exact ⟨_, entered, rfl⟩

/-- A trip where RF stands mutes (R154, R168). -/
theorem moves_seqTrip (has : s.HasTx t) (standing : (s.seq t).rfStanding = true) (owner : OrderOwner) :
    ∃ q, Moves t s (s.seqTrip t owner) q (((s.prot t).ordered .mute).entered .muted) ∧ q.state = .muted ∧
      q.mute = some { origin := s.originOf t .trip, accepted := false, notice := none } ∧
      ∃ o, q.outstanding = some o ∧ o.order = .mute := by
  unfold State.seqTrip
  rw [if_pos standing]
  obtain ⟨l, muted⟩ := moves_muteFor has (s.originOf t .trip) owner none
  exact ⟨_, muted, rfl, rfl, _, rfl, rfl⟩

/-- What a counted trip where RF stands leaves: MUTED with its recovery notice, or LOCKOUT. -/
structure Tripped (t : Nat) (s u : State) (origin : MuteOrigin) (p : Protection) (o : TripOutcome) : Prop where
  clock : u.clock = s.clock
  flag : u.lc.alerts.getLsbD Alert.trip.bit = true
  lockoutFlag : o = .lockout → u.lc.alerts.getLsbD Alert.lockout.bit = true
  protection : ∃ working, u.prot t = { p with commanded := 0, working := working, restoreRun := none }
  recovers : o = .recovery → (u.seq t).state = .muted ∧
    (u.seq t).mute = some { origin := origin, accepted := false, notice := some p.restart }
  locks : o = .lockout → (u.seq t).state = .lockout

theorem Protection.muted_eq (p : Protection) :
    (p.ordered .mute).entered .muted = { p with commanded := 0, working := p.working, restoreRun := none } := by
  unfold Protection.entered
  rw [if_neg (by simp)]
  simp [Protection.ordered, Protection.command]

theorem Protection.quenched_eq (p : Protection) (n : Nat) :
    ((p.ordered .mute).ordered (.rfOff n)).entered .lockout = { p with commanded := 0, working := p.working, restoreRun := none } := by
  unfold Protection.entered
  rw [if_neg (by simp)]
  simp [Protection.ordered, Protection.command]

theorem State.tripWith_tripped {cause : TripCause} {code : Nat} {p : Protection} {o : TripOutcome} (has : s.HasTx t)
    (standing : (s.seq t).rfStanding = true) (counted : cause.counted = true)
    (trip : (s.prot t).trip cause code s.tb.elapsed s.pt.settings.tripWindowS = (p, o)) (outcome : o ≠ .none) (owner : OrderOwner) :
    Tripped t s (s.tripWith t cause code owner) (s.originOf t .trip) p o := by
  obtain ⟨lc, recorded, answer, flag, lockoutFlag⟩ := moves_recordTrip t s cause code
  rw [trip] at recorded answer lockoutFlag
  have has' := has.withLink lc
  unfold State.tripWith
  dsimp only
  rw [answer]
  generalize (s.recordTrip t cause code).1 = u at recorded ⊢
  have origin : u.originOf t .trip = s.originOf t .trip := by
    unfold State.originOf
    rw [recorded.seq has']
  obtain ⟨q, muted, state, mute, out, houtstanding, horder⟩ :=
    moves_seqTrip (recorded.hasTx has') (by rw [recorded.seq has']; exact standing) owner
  rw [origin] at mute
  rw [recorded.prot has', Protection.muted_eq] at muted
  have silenced := recorded.trans muted
  generalize u.seqTrip t owner = v at silenced ⊢
  cases o with
  | none => exact absurd rfl outcome
  | recovery =>
    have noticed := silenced.trans (moves_recoveryNotice_muted (silenced.hasTx has') (by rw [silenced.seq has']; exact state)
      (by rw [silenced.seq has']; exact mute) rfl (v.prot t).restart)
    rw [silenced.seq has', silenced.prot has'] at noticed
    have delivered : v.deliver t .recovery = v.recoveryNotice t p.restart := by
      show v.recoveryNotice t (v.prot t).restart = _
      rw [silenced.prot has']
    rw [delivered]
    refine ⟨noticed.clock, by rw [noticed.lc]; exact flag counted, (fun h => nomatch h), ⟨p.working, noticed.prot has'⟩, fun _ => ?_,
      (fun h => nomatch h)⟩
    rw [noticed.seq has']
    exact ⟨state, rfl⟩
  | lockout =>
    obtain ⟨q', locked, state'⟩ := moves_lockoutNotice_muted (silenced.hasTx has') (by rw [silenced.seq has']; exact state)
      (by rw [silenced.seq has']; exact houtstanding) horder
    rw [silenced.prot has', Protection.quenched_eq] at locked
    have noticed := silenced.trans locked
    refine ⟨noticed.clock, ?_, fun _ => ?_, ⟨p.working, noticed.prot has'⟩, (fun h => nomatch h), fun _ => ?_⟩
    · exact (congrArg (fun l : LinkController => l.alerts.getLsbD Alert.trip.bit) noticed.lc).trans (flag counted)
    · exact (congrArg (fun l : LinkController => l.alerts.getLsbD Alert.lockout.bit) noticed.lc).trans (lockoutFlag rfl)
    · exact (congrArg Sequencer.state (noticed.seq has')).trans state'

/-- A counted trip outside LOCKOUT has one of two outcomes. -/
theorem Protection.trip_cases {x : Protection} {cause : TripCause} (counted : cause.counted = true) (free : x.lockout = false)
    (code now w : Nat) : ∃ p o, x.trip cause code now w = (p, o) ∧ (o = .recovery ∨ o = .lockout) ∧
      p.counted = satSucc 65535 x.counted ∧ p.uncounted = x.uncounted ∧ p.lockout = decide (o = .lockout) ∧
      p.lastTrip = some (lastTripOf cause code now o) := by
  cases due : lockoutDue (appendHistory 3 x.history now) w with
  | true => exact ⟨_, _, Protection.trip_lockout counted free due code, .inr rfl, rfl, rfl, rfl, rfl⟩
  | false => exact ⟨_, _, Protection.trip_recovery counted free due code, .inl rfl, rfl, rfl, free, rfl⟩

/-! ## FAULT, R157 -/

/-- The sequencer enters FAULT: what is left of its orders is a quench. -/
theorem moves_seqFault (has : s.HasTx t) (cause : SeqFault) :
    ∃ q p u, s.seqFault t cause = u.alert .txLink ∧ Moves t s u q p ∧ q.state = .fault ∧ q.faultCause = some cause ∧
      q.deferred = [] ∧ ∀ x ∈ q.queue, x.owner = .quench := by
  have quenched : ∃ q p, Moves t s (if (s.seq t).mayHoldRf then (s.discardOrders t).takeQuench t else s.discardOrders t) q p ∧
      q.deferred = [] ∧ ∀ x ∈ q.queue, x.owner = .quench := by
    obtain ⟨l, discarded⟩ := moves_discardOrders has
    split
    · obtain ⟨l', silenced⟩ := moves_takeQuench (discarded.hasTx has)
      refine ⟨_, _, discarded.trans silenced, rfl, fun x hx => ?_⟩
      rw [List.mem_singleton.mp hx]
    · exact ⟨_, _, discarded, rfl, fun x hx => by cases hx⟩
  obtain ⟨q, p, silenced, deferred, queue⟩ := quenched
  have entered := silenced.trans (moves_enterSeq (silenced.hasTx has) .fault none)
  rw [silenced.seq has, silenced.prot has] at entered
  have marked := entered.setSeq has { q.entered .fault none with faultCause := some cause }
  refine ⟨_, _, _, ?_, marked, rfl, rfl, deferred, queue⟩
  unfold State.seqFault
  dsimp only
  rw [entered.seq has]

/-- What a fault leaves, read off the state. -/
theorem State.seqFault_leaves (has : s.HasTx t) (cause : SeqFault) :
    (s.seqFault t cause).clock = s.clock ∧ ((s.seqFault t cause).seq t).state = .fault ∧
      ((s.seqFault t cause).seq t).faultCause = some cause ∧ ((s.seqFault t cause).seq t).deferred = [] ∧
      (∀ x ∈ ((s.seqFault t cause).seq t).queue, x.owner = .quench) ∧ s.notices ⊆ (s.seqFault t cause).notices ∧
      (s.seqFault t cause).lc.alerts.getLsbD Alert.txLink.bit = true := by
  obtain ⟨q, p, u, eq, moved, state, hcause, deferred, queue⟩ := moves_seqFault has cause
  have seq : (s.seqFault t cause).seq t = q := by
    rw [eq]
    exact moved.seq has
  rw [seq]
  refine ⟨?_, state, hcause, deferred, queue, fun n hn => ?_, ?_⟩
  · rw [eq]
    exact moved.clock
  · rw [eq]
    exact moved.notices hn
  · rw [eq]
    exact State.alert_set _ _

theorem State.endOutstanding_posts {o : Outstanding} (out : (s.seq t).outstanding = some o) (e : OrderEnd) :
    .orderEnded t o.order.kind o.owner e ∈ (s.endOutstanding t e).notices := by
  unfold State.endOutstanding
  rw [out]
  exact List.mem_append_right _ (List.mem_singleton.mpr rfl)

theorem exec_orderDeadline {o : Outstanding} (out : (s.seq t).outstanding = some o) (due : s.clock ≤ o.sentAt + s.params.orderDs * 100) :
    exec (.orderDeadline t) s = .next
      (State.orderFailed { s with clock := o.sentAt + s.params.orderDs * 100 } t o.owner .timeout .orderTimeout).settled := by
  show execOrderDeadline t s = _
  simp only [execOrderDeadline, out]
  rw [State.reach_at due]

theorem exec_tuneTimeout {d : Nat} (state : (s.seq t).state = .tuning) (timer : (s.seq t).timer = some d) (due : s.clock ≤ d) :
    exec (.tuneTimeout t) s = .next (State.seqFault { s with clock := d } t .tuneTimeout).settled := by
  show execTuneTimeout t s = _
  simp only [execTuneTimeout, state, timer]
  rw [State.reach_at due]

theorem exec_offTimeout {d : Nat} (state : (s.seq t).state = .rampDown) (timer : (s.seq t).timer = some d) (due : s.clock ≤ d) :
    exec (.offTimeout t) s = .next (State.seqFault { s with clock := d } t .offTimeout).settled := by
  show execOffTimeout t s = _
  simp only [execOffTimeout, state, timer]
  rw [State.reach_at due]

theorem exec_rampFail {d : Nat} (state : (s.seq t).state = .rampUp) (timer : (s.seq t).timer = some d) (due : s.clock ≤ d) :
    exec (.rampFail t) s = .next (State.tripWith { s with clock := d } t .rampFail 0 .sequencer).settled := by
  show execRampFail t s = _
  simp only [execRampFail, state, timer]
  rw [State.reach_at due]

/-- Settles O42. -/
theorem timers_and_deadlines_fault_or_trip : Obligations.timers_and_deadlines_fault_or_trip := by
  refine ⟨fun t s sized h1 h12 => ⟨fun o out owner due => ?_, fun d state timer due => ?_, fun d state timer due => ?_⟩,
    fun t d s sized h1 h12 state timer due free => ?_⟩
  · have has := (sized.hasTx h1 h12).atClock (o.sentAt + s.params.orderDs * 100)
    have ended := moves_endOutstanding has (s := { s with clock := o.sentAt + s.params.orderDs * 100 }) out .timeout
    have posted := State.endOutstanding_posts (s := { s with clock := o.sentAt + s.params.orderDs * 100 }) out .timeout
    obtain ⟨clock, fault, cause, deferred, queue, notices, flag⟩ := State.seqFault_leaves (ended.hasTx has) .orderTimeout
    refine ⟨_, exec_orderDeadline out due, ?_⟩
    unfold State.orderFailed
    dsimp only
    rw [if_neg owner]
    exact ⟨clock.trans ended.clock, fault, cause, deferred, queue, notices posted, flag⟩
  · obtain ⟨clock, fault, cause, -, -, -, flag⟩ := State.seqFault_leaves ((sized.hasTx h1 h12).atClock d) .tuneTimeout
    exact ⟨_, exec_tuneTimeout state timer due, clock, fault, cause, flag⟩
  · obtain ⟨clock, fault, cause, -, -, -, flag⟩ := State.seqFault_leaves ((sized.hasTx h1 h12).atClock d) .offTimeout
    exact ⟨_, exec_offTimeout state timer due, clock, fault, cause, flag⟩
  · obtain ⟨p, o, trip, outcome, counted, uncounted, lockout, last⟩ :=
      Protection.trip_cases (x := s.prot t) (cause := .rampFail) rfl free 0 s.tb.elapsed s.pt.settings.tripWindowS
    have origin : State.originOf { s with clock := d } t .trip = .trip := if_neg (by show ¬(s.seq t).state = .rampDown; simp [state])
    have tripped := State.tripWith_tripped (s := { s with clock := d }) ((sized.hasTx h1 h12).atClock d)
      (by show (s.seq t).rfStanding = true; simp [Sequencer.rfStanding, state]) rfl trip (by rcases outcome with h | h <;> simp [h]) .sequencer
    rw [origin] at tripped
    obtain ⟨working, hp⟩ := tripped.protection
    refine ⟨_, exec_rampFail state timer due, tripped.clock, tripped.flag, ?_⟩
    rw [hp]
    refine ⟨counted, uncounted, rfl, fun unlocked => ?_, fun locked => ?_⟩
    · have recovered : o = .recovery := by
        rcases outcome with h | h
        · exact h
        · exfalso
          rw [h] at lockout
          rw [show p.lockout = false from unlocked] at lockout
          cases lockout
      subst recovered
      obtain ⟨muted, mute⟩ := tripped.recovers rfl
      exact ⟨muted, mute, last⟩
    · have lockedOut : o = .lockout := by
        rcases outcome with h | h
        · exfalso
          rw [h] at lockout
          rw [show p.lockout = true from locked] at lockout
          cases lockout
        · exact h
      subst lockedOut
      exact ⟨tripped.locks rfl, tripped.lockoutFlag rfl, last⟩

end Trips

end Sys2Proof.Machine

/-! # Recovery, fold-back and the settings of protection -/

namespace Sys2Proof.Machine

open Sys2Proof

section Recovery

variable {s : State} {t : Nat}

/-! ## The end of RECOVERY_WAIT, R155 -/

theorem moves_takeRfOff (has : s.HasTx t) (owner : OrderOwner) :
    ∃ q p, Moves t s (s.takeRfOff t owner) q p ∧ q.state = .rampDown := by
  unfold State.takeRfOff
  have entered := moves_enterSeq has .rampDown (some (s.clock + (2 * s.rampDown t + 10) * 100))
  obtain ⟨qu, c, f, out, l, queued⟩ := moves_enqueue (entered.hasTx has) (.rfOff (s.rampDown t)) owner
  rw [entered.seq has, entered.prot has] at queued
  exact ⟨_, _, entered.trans queued, rfl⟩

theorem moves_takeRfOn (has : s.HasTx t) (power feed : Nat) (owner : OrderOwner) :
    ∃ q, Moves t s (s.takeRfOn t power feed owner) q
        (Protection.ordered { s.prot t with ratio := none, warn := false } (.rfOn power (s.rampUp t) feed)) ∧
      q.state = .rampUp ∧ q.lastFeed = feed := by
  unfold State.takeRfOn
  dsimp only
  have entered := moves_enterSeq has .rampUp (some (s.clock + (2 * s.rampUp t + 10) * 100))
  have kept : (s.prot t).entered .rampUp = s.prot t := if_pos (.inl rfl)
  rw [kept] at entered
  generalize s.enterSeq t .rampUp (some (s.clock + (2 * s.rampUp t + 10) * 100)) = u at entered ⊢
  rw [entered.seq has]
  have fed := entered.setSeq has { (s.seq t).entered .rampUp (some (s.clock + (2 * s.rampUp t + 10) * 100)) with lastFeed := feed }
  rw [fed.prot has]
  have unmeasured := fed.setProt has { s.prot t with ratio := none, warn := false }
  generalize State.setProt (State.setSeq u t _) t _ = w at unmeasured ⊢
  have ramp : w.rampUp t = s.rampUp t := by
    unfold State.rampUp
    rw [unmeasured.tx]
  rw [ramp]
  obtain ⟨qu, c, f, out, l, queued⟩ := moves_enqueue (unmeasured.hasTx has) (.rfOn power (s.rampUp t) feed) owner
  rw [unmeasured.seq has, unmeasured.prot has] at queued
  exact ⟨_, unmeasured.trans queued, rfl, rfl⟩

theorem exec_recoveryWaitEnd {d : Nat} (state : (s.seq t).state = .recoveryWait) (timer : (s.seq t).timer = some d)
    (due : s.clock ≤ d) : exec (.recoveryWaitEnd t) s = .next (State.recoveryWaitTest { s with clock := d } t).settled := by
  show execRecoveryWaitEnd t s = _
  simp only [execRecoveryWaitEnd, state, timer]
  rw [State.reach_at due]

/-- A wait that has ended with nothing to restart for. -/
theorem State.recoveryWaitTest_off {d : Nat} (state : (s.seq t).state = .recoveryWait) (timer : (s.seq t).timer = some d)
    (ended : d ≤ s.clock) (nothing : s.restartFeed t = none) : s.recoveryWaitTest t = s.takeRfOff t .sequencer := by
  unfold State.recoveryWaitTest
  dsimp only
  rw [if_pos ⟨state, by rw [timer]; exact ended⟩]
  simp only [nothing]

/-- A wait that has ended restarts while the permit conditions hold, and goes on while they do not. -/
theorem State.recoveryWaitTest_restart {d feed : Nat} (state : (s.seq t).state = .recoveryWait) (timer : (s.seq t).timer = some d)
    (ended : d ≤ s.clock) (restarts : s.restartFeed t = some feed) :
    s.recoveryWaitTest t = if s.conditionsHold t then
      State.takeRfOn (s.setProt t { s.prot t with lastFold := some s.clock }) t ((s.seq t).restart.getD 0) feed .sequencer else s := by
  unfold State.recoveryWaitTest
  dsimp only
  rw [if_pos ⟨state, by rw [timer]; exact ended⟩]
  simp only [restarts]

theorem State.restartFeed_manual (h : (s.duty t).mode = .manual) : s.restartFeed t = none := by
  unfold State.restartFeed
  exact if_pos h

theorem State.restartFeed_current {e : CurrentEntry} (auto : (s.duty t).mode = .auto) (noChange : s.change t = none)
    (current : (s.duty t).current = some e) : s.restartFeed t = some e.feed := by
  unfold State.restartFeed
  simp only [auto, noChange, current]
  rfl

/-- Settles O43. -/
theorem recovery_wait_ends_in_restart_or_rf_off : Obligations.recovery_wait_ends_in_restart_or_rf_off := by
  intro t d s sized h1 h12 state timer due
  have has := (sized.hasTx h1 h12).atClock d
  rw [exec_recoveryWaitEnd state timer due]
  refine ⟨fun manual => ?_, fun e auto noChange current holds p restart nonzero => ?_, fun e auto noChange current fails => ?_⟩
  · obtain ⟨q, p, moved, down⟩ := moves_takeRfOff has .sequencer
    have ended := State.recoveryWaitTest_off (s := { s with clock := d }) state timer le_rfl (State.restartFeed_manual manual)
    refine ⟨_, rfl, ?_⟩
    rw [ended]
    exact ⟨moved.clock, (congrArg Sequencer.state (moved.seq has)).trans down⟩
  · have ended := State.recoveryWaitTest_restart (s := { s with clock := d }) state timer le_rfl
      (State.restartFeed_current auto noChange current)
    have folded := moves_setProt t { s with clock := d } { s.prot t with lastFold := some d }
    obtain ⟨q, moved, up, feed⟩ := moves_takeRfOn (folded.hasTx has) p e.feed .sequencer
    rw [folded.prot has] at moved
    have taken := folded.trans moved
    have restarts : State.recoveryWaitTest { s with clock := d } t =
        State.takeRfOn (State.setProt { s with clock := d } t { s.prot t with lastFold := some d }) t p e.feed .sequencer := by
      refine ended.trans ((if_pos holds).trans ?_)
      rw [show (State.seq { s with clock := d } t).restart = some p from restart]
      rfl
    refine ⟨_, rfl, ?_⟩
    rw [restarts, taken.seq has, taken.prot has]
    exact ⟨taken.clock, up, rfl, rfl, feed⟩
  · have ended := State.recoveryWaitTest_restart (s := { s with clock := d }) state timer le_rfl
      (State.restartFeed_current auto noChange current)
    have waits : State.recoveryWaitTest { s with clock := d } t = { s with clock := d } :=
      ended.trans (if_neg (by rw [show State.conditionsHold { s with clock := d } t = false from fails]; exact Bool.false_ne_true))
    rw [waits]

/-! ## Fold-back and restore, R166, R167 -/

/-- A POWER order of the Protection Unit in RAMP_UP or ON_AIR is taken at once. -/
theorem State.offerOrder_power (standing : (s.seq t).state = .rampUp ∨ (s.seq t).state = .onAir) (power : Nat) (owner : OrderOwner) :
    s.offerOrder t (.power power) owner = s.enqueue t (.power power) owner := by
  have notDown : (s.seq t).state ≠ .rampDown := by rcases standing with h | h <;> simp [h]
  unfold State.offerOrder
  rw [if_neg notDown]
  exact if_pos standing.symm

theorem moves_offerPower_sends (has : s.HasTx t) (onAir : (s.seq t).state = .onAir) (free : (s.seq t).outstanding = none)
    (empty : (s.seq t).queue = []) (p : Protection) (power : Nat) :
    Moves t s ((s.setProt t p).offerOrder t (.power power) .protection) ((s.seq t).sends (.power power) .protection s.clock)
      (p.ordered (.power power)) := by
  have set := moves_setProt t s p
  rw [State.offerOrder_power (.inr (by rw [set.seq has]; exact onAir))]
  have sent := set.trans (moves_enqueue_sends (set.hasTx has) (o := .power power) (by rw [set.seq has]; exact free)
    (by rw [set.seq has]; exact empty) rfl .protection)
  rw [set.seq has, set.prot has] at sent
  exact sent

theorem State.foldStep_above (h : (s.prot t).floor ≤ foldOf (s.prot t).commanded) :
    s.foldStep t = (s.setProt t { s.prot t with folded := true, lastFold := some s.clock }).offerOrder t
      (.power (foldOf (s.prot t).commanded)) .protection := if_neg (Nat.not_lt.mpr h)

/-- A restore step below its limit leaves FOLDED and begins the run anew; one that reaches the limit ends both. -/
theorem State.restoreStep_eq {limit : Nat} (h : (s.prot t).limit = some limit) :
    s.restoreStep t = (s.setProt t { s.prot t with
        restoreRun := if limit ≤ restoreOf (s.prot t).commanded then none else some s.clock
        folded := (s.prot t).folded && !decide (limit ≤ restoreOf (s.prot t).commanded) }).offerOrder t
      (.power (min limit (restoreOf (s.prot t).commanded))) .protection := by
  have full : ((s.prot t).limit == some (min limit (restoreOf (s.prot t).commanded))) =
      decide (limit ≤ restoreOf (s.prot t).commanded) := by
    rw [h, Bool.eq_iff_iff]
    simp
  unfold State.restoreStep
  dsimp only
  rw [h] at full ⊢
  dsimp only
  rw [full]
  simp only [decide_eq_true_eq]

theorem State.restoreRunStep_none (h : (s.prot t).restoreRun = none) :
    s.restoreRunStep t = s.setProt t { s.prot t with restoreRun := some s.clock } := by
  unfold State.restoreRunStep
  simp only [h]

theorem State.restoreRunStep_early {m : Nat} (h : (s.prot t).restoreRun = some m)
    (early : s.clock < m + s.pt.settings.restoreIntervalS * 1000) : s.restoreRunStep t = s := by
  unfold State.restoreRunStep
  simp only [h]
  exact if_neg (Nat.not_le.mpr early)

theorem State.restoreRunStep_due {m : Nat} (h : (s.prot t).restoreRun = some m)
    (due : m + s.pt.settings.restoreIntervalS * 1000 ≤ s.clock) : s.restoreRunStep t = s.restoreStep t := by
  unfold State.restoreRunStep
  simp only [h]
  exact if_pos due

/-- Settles O46. -/
theorem fold_and_restore_steps_change_the_power : Obligations.fold_and_restore_steps_change_the_power := by
  rintro t s x sized h1 h12 rfl onAir free empty floor
  have has := sized.hasTx h1 h12
  refine ⟨fun below => if_pos below, fun above => ?_, fun run => State.restoreRunStep_none run,
    fun m limit run hlimit l1 c1 => ⟨fun early => State.restoreRunStep_early run early, fun due => ?_⟩⟩
  · have sent := moves_offerPower_sends has onAir free empty { s.prot t with folded := true, lastFold := some s.clock }
      (foldOf (s.prot t).commanded)
    rw [State.foldStep_above above, sent.seq has, sent.prot has]
    exact ⟨rfl, rfl, rfl, onAir, rfl⟩
  · have sent := moves_offerPower_sends has onAir free empty { s.prot t with
      restoreRun := if limit ≤ restoreOf (s.prot t).commanded then none else some s.clock
      folded := (s.prot t).folded && !decide (limit ≤ restoreOf (s.prot t).commanded) } (min limit (restoreOf (s.prot t).commanded))
    rw [State.restoreRunStep_due run due, State.restoreStep_eq hlimit, sent.seq has, sent.prot has]
    refine ⟨rfl, onAir, rfl, fun full => ?_, fun short => ?_⟩
    · have reached : limit ≤ restoreOf (s.prot t).commanded := full
      simp [Protection.ordered, Protection.command, reached]
    · have notReached : ¬limit ≤ restoreOf (s.prot t).commanded := Nat.not_le.mpr short
      simp [Protection.ordered, Protection.command, notReached]

/-! ## PROT_SET and LOCKOUT_CLEAR, R172, R174 -/

theorem exec_protSet (h : s.ready) {p : ProtSettings} (range : ProtSettings.inRange p = true) :
    exec (.protSet p) s = .next (State.answer { s.received with pt := { s.pt with settings := p } } 0x68 .ok []) := by
  show execProtSet p s = _
  exact hostRequest_handled h (checks := fun _ => [(!ProtSettings.inRange p, .range)]) (by simp [range])

theorem exec_protSet_refused (h : s.ready) {p : ProtSettings} (range : ProtSettings.inRange p = false) :
    exec (.protSet p) s = .next (s.received.answer 0x68 .range []) := by
  show execProtSet p s = _
  exact hostRequest_handle_refused h (checks := fun _ => [(!ProtSettings.inRange p, .range)]) (by simp [range])

theorem exec_lockoutClear (h : s.ready) (h1 : 1 ≤ t) (ht : t ≤ s.params.txCount) :
    exec (.lockoutClear t) s =
      .next (State.settled ((s.received.clearLockout t).answer 0x6A .ok (flag (s.prot t).lockout))) := by
  show execLockoutClear t s = _
  exact hostRequest_accepted h (checks := fun u => [(u.badTx t, .range)]) (find?_check_passed (badTx_eq_false h1 ht))

theorem State.clearLockout_free (free : (s.prot t).lockout = false) :
    s.clearLockout t = s.setProt t { s.prot t with history := [] } := by
  unfold State.clearLockout
  rw [free]
  exact if_neg Bool.false_ne_true

theorem moves_clearLockout (has : s.HasTx t) (locked : (s.prot t).lockout = true) (state : (s.seq t).state = .lockout) :
    Moves t s (s.clearLockout t) ((s.seq t).entered (if (s.seq t).link = .lost then .linkLost else .off) none)
      (Protection.entered { s.prot t with history := [], lockout := false } (if (s.seq t).link = .lost then .linkLost else .off)) := by
  have cleared := moves_setProt t s { s.prot t with history := [], lockout := false }
  unfold State.clearLockout State.leaveLockout
  rw [if_pos locked, if_pos (by rw [cleared.seq has]; exact state)]
  have entered := cleared.trans (moves_enterSeq (cleared.hasTx has)
    (if ((s.setProt t { s.prot t with history := [], lockout := false }).seq t).link = .lost then .linkLost else .off) none)
  rw [cleared.seq has, cleared.prot has] at entered
  rw [cleared.seq has]
  exact entered.postOnce _

theorem Protection.entered_keeps (p : Protection) (st : SeqState) : (p.entered st).lockout = p.lockout ∧
    (p.entered st).history = p.history := by
  unfold Protection.entered
  split
  · exact ⟨rfl, rfl⟩
  · exact ⟨rfl, rfl⟩

/-- Settles O48. -/
theorem prot_set_and_lockout_clear_take_effect : Obligations.prot_set_and_lockout_clear_take_effect := by
  refine ⟨fun p s h => ⟨fun range => ⟨exec_protSet h range, ?_⟩, exec_protSet_refused h⟩,
    fun t s h sized h1 h12 ht => ⟨fun free => ?_, fun locked state => ?_⟩⟩
  · simp only [ProtSettings.inRange, Bool.and_eq_true, decide_eq_true_eq] at range
    omega
  · rw [exec_lockoutClear h h1 ht, free, State.clearLockout_free (s := s.received) free]
    rfl
  · have has : s.received.HasTx t := ⟨h1, (sized.hasTx h1 h12).sequencers, (sized.hasTx h1 h12).protections⟩
    have moved := moves_clearLockout has locked state
    obtain ⟨unlocked, emptied⟩ := Protection.entered_keeps { s.prot t with history := [], lockout := false }
      (if (s.seq t).link = .lost then .linkLost else .off)
    refine ⟨s.received.clearLockout t, ?_, ?_⟩
    · rw [exec_lockoutClear h h1 ht, locked]
      rfl
    · rw [moved.seq has, moved.prot has]
      exact ⟨unlocked, emptied, rfl, rfl, fun k hk => ⟨moved.seq_ne hk, moved.prot_ne hk⟩⟩

end Recovery

end Sys2Proof.Machine

/-! # Movers -/

namespace Sys2Proof.Machine

open Sys2Proof

section Movers

variable {s u v : State} {m : Nat}

/-! ## What follows a change of a mover -/

/-- What the outcomes and faults of a mover reach beside the movers: notices, alerts, row faults and fault sets. -/
def Aftermath (s u : State) : Prop :=
  ∃ ns lc rf ld, u = { s with notices := ns, lc := lc, mc := { s.mc with rowFaults := rf }, ld := ld } ∧
    ∀ i, s.lc.alerts.getLsbD i = true → lc.alerts.getLsbD i = true

theorem Aftermath.refl (s : State) : Aftermath s s := ⟨s.notices, s.lc, s.mc.rowFaults, s.ld, rfl, fun _ h => h⟩

theorem Aftermath.trans (first : Aftermath s u) (second : Aftermath u v) : Aftermath s v := by
  obtain ⟨ns, lc, rf, ld, rfl, kept⟩ := first
  obtain ⟨ns', lc', rf', ld', rfl, kept'⟩ := second
  exact ⟨ns', lc', rf', ld', rfl, fun i h => kept' i (kept i h)⟩

theorem Aftermath.alerts (h : Aftermath s u) {i : Nat} (set : s.lc.alerts.getLsbD i = true) : u.lc.alerts.getLsbD i = true := by
  obtain ⟨ns, lc, rf, ld, rfl, kept⟩ := h
  exact kept i set

theorem Aftermath.movers (h : Aftermath s u) : u.mc.movers = s.mc.movers := by
  obtain ⟨ns, lc, rf, ld, rfl, -⟩ := h
  rfl

theorem Aftermath.mover (h : Aftermath s u) (k : Nat) : u.mover k = s.mover k := by
  unfold State.mover
  rw [h.movers]

theorem Aftermath.clock (h : Aftermath s u) : u.clock = s.clock := by
  obtain ⟨ns, lc, rf, ld, rfl, -⟩ := h
  rfl

theorem Aftermath.claims (h : Aftermath s u) : u.mc.claims = s.mc.claims := by
  obtain ⟨ns, lc, rf, ld, rfl, -⟩ := h
  rfl

theorem Aftermath.survey (h : Aftermath s u) : u.mc.survey = s.mc.survey ∧ u.mc.surveyed = s.mc.surveyed := by
  obtain ⟨ns, lc, rf, ld, rfl, -⟩ := h
  exact ⟨rfl, rfl⟩

/-- Further notices alone. -/
theorem Aftermath.posts (s : State) (ns : List Notice) : Aftermath s { s with notices := ns } :=
  ⟨ns, s.lc, s.mc.rowFaults, s.ld, rfl, fun _ h => h⟩

theorem Aftermath.alert (h : Aftermath s u) (f : Alert) : Aftermath s (u.alert f) := by
  refine h.trans ⟨u.notices, (u.alert f).lc, u.mc.rowFaults, u.ld, rfl, fun i set => ?_⟩
  show (u.lc.alerts ||| _).getLsbD i = true
  rw [BitVec.getLsbD_or, set, Bool.true_or]

theorem Aftermath.postOnce (h : Aftermath s u) (n : Notice) : Aftermath s (u.postOnce n) := h.trans (Aftermath.posts u _)

theorem Aftermath.post (h : Aftermath s u) (n : Notice) : Aftermath s (u.post n) := h.trans (Aftermath.posts u _)

/-- A requester is told by notices alone (R107). -/
theorem State.tell_posts (s : State) (m : Nat) (fault : Bool) (r : Requester) : ∃ ns, s.tell m fault r = { s with notices := ns } := by
  cases r with
  | executor t => exact ⟨_, rfl⟩
  | diagRun => cases fault <;> exact ⟨_, rfl⟩
  | diagPreUse => cases fault <;> exact ⟨_, rfl⟩
  | host => exact ⟨s.notices, rfl⟩
  | survey => exact ⟨_, rfl⟩

theorem State.tellAll_posts (s : State) (m : Nat) (fault : Bool) (rs : List Requester) :
    ∃ ns, s.tellAll m fault rs = { s with notices := ns } := by
  induction rs generalizing s with
  | nil => exact ⟨s.notices, rfl⟩
  | cons r rs ih =>
    obtain ⟨ns, first⟩ := s.tell_posts m fault r
    obtain ⟨ns', rest⟩ := ih (s.tell m fault r)
    refine ⟨ns', ?_⟩
    show State.tellAll (s.tell m fault r) m fault rs = _
    rw [rest, first]

theorem Aftermath.tellAll (h : Aftermath s u) (m : Nat) (fault : Bool) (rs : List Requester) : Aftermath s (u.tellAll m fault rs) := by
  obtain ⟨ns, eq⟩ := u.tellAll_posts m fault rs
  rw [eq]
  exact h.trans (Aftermath.posts u ns)

theorem Aftermath.addFault (h : Aftermath s u) (a : Nat) (f : FaultFlag) : Aftermath s (u.addFault a f) := by
  unfold State.addFault
  split
  · exact h
  · split
    · exact h
    · have set : Aftermath u (u.setFaultSet a (u.faultSet a ||| f.mask)) := ⟨_, _, _, _, rfl, fun _ hi => hi⟩
      exact (((h.trans set).alert _).postOnce _).post _

theorem Aftermath.addRowFault (h : Aftermath s u) (t : Nat) (c : RowCause) : Aftermath s (u.addRowFault t c) := by
  have set : Aftermath u (u.setRowFault t (addOnce (u.rowFault t) c)) := ⟨_, _, _, _, rfl, fun _ hi => hi⟩
  unfold State.addRowFault
  dsimp only
  split
  · exact ((h.trans set).postOnce _).post _
  · exact h.trans set

/-! ## Numbers of movers -/

theorem State.present_number (h : s.present m = true) : 1 ≤ m ∧ m ≤ 372 := by
  simp only [State.present, Bool.and_eq_true, within, decide_eq_true_eq] at h
  exact h.1

theorem rowOfMover_range {t : Nat} (h1 : 1 ≤ m) (h : rowOfMover m = some t) : 1 ≤ t ∧ t ≤ 12 := by
  unfold rowOfMover kindOf at h
  split_ifs at h with crosspoint park test slew
  · obtain rfl := Option.some.inj h
    omega
  · obtain rfl := Option.some.inj h
    omega

theorem State.mover_withMover (sized : s.sized) (present : s.present m = true) (x : Mover) : (s.setMover m x).mover m = x := by
  obtain ⟨-, -, -, -, ⟨movers, -⟩, -⟩ := State.sized_iff.mp sized
  obtain ⟨h1, h372⟩ := State.present_number present
  exact s.mover_setMover m x h1 (by omega)

/-! ## A fault, R102 to R104 -/

/-- The record of a mover that has gained a fault. -/
def Mover.faulted (x : Mover) (f : MoverFault) : Mover :=
  { Mover.reset x.contacts with fault := some f, target := if f = .timeout then x.target else none }

/-- A faulted mover as it is written, before its requesters are told. -/
def State.withFault (s : State) (m : Nat) (f : MoverFault) : State :=
  { s.setMover m ((s.mover m).faulted f) with
    mc := { (s.setMover m ((s.mover m).faulted f)).mc with haltList := s.mc.haltList.filter (· != m) } }

/-- The faulted mover with its requesters told and MOVER set. -/
def State.faultTold (s : State) (m : Nat) (f : MoverFault) : State :=
  (((s.withFault m f).tellAll m true (s.mover m).askers).tellAll m true (s.mover m).waiters).alert .mover

/-- A fault of a switch of a row gives the row its fault. -/
theorem State.faultMover_row {t : Nat} (f : MoverFault) (row : rowOfMover m = some t) :
    s.faultMover m f = (((s.faultTold m f).addRowFault t .mover).postOnce .matrix).postOnce .survey := by
  unfold rowOfMover at row
  unfold State.faultMover
  dsimp only
  split
  next t' a hk => rw [hk] at row; obtain rfl := Option.some.inj row; rfl
  next t' hk => rw [hk] at row; obtain rfl := Option.some.inj row; rfl
  next a hk => rw [hk] at row; cases row
  next a hk => rw [hk] at row; cases row
  next a hk => rw [hk] at row; cases row

/-- A fault of another mover gives its antenna the flag DRIVE. -/
theorem State.faultMover_antenna (f : MoverFault) (row : rowOfMover m = none) :
    ∃ a, s.faultMover m f = (((s.faultTold m f).addFault a .drive).postOnce .matrix).postOnce .survey := by
  unfold rowOfMover at row
  unfold State.faultMover
  dsimp only
  split
  next t' a hk => rw [hk] at row; cases row
  next t' hk => rw [hk] at row; cases row
  next a hk => exact ⟨a, rfl⟩
  next a hk => exact ⟨a, rfl⟩
  next a hk => exact ⟨a, rfl⟩

/-- A fault tells every requester, sets MOVER, and gives the row its fault or the antenna its flag. -/
theorem State.faultMover_aftermath (s : State) (m : Nat) (f : MoverFault) : Aftermath (s.withFault m f) (s.faultMover m f) ∧
    (s.faultMover m f).lc.alerts.getLsbD Alert.mover.bit = true := by
  have told : Aftermath (s.withFault m f) (s.faultTold m f) := (((Aftermath.refl _).tellAll _ _ _).tellAll _ _ _).alert _
  have flagged : (s.faultTold m f).lc.alerts.getLsbD Alert.mover.bit = true := State.alert_set _ .mover
  have after : Aftermath (s.faultTold m f) (s.faultMover m f) := by
    cases row : rowOfMover m with
    | some t =>
      rw [State.faultMover_row f row]
      exact (((Aftermath.refl _).addRowFault t _).postOnce _).postOnce _
    | none =>
      obtain ⟨a, eq⟩ := State.faultMover_antenna (s := s) f row
      rw [eq]
      exact (((Aftermath.refl _).addFault a _).postOnce _).postOnce _
  exact ⟨told.trans after, after.alerts flagged⟩

/-- A row fault stands where a cause has been added. -/
theorem State.addRowFault_stands {t : Nat} (h1 : 1 ≤ t) (h : t ≤ s.mc.rowFaults.length) (c : RowCause) :
    (s.addRowFault t c).rowFault t ≠ [] := by
  have written : (s.setRowFault t (addOnce (s.rowFault t) c)).rowFault t = addOnce (s.rowFault t) c := nth_setNth_self _ _ _ _ h1 h
  have nonempty : addOnce (s.rowFault t) c ≠ [] := by
    unfold addOnce
    split
    · exact List.ne_nil_of_mem ‹_›
    · simp
  unfold State.addRowFault
  dsimp only
  split
  · exact fun empty => nonempty (written.symm.trans empty)
  · exact fun empty => nonempty (written.symm.trans empty)

theorem State.faultTold_rowFaults (s : State) (m : Nat) (f : MoverFault) : (s.faultTold m f).mc.rowFaults = s.mc.rowFaults := by
  obtain ⟨ns, eq⟩ := (s.withFault m f).tellAll_posts m true (s.mover m).askers
  obtain ⟨ns', eq'⟩ := ((s.withFault m f).tellAll m true (s.mover m).askers).tellAll_posts m true (s.mover m).waiters
  unfold State.faultTold
  rw [eq', eq]
  rfl

theorem State.faultMover_rowFault (f : MoverFault) {t : Nat} (h1 : 1 ≤ m) (rows : s.mc.rowFaults.length = 12)
    (row : rowOfMover m = some t) : (s.faultMover m f).rowFault t ≠ [] := by
  obtain ⟨ht1, ht⟩ := rowOfMover_range h1 row
  rw [State.faultMover_row f row]
  exact State.addRowFault_stands (s := s.faultTold m f) ht1 (by rw [State.faultTold_rowFaults, rows]; exact ht) .mover

/-- What a fault leaves of the movers. -/
theorem State.faultMover_movers (sized : s.sized) (present : s.present m = true) (f : MoverFault) :
    (s.faultMover m f).mover m = (s.mover m).faulted f ∧ ∀ k, k ≠ m → (s.faultMover m f).mover k = s.mover k := by
  obtain ⟨after, -⟩ := s.faultMover_aftermath m f
  refine ⟨?_, fun k hk => ?_⟩
  · rw [after.mover]
    exact State.mover_withMover sized present _
  · rw [after.mover]
    exact s.mover_setMover_ne m k _ hk

theorem State.faultMover_clock (s : State) (m : Nat) (f : MoverFault) : (s.faultMover m f).clock = s.clock :=
  (s.faultMover_aftermath m f).1.clock

/-! ## Travel timers and contacts -/

theorem exec_travelTimeout {d : Nat} (moving : (s.mover m).inMotion = true) (timer : (s.mover m).timer = some d)
    (due : s.clock ≤ d) : exec (.travelTimeout m) s = .next (State.faultMover { s with clock := d } m .timeout).settled := by
  show execTravelTimeout m s = _
  simp only [execTravelTimeout, moving, timer]
  rw [State.reach_at due]

theorem exec_contactChange {p : Position} {made : Bool} (h : s.present m = true) (has : (kindOf m).hasPosition p = true)
    (change : (s.mover m).contacts.contains p ≠ made) :
    exec (.contactChange m p made) s = .next (s.contactChanges m p made).settled := by
  obtain ⟨h1, h372⟩ := State.present_number h
  have other : ((s.mover m).contacts.contains p == made) = false := by simpa using change
  show execContactChange m p made s = _
  unfold execContactChange
  refine if_neg ?_
  rw [other]
  simp [within, h1, h372, has]

/-- The state with the contacts of one mover as they now stand. -/
def State.withContacts (s : State) (m : Nat) (contacts : List Position) : State := s.setMover m { s.mover m with contacts := contacts }

theorem State.contactChanges_conflict {p : Position} {made : Bool} (present : s.present m = true)
    (conflict : (s.mover m).contacts.length < 2 ∧ 2 ≤ (contactsAfter (s.mover m).contacts p made).length) :
    s.contactChanges m p made = (s.withContacts m (contactsAfter (s.mover m).contacts p made)).faultMover m .conflict := by
  unfold State.contactChanges
  dsimp only
  rw [if_neg (by simp [present])]
  exact if_pos conflict

theorem State.withContacts_sized (sized : s.sized) (m : Nat) (contacts : List Position) : (s.withContacts m contacts).sized := by
  obtain ⟨ht, pu, tq, pt, ⟨movers, rest⟩, se, ld, pc⟩ := State.sized_iff.mp sized
  exact State.sized_iff.mpr ⟨ht, pu, tq, pt, ⟨(setNth_length _ _ _).trans movers, rest⟩, se, ld, pc⟩

/-- Settles O34. -/
theorem timeout_and_conflict_fault_the_mover : Obligations.timeout_and_conflict_fault_the_mover := by
  rintro m s x sized present rfl
  obtain ⟨h1, h372⟩ := State.present_number present
  obtain ⟨-, -, -, -, ⟨movers, rowFaults, -⟩, -⟩ := State.sized_iff.mp sized
  refine ⟨fun d moving timer due => ?_, fun p q contacts other has => ?_⟩
  · have later : State.sized { s with clock := d } := sized
    obtain ⟨self, others⟩ := State.faultMover_movers later present .timeout
    exact ⟨_, exec_travelTimeout moving timer due, State.faultMover_clock _ m _, others, self,
      (State.faultMover_aftermath _ m .timeout).2, fun t row => State.faultMover_rowFault .timeout h1 rowFaults row⟩
  · have fresh : ¬p ∈ (s.mover m).contacts := by
      rw [contacts]
      simpa using other
    have after : contactsAfter (s.mover m).contacts p true = [q, p] := by
      show addOnce (s.mover m).contacts p = _
      rw [addOnce, if_neg fresh, contacts]
      rfl
    have two := State.contactChanges_conflict (p := p) (made := true) present (by rw [after, contacts]; exact ⟨Nat.one_lt_two, le_rfl⟩)
    have changed := exec_contactChange present has (made := true) (by simpa using fresh)
    rw [two, after] at changed
    have held : (s.withContacts m [q, p]).mover m = { s.mover m with contacts := [q, p] } := State.mover_withMover sized present _
    obtain ⟨self, others⟩ := State.faultMover_movers (State.withContacts_sized sized m [q, p]) present .conflict
    rw [held] at self
    exact ⟨_, changed, fun k hk => (others k hk).trans (s.mover_setMover_ne m k _ hk), self,
      (State.faultMover_aftermath _ m .conflict).2, fun t row => State.faultMover_rowFault .conflict h1 rowFaults row⟩

end Movers

end Sys2Proof.Machine

/-! # Windows, watches, reads and requests of the movers -/

namespace Sys2Proof.Machine

open Sys2Proof

section MoverEvents

variable {s u : State} {m : Nat}

/-! ## A motion from contact to confirmation, R101 -/

/-- Two writes of a mover are the last one. -/
theorem State.setMover_setMover (s : State) (m : Nat) (x y : Mover) : (s.setMover m x).setMover m y = s.setMover m y := by
  simp only [State.setMover, setNth_setNth]

theorem State.beginSettle_window (settle : s.params.settle ≠ 0) :
    s.beginSettle m = s.setMover m { s.mover m with phase := .settling, window := some (s.clock + s.params.settle * 4) } :=
  if_neg settle

theorem State.beginValidate_window (validate : s.params.validate ≠ 0) :
    s.beginValidate m = s.setMover m { s.mover m with phase := .validating, window := some (s.clock + s.params.validate * 4) } :=
  if_neg validate

theorem State.contactMoves_target {p : Position} (sound : (s.mover m).fault = none) (target : (s.mover m).target = some p)
    (moving : (s.mover m).phase = .moving) : s.contactMoves m p true = s.beginSettle m := by
  unfold State.contactMoves
  simp only [sound, moving, target, Option.isSome_none, Bool.false_eq_true, if_false, beq_self_eq_true, Bool.and_self, if_true]

/-- The target contact of a moving mover makes: SETTLING begins. -/
theorem State.contactChanges_settles {p : Position} {x : Mover} (sized : s.sized) (present : s.present m = true) (hx : x = s.mover m)
    (sound : x.fault = none) (target : x.target = some p) (moving : x.phase = .moving) (empty : x.contacts = [])
    (settle : s.params.settle ≠ 0) :
    s.contactChanges m p true = s.setMover m { x with
      contacts := [p], phase := .settling, window := some (s.clock + s.params.settle * 4)
      reading := x.reading.map fun r => { r with steady := none } } := by
  subst hx
  have contacts : contactsAfter (s.mover m).contacts p true = [p] := by
    rw [empty]
    simp [contactsAfter, addOnce]
  have made : (s.setMover m { s.mover m with contacts := [p] }).mover m = { s.mover m with contacts := [p] } :=
    State.mover_withMover sized present _
  have read : (s.setMover m { s.mover m with contacts := [p] }).setMover m
      ((s.setMover m { s.mover m with contacts := [p] }).mover m).readDisturbed =
      s.setMover m { s.mover m with contacts := [p], reading := (s.mover m).reading.map fun r => { r with steady := none } } := by
    rw [made, State.setMover_setMover]
    rfl
  have held : (s.setMover m { s.mover m with
      contacts := [p], reading := (s.mover m).reading.map fun r => { r with steady := none } }).mover m =
      { s.mover m with contacts := [p], reading := (s.mover m).reading.map fun r => { r with steady := none } } :=
    State.mover_withMover sized present _
  unfold State.contactChanges
  dsimp only
  rw [if_neg (by simp [present]), contacts, if_neg (by simp), read]
  rw [State.contactMoves_target (by rw [held]; exact sound) (by rw [held]; exact target) (by rw [held]; exact moving),
    State.beginSettle_window (by exact settle), held, State.setMover_setMover]
  rfl

theorem exec_settleEnd {w : Nat} (phase : (s.mover m).phase = .settling) (window : (s.mover m).window = some w) (due : s.clock ≤ w) :
    exec (.settleEnd m) s = .next (State.settleEnds { s with clock := w } m).settled := by
  show execSettleEnd m s = _
  simp only [execSettleEnd, phase, window]
  rw [State.reach_at due]

theorem State.settleEnds_made {p : Position} (target : (s.mover m).target = some p) (made : p ∈ (s.mover m).contacts) :
    s.settleEnds m = s.beginValidate m := by
  unfold State.settleEnds
  dsimp only
  rw [target]
  exact if_pos (by simpa using made)

theorem exec_validateEnd {w : Nat} (phase : (s.mover m).phase = .validating) (window : (s.mover m).window = some w)
    (due : s.clock ≤ w) : exec (.validateEnd m) s = .next (State.confirmMover { s with clock := w } m).settled := by
  show execValidateEnd m s = _
  simp only [execValidateEnd, phase, window]
  rw [State.reach_at due]

/-- The motion of the host has ended: the mover is confirmed at its target, and nothing else is asked of it. -/
theorem State.confirmMover_host (host : (s.mover m).requester = some .host) (alone : (s.mover m).joined = [])
    (last : (s.mover m).followOn = none) :
    s.confirmMover m = (s.setMover m { (s.mover m).idle with confirmed := (s.mover m).target, followOn := none }).postOnce .matrix := by
  unfold State.confirmMover Mover.askers
  simp only [host, alone, last]
  rfl

/-! ## Watches and reads, R105, R118 -/

theorem exec_watchEnd {w : Watch} (watch : (s.mover m).watch = some w) (due : s.clock ≤ w.endsAt) :
    exec (.watchEnd m) s = .next (State.watchEnds { s with clock := w.endsAt } m w).settled := by
  show execWatchEnd m s = _
  simp only [execWatchEnd, watch]
  rw [State.reach_at due]

theorem State.isGlitch_iff (s : State) (w : Watch) :
    s.isGlitch w = true ↔ ∃ k, w.madeSince = some k ∧ k + s.params.validate * 4 ≤ w.endsAt := by
  unfold State.isGlitch
  cases w.madeSince with
  | none => simp
  | some k => simp

theorem exec_moverReadEnd {r : MoverRead} (reading : (s.mover m).reading = some r) (due : s.clock ≤ r.endsAt) :
    exec (.moverReadEnd m) s = .next (State.endRead { s with clock := r.endsAt } m r).settled := by
  show execMoverReadEnd m s = _
  simp only [execMoverReadEnd, reading]
  rw [State.reach_at due]

theorem State.endRead_rest {r : MoverRead} (rest : (s.mover m).phase = .rest) :
    s.endRead m r = ((s.setMover m { s.mover m with reading := none, confirmed := r.steady, watch := none }).postOnce .matrix).postOnce
      .survey := by
  unfold State.endRead
  dsimp only
  rw [if_pos (.inl rest)]

/-- Settles O33. -/
theorem contacts_windows_watches_and_reads_end_as_found : Obligations.contacts_windows_watches_and_reads_end_as_found := by
  refine ⟨?_, ?_⟩
  · rintro m p s x sized present rfl sound target last has settle validate
    refine ⟨fun moving empty => ?_, fun w settling window due made => ?_, fun w validating window due host alone => ?_⟩
    · have changed := exec_contactChange present has (made := true) (by rw [empty]; simp)
      have settles := State.contactChanges_settles sized present rfl sound target moving empty settle
      refine ⟨_, changed, fun k hk => ?_, ?_⟩
      · rw [settles]
        exact s.mover_setMover_ne m k _ hk
      · rw [settles]
        exact State.mover_withMover sized present _
    · have later : State.sized { s with clock := w } := sized
      have begins := (State.settleEnds_made (s := { s with clock := w }) target made).trans (State.beginValidate_window validate)
      refine ⟨_, exec_settleEnd settling window due, ?_, fun k hk => ?_, ?_⟩
      · rw [begins]
        rfl
      · rw [begins]
        exact State.mover_setMover_ne _ m k _ hk
      · rw [begins]
        exact State.mover_withMover later present _
    · have later : State.sized { s with clock := w } := sized
      have confirmed := State.confirmMover_host (s := { s with clock := w }) host alone last
      refine ⟨_, exec_validateEnd validating window due, ?_, fun k hk => ?_, ?_⟩
      · rw [confirmed]
        rfl
      · rw [confirmed]
        exact State.mover_setMover_ne { s with clock := w } m k _ hk
      · rw [confirmed]
        refine (State.mover_withMover later present _).trans ?_
        show ({ (s.mover m).idle with confirmed := (s.mover m).target, followOn := none } : Mover) = _
        rw [target, last, alone]
        rfl
  · rintro m s x sized present rfl unasked alone last
    refine ⟨fun w watch due => ⟨fun k made glitch => ?_, fun lost => ?_⟩, fun r reading due rest => ?_⟩
    · have judged : State.isGlitch { s with clock := w.endsAt } w = true := (State.isGlitch_iff _ _).mpr ⟨k, made, glitch⟩
      rw [exec_watchEnd watch due]
      exact congrArg (fun v : State => Host.Outcome.next v.settled) (if_pos judged)
    · have judged : ¬State.isGlitch { s with clock := w.endsAt } w = true := fun glitch => by
        obtain ⟨k, made, inTime⟩ := (State.isGlitch_iff _ _).mp glitch
        exact absurd inTime (Nat.not_le.mpr (lost k made))
      have faulted : State.watchEnds { s with clock := w.endsAt } m w = State.faultMover { s with clock := w.endsAt } m .lost :=
        if_neg judged
      have later : State.sized { s with clock := w.endsAt } := sized
      refine ⟨_, exec_watchEnd watch due, ?_, ?_⟩
      · rw [faulted]
        exact (State.faultMover_movers later present .lost).1
      · rw [faulted]
        exact (State.faultMover_aftermath _ m .lost).2
    · rw [exec_moverReadEnd reading due, State.endRead_rest (s := { s with clock := r.endsAt }) rest]
      rfl

/-! ## MOVE, R108, R120 -/

theorem exec_move {code : Nat} {p : Position} (h : s.ready) (present : s.present m = true) (target : s.moveTarget m code = some p)
    (complete : s.surveyRunning = false) (sound : (s.mover m).fault = none) (allowed : s.moveAllowed m = true) :
    exec (.move m code) s = .next (State.settled ((s.received.requestMotion m p .host 3).answer 0x50 .ok [])) := by
  have pass : (s.moveChecks m code).find? (fun c => c.1) = none := by
    simp [State.moveChecks, present, target, complete, sound, allowed]
  have moves : s.received.hostMove m code = s.received.requestMotion m p .host 3 := by
    unfold State.hostMove
    rw [show s.received.moveTarget m code = some p from target]
  show execMove m code s = _
  rw [← moves]
  exact hostRequest_accepted h pass

/-- A request for a mover at REST away from the position asked for is queued with the next age stamp. -/
theorem State.requestMotion_rest {p : Position} {r : Requester} {priority : Nat} (present : s.present m = true)
    (sound : (s.mover m).fault = none) (rest : (s.mover m).phase = .rest) (away : (s.mover m).confirmedAt ≠ some p) :
    s.requestMotion m p r priority = (State.setMover { s with mc := { s.mc with ageCounter := s.mc.ageCounter + 1 } } m
      { s.mover m with phase := .queued, target := some p, requester := some r, priority := priority, age := s.mc.ageCounter
                       joined := [] }).postOnce .arbiter := by
  unfold State.requestMotion State.admitMotion
  simp only [present, sound, rest, away, Bool.not_true, Bool.false_eq_true, if_false, Option.isSome_none, Option.getD_none]

/-! ## MOVER_CLEAR, R118, R121 -/

theorem exec_moverClear (h : s.ready) (present : s.present m = true) (complete : s.surveyRunning = false)
    (rest : (s.mover m).phase = .rest) (faulty : (s.mover m).fault ≠ none) :
    exec (.moverClear m) s = .next (State.settled ((s.received.clearMover m).answer 0x53 .ok [])) := by
  have pass : (s.moverClearChecks m).find? (fun c => c.1) = none := by
    simp [State.moverClearChecks, present, complete, Mover.engaged, Mover.inMotion, rest, faulty]
  show execMoverClear m s = _
  exact hostRequest_accepted h pass

/-- The record of a mover that is read again. -/
def Mover.cleared (x : Mover) : Mover := { x.idle with confirmed := none, fault := none, watch := none, followOn := none }

/-- A mover with nobody waiting for its queued request is UNKNOWN, and a read of it begins. -/
theorem State.readAgain_reads (sized : s.sized) (present : s.present m = true) (unasked : (s.mover m).requester = none)
    (alone : (s.mover m).joined = []) (few : (s.mover m).contacts.length < 2) :
    ∃ ns, s.readAgain m = { s.setMover m { (s.mover m).cleared with
      reading := some { endsAt := s.clock + s.contactMs, steady := (s.mover m).contacts.head?, fresh := false } } with notices := ns } := by
  obtain ⟨ns, told⟩ := (s.setMover m (s.mover m).cleared).tellAll_posts m false (s.mover m).waiters
  have noAskers : (s.mover m).askers = [] := by simp [Mover.askers, unasked, alone]
  have held : State.mover { s.setMover m (s.mover m).cleared with notices := ns } m = (s.mover m).cleared :=
    State.mover_withMover sized present _
  have reads : State.startRead { s.setMover m (s.mover m).cleared with notices := ns } m false =
      State.setMover { s.setMover m (s.mover m).cleared with notices := ns } m { (s.mover m).cleared with
        reading := some { endsAt := s.clock + s.contactMs, steady := (s.mover m).contacts.head?, fresh := false } } := by
    unfold State.startRead
    dsimp only
    rw [held]
    exact if_neg (show ¬2 ≤ (s.mover m).contacts.length by omega)
  have unfolded : s.readAgain m = (State.startRead ((s.setMover m (s.mover m).cleared).tellAll m false (s.mover m).waiters) m
      false).postOnce .matrix := by
    unfold State.readAgain
    dsimp only
    rw [noAskers]
    rfl
  have written : State.setMover { s.setMover m (s.mover m).cleared with notices := ns } m { (s.mover m).cleared with
      reading := some { endsAt := s.clock + s.contactMs, steady := (s.mover m).contacts.head?, fresh := false } } =
      { s.setMover m { (s.mover m).cleared with
        reading := some { endsAt := s.clock + s.contactMs, steady := (s.mover m).contacts.head?, fresh := false } } with notices := ns } := by
    simp only [State.setMover, setNth_setNth]
  rw [unfolded, told, reads, written]
  exact ⟨_, rfl⟩

theorem State.clearMover_faultless (row : ∀ t, rowOfMover m = some t → ((s.readAgain m).rowFault t) = []) :
    s.clearMover m = s.readAgain m := by
  unfold State.clearMover
  dsimp only
  split
  next t ht =>
    unfold State.clearRowFault
    rw [row t ht]
    rfl
  next => rfl

/-! ## SURVEY, R113, R117 -/

/-- What the begin of a survey's reads leaves of the matrix. -/
structure KeepsTable (s u : State) : Prop where
  claims : u.mc.claims = s.mc.claims
  survey : u.mc.survey = s.mc.survey
  surveyed : u.mc.surveyed = s.mc.surveyed

theorem KeepsTable.refl (s : State) : KeepsTable s s := ⟨rfl, rfl, rfl⟩

theorem KeepsTable.trans {v : State} (first : KeepsTable s u) (second : KeepsTable u v) : KeepsTable s v :=
  ⟨second.claims.trans first.claims, second.survey.trans first.survey, second.surveyed.trans first.surveyed⟩

theorem State.startRead_keepsTable (s : State) (m : Nat) (fresh : Bool) : KeepsTable s (s.startRead m fresh) := by
  unfold State.startRead
  dsimp only
  split
  · have after := (s.faultMover_aftermath m .conflict).1
    exact ⟨after.claims, after.survey.1, after.survey.2⟩
  · exact ⟨rfl, rfl, rfl⟩

theorem State.startReads_keepsTable (ms : List Nat) (s : State) :
    KeepsTable s (ms.foldl (fun u k => u.startRead k false) s) := by
  induction ms generalizing s with
  | nil => exact KeepsTable.refl s
  | cons k ms ih => exact (s.startRead_keepsTable k false).trans (ih (s.startRead k false))

/-- A survey of the whole matrix runs with the complete flag clear, and no column has an occupant. -/
theorem State.startSurvey_table (s : State) : (s.startSurvey none).mc.claims = s.mc.claims.map AntennaClaims.vacate ∧
    (s.startSurvey none).mc.survey = .running none false ∧ (s.startSurvey none).mc.surveyed = false := by
  have kept := State.startReads_keepsTable
    ((State.surveyScope { s with mc := { s.mc with survey := .running none false, surveyed := false
                                                   claims := s.mc.claims.map AntennaClaims.vacate } } none).filter fun k =>
      (State.mover { s with mc := { s.mc with survey := .running none false, surveyed := false
                                              claims := s.mc.claims.map AntennaClaims.vacate } } k).fault.isNone)
    { s with mc := { s.mc with survey := .running none false, surveyed := false, claims := s.mc.claims.map AntennaClaims.vacate } }
  exact ⟨kept.claims, kept.survey, kept.surveyed⟩

theorem nth_map {α β : Type} (f : α → β) (xs : List α) (d : α) (n : Nat) : nth (xs.map f) (f d) n = f (nth xs d n) := by
  unfold nth
  split
  · rfl
  · simp [List.getD, Option.getD_map]

theorem exec_survey (h : s.ready) (complete : s.surveyRunning = false) (rest : ∀ x ∈ s.mc.movers, x.phase = .rest)
    (unclaimed : ∀ c ∈ s.mc.claims, c.testClaim = false) (stopped : s.se.state = .stopped)
    (cold : ∀ t, 1 ≤ t → t ≤ s.params.txCount → (s.permit t).cold = true) :
    exec .survey s = .next (State.settled ((s.received.startSurvey none).answer 0x54 .ok [])) := by
  have idle : s.mc.movers.any (fun x => x.phase == .queued || x.engaged) = false := by
    rw [List.any_eq_false]
    intro x hx
    simp [Mover.engaged, Mover.inMotion, rest x hx]
  have noClaim : s.mc.claims.any (fun c => c.testClaim) = false := by
    rw [List.any_eq_false]
    intro c hc
    simp [unclaimed c hc]
  have allCold : s.rowsCold (upTo s.params.txCount) = true := by
    simp only [State.rowsCold, List.all_eq_true]
    exact fun t ht => cold t (mem_upTo.mp ht).1 (mem_upTo.mp ht).2
  have pass : s.surveyChecks.find? (fun c => c.1) = none := by
    simp [State.surveyChecks, complete, idle, noClaim, stopped, allCold]
  show execSurvey s = _
  exact hostRequest_accepted h pass

/-- Settles O32. -/
theorem matrix_requests_are_taken : Obligations.matrix_requests_are_taken := by
  refine ⟨fun m code p s h present target complete sound allowed rest away => ?_, ?_,
    fun s h complete rest unclaimed stopped cold => ?_⟩
  · rw [exec_move h present target complete sound allowed,
      State.requestMotion_rest (s := s.received) present sound rest away]
    rfl
  · rintro m s x h sized rfl present complete rest faulty unasked alone row few
    obtain ⟨ns, reads⟩ := State.readAgain_reads (s := s.received) sized present unasked alone few
    have rowFaults : (s.received.readAgain m).mc.rowFaults = s.mc.rowFaults := by rw [reads]; rfl
    have cleared : s.received.clearMover m = s.received.readAgain m := State.clearMover_faultless fun t ht => by
      unfold State.rowFault
      rw [rowFaults]
      have empty : s.rowFault t = [] := by simpa [State.rowFaulted, ht] using row
      exact empty
    refine ⟨_, exec_moverClear h present complete rest faulty, ?_⟩
    rw [cleared, reads]
    refine ⟨?_, fun k hk => State.mover_setMover_ne s.received m k _ hk, rfl, rfl⟩
    refine (State.mover_withMover (s := s.received) sized present _).trans ?_
    show ({ (s.mover m).cleared with
      reading := some { endsAt := s.clock + (s.params.settle + s.params.validate) * 4, steady := (s.mover m).contacts.head?
                        fresh := false } } : Mover) = _
    rw [rest, alone]
    rfl
  · obtain ⟨claims, survey, surveyed⟩ := s.received.startSurvey_table
    have claim : ∀ a, (s.received.startSurvey none).claim a = (s.claim a).vacate := fun a => by
      unfold State.claim
      rw [claims]
      exact nth_map AntennaClaims.vacate s.mc.claims AntennaClaims.reset a
    refine ⟨_, exec_survey h complete rest unclaimed stopped cold, survey, surveyed, fun a => ?_, fun a => ?_⟩
    · rw [claim]
      rfl
    · rw [claim]
      rfl

end MoverEvents

end Sys2Proof.Machine

/-! # Permit lines, cold rows and arc holds (R124 to R128, R133) -/
namespace Sys2Proof.Machine

open Sys2Proof

section

variable {s : State} {t : Nat}

/-! ## The condition groups -/

theorem State.closed_not_open {m : Nat} (h : s.isClosed m = true) : s.isOpen m = false := by
  simp only [State.isClosed, Bool.and_eq_true, beq_iff_eq] at h
  obtain ⟨present, closed⟩ := h
  simp [State.isOpen, present, closed]

/-- No mover stands twice in a row (00_scope: the crosspoints of a row lie below its park switch). -/
theorem State.rowMovers_nodup (ants : s.params.antCount ≤ 24) (h : t ≤ 12) : (s.rowMovers t).Nodup := by
  unfold State.rowMovers
  split
  next present =>
    refine List.nodup_cons.mpr ⟨fun mem => ?_, ?_⟩
    · obtain ⟨a, ha, e⟩ := List.mem_map.mp mem
      have := mem_upTo.mp ha
      simp only [crosspoint, parkSwitch] at e
      omega
    · refine List.Nodup.map (fun a b e => by simp only [crosspoint] at e; omega) ?_
      exact List.Nodup.map (fun a b e => by simpa using e) List.nodup_range
  · exact List.nodup_nil

/-- The Route group: one switch closed, the others open, all at REST, no row fault. -/
theorem State.routeHolds_iff (ants : s.params.antCount ≤ 24) (h : t ≤ 12) : s.routeHolds t = true ↔
    (∃ m ∈ s.rowMovers t, s.isClosed m = true ∧ ∀ k ∈ s.rowMovers t, k ≠ m → s.isOpen k = true) ∧
    (∀ m ∈ s.rowMovers t, s.atRest m = true) ∧ s.rowFault t = [] := by
  simp only [State.routeHolds, Bool.and_eq_true, beq_iff_eq, List.all_eq_true, List.isEmpty_iff, Bool.or_eq_true]
  constructor
  · rintro ⟨⟨one, each⟩, fault⟩
    obtain ⟨m, only⟩ := List.length_eq_one_iff.mp one
    have closed (k : Nat) : (k ∈ s.rowMovers t ∧ s.isClosed k = true) ↔ k = m := by
      rw [← List.mem_filter, ← State.closedMovers, only, List.mem_singleton]
    obtain ⟨mem, isClosed⟩ := (closed m).mpr rfl
    exact ⟨⟨m, mem, isClosed, fun k hk ne => (each k hk).1.resolve_left fun c => ne ((closed k).mp ⟨hk, c⟩)⟩,
      fun k hk => (each k hk).2, fault⟩
  · rintro ⟨⟨m, mem, isClosed, others⟩, rest, fault⟩
    refine ⟨⟨?_, fun k hk => ⟨?_, rest k hk⟩⟩, fault⟩
    · have same : s.closedMovers t = (s.rowMovers t).filter (· == m) := List.filter_congr fun k hk => by
        by_cases e : k = m
        · simp [e, isClosed]
        · have := others k hk e
          cases c : s.isClosed k with
          | false => simp [e]
          | true => rw [State.closed_not_open c] at this; exact absurd this (by decide)
      rw [same, ← List.countP_eq_length_filter, ← List.count, List.count_eq_one_of_mem (State.rowMovers_nodup ants h) mem]
    · by_cases e : k = m
      · exact .inl (e ▸ isClosed)
      · exact .inr (others k hk e)

theorem State.mem_closedAntennas {a : Nat} (h : 1 ≤ t) : a ∈ s.closedAntennas t ↔
    1 ≤ a ∧ a ≤ s.params.antCount ∧ t ≤ s.params.txCount ∧ s.isClosed (crosspoint t a) = true := by
  unfold State.closedAntennas
  split
  next present => simp [mem_upTo, present, and_assoc]
  next absent => simp [h] at absent ⊢; omega

/-- The Antenna group, antenna by antenna of the row's closed crosspoints. -/
theorem State.antennaHolds_iff (h : 1 ≤ t) : s.antennaHolds t = true ↔
    ∀ a, 1 ≤ a → a ≤ s.params.antCount → t ≤ s.params.txCount → s.isClosed (crosspoint t a) = true →
      (∀ m ∈ s.columnMovers a, m ≠ crosspoint t a → s.isOpen m = true) ∧ s.isOpen (testSwitch a) = true ∧
      s.atRest (slewDrive a) = true ∧ s.atRest (reverserOf a) = true ∧ s.faultSet a = 0 ∧ s.arcHold a = none := by
  simp only [State.antennaHolds, State.arcHolds, State.faultsHold, State.columnsHold, State.columnHolds, Bool.and_eq_true, List.all_eq_true,
    State.mem_closedAntennas h, Bool.or_eq_true, beq_iff_eq, Option.isNone_iff_eq_none]
  constructor
  · rintro ⟨⟨arcs, faults⟩, columns⟩ a h1 ha ht closed
    obtain ⟨⟨⟨column, test⟩, slew⟩, reverser⟩ := columns a ⟨h1, ha, ht, closed⟩
    exact ⟨fun m hm ne => (column m hm).resolve_left ne, test, slew, reverser, faults a ⟨h1, ha, ht, closed⟩, arcs a ⟨h1, ha, ht, closed⟩⟩
  · intro each
    refine ⟨⟨?_, ?_⟩, ?_⟩ <;> rintro a ⟨h1, ha, ht, closed⟩ <;> obtain ⟨column, test, slew, reverser, fault, arc⟩ := each a h1 ha ht closed
    · exact arc
    · exact fault
    · exact ⟨⟨⟨fun m hm => or_iff_not_imp_left.mpr (column m hm), test⟩, slew⟩, reverser⟩

theorem State.safetyHolds_iff : s.safetyHolds t = true ↔ ∀ i ∈ s.pu.inputs, i.covers t = true → i.state = .inactive := by
  simp only [State.safetyHolds, List.all_eq_true, Bool.or_eq_true, beq_iff_eq, Bool.not_eq_true']
  exact forall₂_congr fun i _ => by cases i.covers t <;> simp

theorem Sequencer.requesting_iff (q : Sequencer) : q.requesting = true ↔
    (q.state = .tuning ∧ q.tuneMode = .auto) ∨ q.state = .rampUp ∨ q.state = .onAir ∨ q.state = .rampDown := by
  simp [Sequencer.requesting, or_assoc]

/-- A standing request and every condition are what an ASSERTED line rests on (R124, R127). -/
theorem State.permitted_iff (ants : s.params.antCount ≤ 24) (h1 : 1 ≤ t) (h12 : t ≤ 12) :
    ((s.seq t).requesting && s.conditionsHold t) = true ↔ s.Permitted t := by
  simp only [State.conditionsHold, Bool.and_eq_true, State.routeHolds_iff ants h12, State.antennaHolds_iff h1, State.safetyHolds_iff,
    Sequencer.requesting_iff, State.linkHolds, State.lockoutHolds, bne_iff_ne, Bool.not_eq_true']
  constructor
  · rintro ⟨request, ⟨⟨⟨⟨route, rest, fault⟩, column⟩, safety⟩, link⟩, lockout⟩
    exact ⟨request, route, rest, fault, column, safety, link, lockout⟩
  · rintro ⟨request, route, rest, fault, column, safety, link, lockout⟩
    exact ⟨request, ⟨⟨⟨⟨route, rest, fault⟩, column⟩, safety⟩, link⟩, lockout⟩

/-! ## The line -/

theorem State.lineFalls_row (cause : FallCause) : ∃ p, (s.lineFalls t cause).pu = { s.pu with rows := setNth s.pu.rows t p } ∧
    p.line = false ∧ p.cold = false := by
  unfold State.lineFalls
  dsimp only
  split <;> exact ⟨_, rfl, rfl, rfl⟩

/-- A line computed again is one row of the Permit Unit written: ASSERTED by right, and not cold where it rose or fell. -/
theorem State.updateLine_row (h1 : 1 ≤ t) (rows : t ≤ s.pu.rows.length) :
    ∃ p, (s.updateLine t).pu = { s.pu with rows := setNth s.pu.rows t p } ∧
      p.line = ((s.seq t).requesting && s.conditionsHold t) ∧ (p.line ≠ (s.permit t).line → p.cold = false) := by
  have requested : (s.setPermit t { s.permit t with request := (s.seq t).requesting }).permit t =
      { s.permit t with request := (s.seq t).requesting } := State.permit_setPermit _ _ _ h1 rows
  have conditions : (s.setPermit t { s.permit t with request := (s.seq t).requesting }).conditionsHold t = s.conditionsHold t := rfl
  unfold State.updateLine
  simp only [requested, conditions]
  split
  next falls =>
    obtain ⟨p, pu, line, cold⟩ := State.lineFalls_row (s := s.setPermit t { s.permit t with request := (s.seq t).requesting }) (t := t)
      ((s.setPermit t { s.permit t with request := (s.seq t).requesting }).fallCause t)
    simp only [Bool.and_eq_true, Bool.not_eq_true'] at falls
    refine ⟨p, ?_, by rw [line, falls.2], fun _ => cold⟩
    rw [pu]
    simp only [State.setPermit, setNth_setNth]
  next stands =>
    split
    next rises =>
      simp only [Bool.and_eq_true] at rises
      obtain ⟨⟨-, request⟩, holds⟩ := rises
      refine ⟨{ s.permit t with request := (s.seq t).requesting, line := true, cold := false }, ?_, by rw [request, holds]; rfl, fun _ => rfl⟩
      show (State.setPermit _ t { State.permit _ t with line := true, cold := false }).pu = _
      rw [requested]
      simp only [State.setPermit, setNth_setNth]
    next low =>
      refine ⟨_, rfl, ?_, fun moved => absurd rfl moved⟩
      show (s.permit t).line = _
      cases line : (s.permit t).line <;> simp_all

/-- Whether a line is ASSERTED after it has been computed again, whether its row is cold, and that the other rows stay. -/
theorem State.updateLine_permit (h1 : 1 ≤ t) (rows : t ≤ s.pu.rows.length) :
    ((s.updateLine t).permit t).line = ((s.seq t).requesting && s.conditionsHold t) ∧
    (((s.updateLine t).permit t).line ≠ (s.permit t).line → ((s.updateLine t).permit t).cold = false) ∧
    ∀ k, k ≠ t → (s.updateLine t).permit k = s.permit k := by
  obtain ⟨p, pu, line, cold⟩ := State.updateLine_row h1 rows
  have here : (s.updateLine t).permit t = p := by rw [State.permit, pu]; exact nth_setNth_self _ _ _ _ h1 rows
  refine ⟨by rw [here, line], by rw [here]; exact cold, fun k hk => ?_⟩
  rw [State.permit, pu]
  exact nth_setNth_ne _ _ _ _ _ hk

/-! ## Cold rows and arc holds -/

theorem exec_rowCold (h1 : 1 ≤ t) (h12 : t ≤ 12) (line : (s.permit t).line = false) (cold : (s.permit t).cold = false)
    (off : s.reportsOff t = true) : exec (.rowCold t) s = .next ((s.reach (s.coldMoment t)).postOnce .permits).settled := by
  show execRowCold t s = _
  simp [execRowCold, within, h1, h12, line, cold, off]

theorem State.updateCold_cold (h1 : 1 ≤ t) (rows : t ≤ s.pu.rows.length) (now : s.coldNow t = true) (warm : (s.permit t).cold = false) :
    ((s.updateCold t).permit t).cold = true := by
  unfold State.updateCold
  simp only [now, warm, Bool.true_eq_false, if_false, if_true]
  exact congrArg PermitRow.cold (State.permit_setPermit _ _ _ h1 rows)

theorem exec_arcInput {a : Nat} (h1 : 1 ≤ a) (h : a ≤ s.params.antCount) : exec (.arcInput a) s = .next (s.arcOn a).settled := by
  show execArcInput a s = _
  rw [execArcInput, badAnt_eq_false h1 h, if_neg Bool.false_ne_true]

theorem exec_arcInput_absent {a : Nat} (h : s.params.antCount < a) : exec (.arcInput a) s = .next s := by
  have absent : s.badAnt a = true := by
    simp only [State.badAnt, Bool.or_eq_true, decide_eq_true_eq]
    exact .inr h
  show execArcInput a s = _
  rw [execArcInput, absent, if_pos rfl]

theorem exec_arcHoldEnd {a d : Nat} (h : s.arcHold a = some d) :
    exec (.arcHoldEnd a) s = .next (((s.reach d).setArcHold a none).postOnce .permits).settled := by
  show execArcHoldEnd a s = _
  simp only [execArcHoldEnd, h]

end

/-- Settles O35: the groups of R124 one by one (`State.permitted_iff`), and the line as one row written. -/
theorem lines_coldness_and_arcs_follow_the_permit_rules : Obligations.lines_coldness_and_arcs_follow_the_permit_rules := by
  refine ⟨fun r s sized h1 h12 => ?_, fun r s m sized h1 h12 line cold off moment later => ?_, fun a s => ⟨exec_arcInput, exec_arcInput_absent,
    fun d held later => ?_⟩⟩
  · obtain ⟨-, ⟨rows, -⟩, -⟩ := State.sized_iff.mp sized
    obtain ⟨asserted, turned, others⟩ := State.updateLine_permit (s := s) h1 (by omega)
    exact ⟨asserted, fun ants => by rw [asserted]; exact State.permitted_iff ants h1 h12, turned, others⟩
  · obtain ⟨-, ⟨rows, -⟩, -⟩ := State.sized_iff.mp sized
    have reached : s.coldMoment r = m := moment.symm
    refine ⟨by rw [exec_rowCold h1 h12 line cold off, reached, State.reach_at later], State.updateCold_cold h1 (by simp only; omega) ?_ cold⟩
    show (!(s.permit r).line && decide (s.coldMoment r ≤ m) && s.reportsOff r) = true
    simp [line, off, reached]
  · rw [exec_arcHoldEnd held, State.reach_at later]

end Sys2Proof.Machine

/-! # Safety inputs (R130 to R132, R134, R136) -/
namespace Sys2Proof.Machine

open Sys2Proof

section

variable {s : State} {n : Nat} {i : SafetyInput} {level : Level}

/-- An input with an activation at its active level, R130. -/
def SafetyInput.activated (i : SafetyInput) : SafetyInput := { i with state := .active, activations := satSucc 65535 i.activations }

/-- An activation writes one input and sets alert SAFETY; the halt that follows touches neither. -/
theorem State.activate_inputs (s : State) (n : Nat) :
    (s.activate n).pu.inputs = setNth s.pu.inputs n (s.input n).activated ∧
    (s.activate n).lc.alerts.getLsbD Alert.safety.bit = true := by
  have set := ((s.setInput n (s.input n).activated).postOnce .permits).alert_set .safety
  unfold State.activate
  dsimp only
  split
  · have halted := (State.haltAll_handed (Handed.refl (((s.setInput n (s.input n).activated).postOnce .permits).alert .safety))).postOnce .diag
    exact ⟨congrArg Kept.inputs halted.kept, halted.alerts _ set⟩
  · exact ⟨rfl, set⟩

theorem State.activate_setInput (h1 : 1 ≤ n) (h : n ≤ s.pu.inputs.length) (i : SafetyInput) :
    ((s.setInput n i).activate n).pu.inputs = setNth s.pu.inputs n i.activated ∧
    ((s.setInput n i).activate n).lc.alerts.getLsbD Alert.safety.bit = true := by
  obtain ⟨inputs, set⟩ := (s.setInput n i).activate_inputs n
  refine ⟨?_, set⟩
  rw [inputs, State.input_setInput _ _ _ h1 h]
  exact setNth_setNth _ _ _ _

theorem State.inputReleased_handed (s : State) (n : Nat) :
    Handed (s.setInput n { s.input n with state := .inactive, window := none }) (s.inputReleased n) := by
  have tested := (Handed.refl (s.setInput n { s.input n with state := .inactive, window := none })).postOnce .permits
  unfold State.inputReleased
  dsimp only
  split
  · exact (State.releaseHalt_handed tested).postOnce .arbiter
  · exact tested

/-! ## SAFETY_DEFINE -/

theorem State.settled_alerts {f : Alert} (h : s.lc.alerts.getLsbD f.bit = true) : s.settled.lc.alerts.getLsbD f.bit = true :=
  s.settled_self.alerts _ h

theorem safetyChecks_form {kind code : Nat} {k : SafetyKind} {rows : List Nat} (h1 : 1 ≤ n) (h8 : n ≤ 8)
    (hk : safetyKindOf kind = some k) (hl : levelOf code = some level) (hr : ∀ r ∈ rows, 1 ≤ r ∧ r ≤ 12) :
    (!within 1 8 n || (safetyKindOf kind).isNone || (levelOf code).isNone || rows.any (fun r => !within 1 12 r)) = false := by
  have known : rows.any (fun r => !within 1 12 r) = false := List.any_eq_false.mpr fun r mem => by
    simp only [within, hr r mem, and_self, decide_true, Bool.not_true, Bool.false_eq_true, not_false_eq_true]
  rw [known, hk, hl, within, decide_eq_true ⟨h1, h8⟩]
  rfl

/-- The definition of an input as R134 leaves it, judged at the sensed level. -/
def SafetyInput.defined (i : SafetyInput) (k : SafetyKind) (l : Level) (rows : List Nat) : SafetyInput :=
  { i with
    kind := k, level := l, rows := rows
    state := if i.sensed = l then .active else .inactive
    activations := if i.sensed = l then satSucc 65535 i.activations else i.activations }

theorem State.defineInput_inputs (h1 : 1 ≤ n) (h : n ≤ s.pu.inputs.length) (inactive : (s.input n).state = .inactive)
    (k : SafetyKind) (l : Level) (rows : List Nat) :
    (s.defineInput n k l rows).pu.inputs = setNth s.pu.inputs n ((s.input n).defined k l rows) ∧
    ((s.input n).sensed = l → (s.defineInput n k l rows).lc.alerts.getLsbD Alert.safety.bit = true) := by
  have judged : ((s.setInput n { s.input n with kind := k, level := l, rows := rows }).input n).atActiveLevel =
      ((s.input n).sensed == l) := by rw [State.input_setInput _ _ _ h1 h]; rfl
  unfold State.defineInput
  simp only [judged, beq_iff_eq]
  split
  next active =>
    obtain ⟨inputs, set⟩ := State.activate_setInput h1 h { s.input n with kind := k, level := l, rows := rows }
    exact ⟨by rw [inputs]; simp [SafetyInput.defined, SafetyInput.activated, active], fun _ => set⟩
  next other =>
    refine ⟨?_, fun active => absurd active other⟩
    show setNth s.pu.inputs n _ = _
    simp [SafetyInput.defined, other, inactive]

theorem exec_safetyDefine {kind code : Nat} {k : SafetyKind} {rows : List Nat} (h : s.ready) (h1 : 1 ≤ n) (h8 : n ≤ 8)
    (hk : safetyKindOf kind = some k) (hl : levelOf code = some level) (hr : ∀ r ∈ rows, 1 ≤ r ∧ r ≤ 12)
    (inactive : (s.input n).state = .inactive) : exec (.safetyDefine n kind code rows) s =
      .next ((s.received.defineInput n k level ((upTo 12).filter fun r => rows.contains r)).answer 0x58 .ok []).settled := by
  have set : s.received.setSafety n kind code rows = s.received.defineInput n k level ((upTo 12).filter fun r => rows.contains r) := by
    simp only [State.setSafety, hk, hl]
  have inactive' : (s.received.input n).state = .inactive := inactive
  show execSafetyDefine n kind code rows s = _
  rw [← set]
  refine hostRequest_accepted (checks := fun u => u.safetyChecks n kind code rows) h ?_
  simp [State.safetyChecks, safetyChecks_form h1 h8 hk hl hr, inactive']

theorem exec_safetyDefine_refused {kind code : Nat} {k : SafetyKind} {rows : List Nat} (h : s.ready) (h1 : 1 ≤ n) (h8 : n ≤ 8)
    (hk : safetyKindOf kind = some k) (hl : levelOf code = some level) (hr : ∀ r ∈ rows, 1 ≤ r ∧ r ≤ 12)
    (held : (s.input n).state ≠ .inactive) : exec (.safetyDefine n kind code rows) s = .next (s.received.answer 0x58 .state []) := by
  have held' : (s.received.input n).state ≠ .inactive := held
  show execSafetyDefine n kind code rows s = _
  refine hostRequest_refused (checks := fun u => u.safetyChecks n kind code rows) h ?_
  simp [State.safetyChecks, safetyChecks_form h1 h8 hk hl hr, held']

/-! ## Edges and release windows -/

theorem exec_safetyInputEdge (h1 : 1 ≤ n) (h8 : n ≤ 8) (edge : (s.input n).sensed ≠ level) :
    exec (.safetyInputEdge n level) s = .next (s.inputEdge n level).settled := by
  show execSafetyInputEdge n level s = _
  simp [execSafetyInputEdge, within, h1, h8, edge]

theorem State.inputEdge_activates (inactive : (s.input n).state = .inactive) (active : level = (s.input n).level) :
    s.inputEdge n level = (s.setInput n { s.input n with sensed := level }).activate n := by
  simp [State.inputEdge, inactive, SafetyInput.atActiveLevel, active]

theorem State.inputEdge_releases (active : (s.input n).state = .active) (leaves : level ≠ (s.input n).level) :
    s.inputEdge n level = (s.setInput n { s.input n with sensed := level }).beginRelease n := by
  simp [State.inputEdge, active, SafetyInput.atActiveLevel, leaves]

theorem State.inputEdge_returns (releasing : (s.input n).state = .releasing) (active : level = (s.input n).level) :
    s.inputEdge n level = (s.setInput n { s.input n with sensed := level }).setInput n
      { s.input n with sensed := level, state := .active, window := none } := by
  simp [State.inputEdge, releasing, SafetyInput.atActiveLevel, active]

theorem State.setInput_twice_inputs (s : State) (n : Nat) (i j : SafetyInput) :
    ((s.setInput n i).setInput n j).pu.inputs = setNth s.pu.inputs n j := setNth_setNth _ _ _ _

theorem State.beginRelease_inputs (h1 : 1 ≤ n) (h : n ≤ s.pu.inputs.length) (i : SafetyInput) :
    ((s.setInput n i).beginRelease n).pu.inputs =
      setNth s.pu.inputs n { i with state := .releasing, window := some (s.clock + (s.params.settle + s.params.validate) * 4) } := by
  rw [State.beginRelease, State.input_setInput _ _ _ h1 h]
  exact State.setInput_twice_inputs _ _ _ _

theorem exec_releaseWindowEnd {w : Nat} (releasing : (s.input n).state = .releasing) (window : (s.input n).window = some w) :
    exec (.releaseWindowEnd n) s = .next ((s.reach w).inputReleased n).settled := by
  show execReleaseWindowEnd n s = _
  simp only [execReleaseWindowEnd, releasing, window]

/-! ## The alert after a reset, R136 -/

theorem exec_safetyResetAlert {m : Nat} (due : s.pu.resetAlertAt = some m) (later : s.clock ≤ m) :
    exec .safetyResetAlert s = .next (State.resetAlert { s with clock := m }) := by
  show execSafetyResetAlert s = _
  simp only [execSafetyResetAlert, due, State.reach_at later]

theorem State.resetAlert_active (h : ∃ i ∈ s.pu.inputs, i.state = .active) :
    s.resetAlert = State.alert { s with pu := { s.pu with resetAlertAt := none } } .safety :=
  if_pos (by simpa using h)

theorem State.resetAlert_inactive (h : ∀ i ∈ s.pu.inputs, i.state ≠ .active) :
    s.resetAlert = { s with pu := { s.pu with resetAlertAt := none } } :=
  if_neg (by simpa using h)

end

/-- Settles O36: each event writes the one input, and no hand-over behind it touches an input (`State.settled_inputs`). -/
theorem safety_inputs_are_defined_and_follow_their_levels : Obligations.safety_inputs_are_defined_and_follow_their_levels := by
  refine ⟨fun n kind code k l rows s i ready h1 h8 length hi hk hl hr => ?_, fun n level s i h1 h8 length hi => ?_, fun s m due later => ?_⟩
  · subst hi
    refine ⟨fun inactive => ⟨_, exec_safetyDefine ready h1 h8 hk hl hr inactive, State.settled_ok _ _ _, ?_, fun active => ?_⟩,
      exec_safetyDefine_refused ready h1 h8 hk hl hr⟩
    · obtain ⟨inputs, -⟩ := State.defineInput_inputs (s := s.received) h1 (by rw [show s.received.pu = s.pu from rfl]; omega) inactive k l
        ((upTo 12).filter fun r => rows.contains r)
      rw [State.settled_inputs]
      exact inputs
    · obtain ⟨-, set⟩ := State.defineInput_inputs (s := s.received) h1 (by rw [show s.received.pu = s.pu from rfl]; omega) inactive k l
        ((upTo 12).filter fun r => rows.contains r)
      exact State.settled_alerts (set active)
  · subst hi
    refine ⟨fun edge => ⟨_, exec_safetyInputEdge h1 h8 edge, fun inactive active => ?_, fun active leaves => ?_, fun releasing active => ?_⟩,
      fun w releasing window later => ⟨_, exec_releaseWindowEnd releasing window, ?_, ?_⟩⟩
    · obtain ⟨inputs, set⟩ := State.activate_setInput (s := s) h1 (by omega) { s.input n with sensed := level }
      rw [State.inputEdge_activates inactive active, State.settled_inputs]
      exact ⟨inputs, State.settled_alerts set⟩
    · rw [State.inputEdge_releases active leaves, State.settled_inputs]
      exact State.beginRelease_inputs h1 (by omega) _
    · rw [State.inputEdge_returns releasing active, State.settled_inputs]
      exact State.setInput_twice_inputs _ _ _ _
    · rw [State.settled_clock]
      exact (congrArg Kept.clock ((s.reach w).inputReleased_handed n).kept).trans (Nat.max_eq_right later)
    · rw [State.settled_inputs]
      exact congrArg Kept.inputs ((s.reach w).inputReleased_handed n).kept
  · rw [exec_safetyResetAlert due later]
    exact ⟨fun active => congrArg _ (State.resetAlert_active active), fun none => congrArg _ (State.resetAlert_inactive none)⟩

end Sys2Proof.Machine

/-! # The check code of a preset record (R177, R178) -/
namespace Sys2Proof.Machine

open Sys2Proof

section

variable {α : Type}

/-! ## One bit of a word flipped -/

/-- The places of a list whose bit stands, once one bit has been flipped: one place joins or leaves. -/
theorem filter_testBit_flip (f : α → Nat) (w : Nat) {x : α} {before after : List α} (nodup : ((before ++ x :: after).map f).Nodup) :
    ∃ ys zs, (before ++ x :: after).filter (fun y => w.testBit (f y)) = ys ++ (if w.testBit (f x) then [x] else []) ++ zs ∧
      (before ++ x :: after).filter (fun y => (w ^^^ 2 ^ f x).testBit (f y)) =
        ys ++ (if w.testBit (f x) then [] else [x]) ++ zs := by
  have others : ∀ y ∈ before ++ after, (w ^^^ 2 ^ f x).testBit (f y) = w.testBit (f y) := fun y mem => by
    have ne : f x ≠ f y := by
      rw [List.map_append, List.map_cons, List.nodup_middle, List.nodup_cons, ← List.map_append] at nodup
      exact fun e => nodup.1 (e ▸ List.mem_map_of_mem mem)
    simp [ne]
  refine ⟨before.filter fun y => w.testBit (f y), after.filter fun y => w.testBit (f y), ?_, ?_⟩
  · cases h : w.testBit (f x) <;> simp [h]
  · have self : (w ^^^ 2 ^ f x).testBit (f x) = !w.testBit (f x) := by simp
    rw [List.filter_append, List.filter_cons, self,
      List.filter_congr fun y hy => others y (List.mem_append_left _ hy),
      List.filter_congr fun y hy => others y (List.mem_append_right _ hy)]
    cases h : w.testBit (f x) <;> simp

theorem foldPositions_cons (p : Nat) (ps : List Nat) : foldPositions (p :: ps) = p ^^^ foldPositions ps := by
  have shift : ∀ (ps : List Nat) (a : Nat), ps.foldl Nat.xor a = a ^^^ ps.foldl Nat.xor 0 := fun ps => by
    induction ps with
    | nil => exact fun a => (Nat.xor_zero a).symm
    | cons p ps ih =>
      intro a
      show ps.foldl Nat.xor (a ^^^ p) = a ^^^ ps.foldl Nat.xor (0 ^^^ p)
      rw [ih, ih (0 ^^^ p), Nat.zero_xor, Nat.xor_assoc]
  show ps.foldl Nat.xor (0 ^^^ p) = _
  rw [shift, Nat.zero_xor]
  rfl

theorem foldPositions_append (ps qs : List Nat) : foldPositions (ps ++ qs) = foldPositions ps ^^^ foldPositions qs := by
  induction ps with
  | nil => exact (Nat.zero_xor _).symm
  | cons p ps ih => rw [List.cons_append, foldPositions_cons, foldPositions_cons, ih, Nat.xor_assoc]

theorem foldPositions_lt {ps : List Nat} {k : Nat} (h : ∀ p ∈ ps, p < 2 ^ k) : foldPositions ps < 2 ^ k := by
  induction ps with
  | nil => exact Nat.two_pow_pos k
  | cons p ps ih =>
    rw [foldPositions_cons]
    exact Nat.xor_lt_two_pow (h p (by simp)) (ih fun q hq => h q (by simp [hq]))

/-- What a flip of one data bit does to the ones of a data word: their sum without carry and whether they are odd in number. -/
theorem ones_flip (f g : α → Nat) (w : Nat) {x : α} {xs : List α} (mem : x ∈ xs) (nodup : (xs.map f).Nodup) :
    foldPositions ((xs.filter fun y => (w ^^^ 2 ^ f x).testBit (f y)).map g) =
      foldPositions ((xs.filter fun y => w.testBit (f y)).map g) ^^^ g x ∧
    (xs.filter fun y => (w ^^^ 2 ^ f x).testBit (f y)).length % 2 = ((xs.filter fun y => w.testBit (f y)).length + 1) % 2 := by
  obtain ⟨before, after, rfl⟩ := List.append_of_mem mem
  obtain ⟨ys, zs, was, is⟩ := filter_testBit_flip f w nodup
  rw [was, is]
  have single : foldPositions [g x] = g x := by rw [foldPositions_cons]; exact Nat.xor_zero _
  cases w.testBit (f x) with
  | true =>
    constructor
    · simp only [if_true, List.append_nil, List.map_append, foldPositions_append, List.map_cons, List.map_nil, single]
      rw [Nat.xor_assoc, Nat.xor_assoc, Nat.xor_comm (g x), Nat.xor_assoc, Nat.xor_self, Nat.xor_zero]
    · simp; omega
  | false =>
    constructor
    · simp only [Bool.false_eq_true, if_false, List.append_nil, List.map_append, foldPositions_append, List.map_cons, List.map_nil, single]
      rw [Nat.xor_assoc, Nat.xor_assoc, Nat.xor_comm (g x)]
    · simp; omega

end

/-! ## The positions of the data bits -/

/-- The position of bit `i` of the data word, counted from its lowest. -/
def dataPosition (i : Nat) : Nat := dataPositions.getD (75 - i) 0

theorem dataPositions_length : dataPositions.length = 76 := by decide

theorem dataPositions_nodup : dataPositions.Nodup := (List.nodup_range.map fun a b e => by simpa using e).filter _

theorem mem_dataPositions {p : Nat} (h : p ∈ dataPositions) : p ≤ 83 ∧ p ≠ 0 ∧ ∀ k, k < 7 → p ≠ 2 ^ k := by
  obtain ⟨range, noPower⟩ := List.mem_filter.mp h
  have bounds := mem_upTo.mp range
  refine ⟨bounds.2, by omega, fun k hk e => ?_⟩
  subst e
  revert noPower
  interval_cases k <;> decide

theorem dataPositions_getElem? {i : Nat} (h : i < 76) : dataPositions[75 - i]? = some (dataPosition i) := by
  have inside : 75 - i < dataPositions.length := by rw [dataPositions_length]; omega
  rw [dataPosition, List.getD_eq_getElem _ _ inside, List.getElem?_eq_getElem inside]

theorem dataPosition_mem {i : Nat} (h : i < 76) : dataPosition i ∈ dataPositions := List.mem_of_getElem? (dataPositions_getElem? h)

theorem dataPosition_inj {i j : Nat} (hi : i < 76) (hj : j < 76) (h : dataPosition i = dataPosition j) : i = j := by
  have same := (List.getElem?_inj (by rw [dataPositions_length]; omega) dataPositions_nodup).mp
    ((dataPositions_getElem? hi).trans ((congrArg some h).trans (dataPositions_getElem? hj).symm))
  omega

theorem dataPositions_findIdx {i : Nat} (h : i < 76) : dataPositions.findIdx? (· == dataPosition i) = some (75 - i) := by
  have inside : 75 - i < dataPositions.length := by rw [dataPositions_length]; omega
  have at_i : dataPositions[75 - i] = dataPosition i := by
    have := dataPositions_getElem? h
    rwa [List.getElem?_eq_getElem inside, Option.some_inj] at this
  refine List.findIdx?_eq_some_iff_getElem.mpr ⟨inside, by simp [at_i], fun j before => ?_⟩
  simp only [beq_iff_eq]
  intro e
  exact absurd ((List.Nodup.getElem_inj_iff dataPositions_nodup).mp (e.trans at_i.symm)) (by omega)

theorem dataPositions_findIdx_none {p : Nat} (h : p ∉ dataPositions) : dataPositions.findIdx? (· == p) = none := by
  rw [List.findIdx?_eq_none_iff]
  intro q hq
  simp only [beq_eq_false_iff_ne]
  exact fun e => h (e ▸ hq)

/-- The flip of a data bit adds its position and turns the parity. -/
theorem onesOf_flip (w : Nat) {i : Nat} (h : i < 76) :
    foldPositions (onesOf (w ^^^ 2 ^ i)) = foldPositions (onesOf w) ^^^ dataPosition i ∧
    (onesOf (w ^^^ 2 ^ i)).length % 2 = ((onesOf w).length + 1) % 2 := by
  have place : 75 - (75 - i) = i := by omega
  have mem : (dataPosition i, 75 - i) ∈ dataPositions.zipIdx := List.mk_mem_zipIdx_iff_getElem?.mpr (dataPositions_getElem? h)
  have nodup : (dataPositions.zipIdx.map fun p => 75 - p.2).Nodup := by
    have indices : (dataPositions.zipIdx.map fun p => 75 - p.2) = (List.range' 0 76).map (75 - ·) := by
      rw [← dataPositions_length, ← List.zipIdx_map_snd, List.map_map]
      rfl
    rw [indices]
    exact List.Nodup.map_on (fun a ha b hb e => by simp only [List.mem_range'_1] at ha hb; omega) List.nodup_range'
  have flip := ones_flip (fun p : Nat × Nat => 75 - p.2) (·.1) w mem nodup
  simp only [place] at flip
  simpa [onesOf] using flip

theorem onesBelow8_flip (n : Nat) {k : Nat} (h : k < 8) : onesBelow8 (n ^^^ 2 ^ k) % 2 = (onesBelow8 n + 1) % 2 :=
  (ones_flip id id n (List.mem_range.mpr h) (by simpa using List.nodup_range)).2

/-! ## Syndrome and parity of a record as it stands -/

def PresetRecord.syndrome (r : PresetRecord) : Nat := foldPositions (onesOf r.dataWord) ^^^ (r.check.toNat % 256 % 128)

def PresetRecord.parity (r : PresetRecord) : Nat := ((onesOf r.dataWord).length + onesBelow8 (r.check.toNat % 256)) % 2

/-- The record after the repair of the data bit that a syndrome names. -/
def PresetRecord.repaired (r : PresetRecord) (syndrome : Nat) : PresetRecord :=
  match dataPositions.findIdx? (· == syndrome) with
  | some i => r.withDataWord (r.dataWord ^^^ 2 ^ (75 - i))
  | none => r

namespace PresetRecord

variable {r : PresetRecord}

theorem checked_eq (r : PresetRecord) : r.checked =
    if r.syndrome = 0 ∧ (r.parity == 1) = false then (.good, r)
    else if (r.parity == 1) = true ∧ r.syndrome ≤ 83 then
      (.corrected, { r.repaired r.syndrome with check := (r.repaired r.syndrome).code })
    else (.double, { r with valid := false }) := rfl

theorem checked_good (syndrome : r.syndrome = 0) (parity : r.parity = 0) : r.checked = (.good, r) := by
  rw [checked_eq, syndrome, parity]
  rfl

theorem checked_corrected {fixed : PresetRecord} {p : Nat} (parity : r.parity = 1) (syndrome : r.syndrome = p) (range : p ≤ 83)
    (fix : r.repaired p = fixed) : r.checked = (.corrected, { fixed with check := fixed.code }) := by
  subst fix syndrome
  rw [checked_eq, parity, if_neg (fun h => Bool.noConfusion h.2), if_pos ⟨rfl, range⟩]

theorem checked_double (syndrome : r.syndrome ≠ 0) (parity : r.parity = 0) : r.checked.1 = .double := by
  rw [checked_eq, parity, if_neg (fun h => syndrome h.1), if_neg (fun h => Bool.noConfusion h.1)]

theorem parity_eq_one (h : r.parity ≠ 0) : r.parity = 1 := by
  unfold parity at h ⊢
  omega

/-! ## The data word -/

/-- The fields lie within their widths. -/
structure Fits (r : PresetRecord) : Prop where
  antenna : r.antenna < 32
  channel : r.channel < 8192
  s1 : r.s1 < 4096
  s2 : r.s2 < 4096
  s3 : r.s3 < 4096
  s4 : r.s4 < 4096
  quality : r.quality < 1024

theorem dataWord_lt (r : PresetRecord) : r.dataWord < 2 ^ 76 := by
  unfold dataWord
  omega

theorem join_field (w low width : Nat) : w / (low * width) * width + w / low % width = w / low := by
  rw [← Nat.div_div_eq_div_mul]
  exact Nat.div_add_mod' _ _

theorem dataWord_withDataWord {w : Nat} (h : w < 2 ^ 76) : (r.withDataWord w).dataWord = w := by
  have top : w / 2 ^ 71 % 32 = w / (2 ^ 58 * 8192) := Nat.mod_eq_of_lt (Nat.div_lt_of_lt_mul h)
  simp only [dataWord, withDataWord, Nat.mod_mod]
  rw [top, join_field, show (2 : Nat) ^ 58 = 2 ^ 46 * 4096 from rfl, join_field, show (2 : Nat) ^ 46 = 2 ^ 34 * 4096 from rfl, join_field,
    show (2 : Nat) ^ 34 = 2 ^ 22 * 4096 from rfl, join_field, show (2 : Nat) ^ 22 = 2 ^ 10 * 4096 from rfl, join_field]
  exact Nat.div_add_mod' w 1024

theorem withDataWord_dataWord (h : r.Fits) : r.withDataWord r.dataWord = r := by
  obtain ⟨antenna, channel, s1, s2, s3, s4, quality⟩ := h
  obtain ⟨valid, a, c, p1, p2, p3, p4, q, check⟩ := r
  simp only [withDataWord, dataWord, mk.injEq, true_and, and_true] at *
  omega

theorem withDataWord_twice (r : PresetRecord) (v w : Nat) : (r.withDataWord v).withDataWord w = r.withDataWord w := rfl

theorem flip_lt {w i : Nat} (h : w < 2 ^ 76) (hi : i < 76) : w ^^^ 2 ^ i < 2 ^ 76 :=
  Nat.xor_lt_two_pow h (Nat.pow_lt_pow_right (by omega) hi)

/-- A wrong data bit shows in the syndrome by its position, and turns the parity. -/
theorem flipData {w i : Nat} (hw : w < 2 ^ 76) (hi : i < 76) :
    (r.withDataWord (w ^^^ 2 ^ i)).syndrome = (r.withDataWord w).syndrome ^^^ dataPosition i ∧
    (r.withDataWord (w ^^^ 2 ^ i)).parity = ((r.withDataWord w).parity + 1) % 2 := by
  obtain ⟨fold, length⟩ := onesOf_flip w hi
  unfold syndrome parity
  rw [dataWord_withDataWord (flip_lt hw hi), dataWord_withDataWord hw, fold]
  refine ⟨?_, ?_⟩
  · rw [Nat.xor_assoc, Nat.xor_assoc, Nat.xor_comm (dataPosition i)]
    rfl
  · show (_ + onesBelow8 (r.check.toNat % 256)) % 2 = ((_ + onesBelow8 (r.check.toNat % 256)) % 2 + 1) % 2
    omega

/-- The record with check bit `k` wrong. -/
def flippedCheck (r : PresetRecord) (k : Nat) : PresetRecord := { r with check := r.check ^^^ BitVec.ofNat 16 (2 ^ k) }

/-- What a wrong check bit adds to the syndrome: bit 7 is the parity's and adds nothing. -/
def checkPosition (k : Nat) : Nat := if k < 7 then 2 ^ k else 0

theorem checkPosition_not_mem (k : Nat) : checkPosition k ∉ dataPositions := fun mem => by
  obtain ⟨-, nonzero, noPower⟩ := mem_dataPositions mem
  unfold checkPosition at nonzero noPower
  split at nonzero
  next low => exact noPower k low (if_pos low)
  next => exact nonzero rfl

theorem checkPosition_le {k : Nat} (hk : k < 8) : checkPosition k ≤ 83 := by
  unfold checkPosition
  interval_cases k <;> decide

theorem checkPosition_ne {k l : Nat} (less : k < l) (hl : l < 8) : checkPosition k ≠ checkPosition l := by
  unfold checkPosition
  rw [if_pos (show k < 7 by omega)]
  split
  · exact fun e => absurd (Nat.pow_right_injective (le_refl 2) e) (by omega)
  · exact (Nat.two_pow_pos k).ne'

theorem flipCheck (r : PresetRecord) {k : Nat} (hk : k < 8) :
    (r.flippedCheck k).syndrome = r.syndrome ^^^ checkPosition k ∧ (r.flippedCheck k).parity = (r.parity + 1) % 2 := by
  have small : 2 ^ k < 2 ^ 8 := Nat.pow_lt_pow_right (by omega) hk
  have stored : (r.check ^^^ BitVec.ofNat 16 (2 ^ k)).toNat % 256 = (r.check.toNat % 256) ^^^ 2 ^ k := by
    rw [BitVec.toNat_xor, BitVec.toNat_ofNat, Nat.mod_eq_of_lt (a := 2 ^ k) (by omega)]
    rw [show (256 : Nat) = 2 ^ 8 from rfl, Nat.xor_mod_two_pow, Nat.mod_eq_of_lt small]
  have low : 2 ^ k % 128 = checkPosition k := by
    unfold checkPosition
    interval_cases k <;> rfl
  have turned := onesBelow8_flip (r.check.toNat % 256) hk
  unfold syndrome parity flippedCheck
  refine ⟨?_, ?_⟩
  · simp only [stored]
    rw [show (128 : Nat) = 2 ^ 7 from rfl, Nat.xor_mod_two_pow, ← Nat.xor_assoc, show (2 : Nat) ^ 7 = 128 from rfl, low]
    rfl
  · simp only [stored]
    show ((onesOf r.dataWord).length + _) % 2 = _
    omega

/-- A record with its own check code shows no error. -/
theorem own_code (h : r.check = r.code) : r.syndrome = 0 ∧ r.parity = 0 := by
  have low : foldPositions (onesOf r.dataWord) < 128 := foldPositions_lt (k := 7) fun p hp => by
    obtain ⟨x, mem, rfl⟩ := List.mem_map.mp hp
    obtain ⟨at_x, -⟩ := List.mem_filter.mp mem
    exact Nat.lt_of_le_of_lt (mem_dataPositions (List.fst_mem_of_mem_zipIdx at_x)).1 (by omega)
  have stored : r.check.toNat = foldPositions (onesOf r.dataWord) +
      128 * (((onesOf r.dataWord).length + onesBelow8 (foldPositions (onesOf r.dataWord))) % 2) := by
    rw [h, code, BitVec.toNat_ofNat]
    omega
  unfold syndrome parity
  rw [stored]
  generalize foldPositions (onesOf r.dataWord) = f at *
  generalize (onesOf r.dataWord).length = n
  rcases Nat.mod_two_eq_zero_or_one (n + onesBelow8 f) with even | odd
  · rw [even, Nat.mod_eq_of_lt (a := f + 128 * 0) (by omega)]
    exact ⟨by rw [Nat.mod_eq_of_lt (by omega)]; exact Nat.xor_self f, even⟩
  · have top : f + 128 * 1 = f ^^^ 2 ^ 7 := by
      have : ∀ f < 128, f + 128 * 1 = f ^^^ 2 ^ 7 := by decide
      exact this f low
    have turned := onesBelow8_flip f (k := 7) (by omega)
    rw [odd, Nat.mod_eq_of_lt (a := f + 128 * 1) (by omega)]
    refine ⟨?_, ?_⟩
    · rw [show (f + 128 * 1) % 128 = f by omega]; exact Nat.xor_self f
    · rw [top]; omega

/-! ## Errors of one and of two bits -/

section

variable (fits : r.Fits) (own : r.check = r.code)
include own

theorem checked_own : r.checked = (.good, r) := checked_good (own_code own).1 (own_code own).2

include fits in
/-- One wrong data bit: the syndrome is its position. -/
theorem data_error {i : Nat} (hi : i < 76) : (r.withDataWord (r.dataWord ^^^ 2 ^ i)).syndrome = dataPosition i ∧
    (r.withDataWord (r.dataWord ^^^ 2 ^ i)).parity = 1 := by
  obtain ⟨syndrome, parity⟩ := flipData (r := r) r.dataWord_lt hi
  rw [withDataWord_dataWord fits, (own_code own).1, Nat.zero_xor] at syndrome
  rw [withDataWord_dataWord fits, (own_code own).2] at parity
  exact ⟨syndrome, parity⟩

include fits in
theorem checked_dataError {i : Nat} (hi : i < 76) : (r.withDataWord (r.dataWord ^^^ 2 ^ i)).checked = (.corrected, r) := by
  obtain ⟨syndrome, parity⟩ := data_error fits own hi
  have fixed : (r.withDataWord (r.dataWord ^^^ 2 ^ i)).repaired (dataPosition i) = r := by
    have bit : 75 - (75 - i) = i := by omega
    have word : (r.withDataWord (r.dataWord ^^^ 2 ^ i)).dataWord ^^^ 2 ^ i = r.dataWord := by
      rw [dataWord_withDataWord (flip_lt r.dataWord_lt hi), Nat.xor_assoc, Nat.xor_self, Nat.xor_zero]
    simp only [repaired, dataPositions_findIdx hi, bit, word, withDataWord_twice]
    exact withDataWord_dataWord fits
  rw [checked_corrected parity syndrome (mem_dataPositions (dataPosition_mem hi)).1 fixed, ← own]

/-- One wrong check bit: the syndrome is its position, where no data bit stands. -/
theorem check_error {k : Nat} (hk : k < 8) : (r.flippedCheck k).syndrome = checkPosition k ∧ (r.flippedCheck k).parity = 1 := by
  obtain ⟨syndrome, parity⟩ := r.flipCheck hk
  rw [(own_code own).1, Nat.zero_xor] at syndrome
  rw [(own_code own).2] at parity
  exact ⟨syndrome, parity⟩

theorem checked_checkError {k : Nat} (hk : k < 8) : (r.flippedCheck k).checked = (.corrected, r) := by
  obtain ⟨syndrome, parity⟩ := check_error own hk
  have fixed : (r.flippedCheck k).repaired (checkPosition k) = r.flippedCheck k := by
    simp only [repaired, dataPositions_findIdx_none (checkPosition_not_mem k)]
  rw [checked_corrected parity syndrome (checkPosition_le hk) fixed]
  show (WayCheck.corrected, { r with check := r.code }) = _
  rw [← own]

include fits in
theorem checked_twoDataErrors {i j : Nat} (less : i < j) (hj : j < 76) :
    (r.withDataWord (r.dataWord ^^^ 2 ^ i ^^^ 2 ^ j)).checked.1 = .double := by
  have hi : i < 76 := by omega
  obtain ⟨first, once⟩ := data_error fits own hi
  obtain ⟨second, twice⟩ := flipData (r := r) (flip_lt r.dataWord_lt hi) hj
  rw [first] at second
  rw [once] at twice
  refine checked_double ?_ twice
  rw [second]
  exact mt xor_eq_zero_iff.mp fun e => absurd (dataPosition_inj hi hj e) (by omega)

include fits in
theorem checked_dataAndCheckError {i k : Nat} (hi : i < 76) (hk : k < 8) :
    ((r.withDataWord (r.dataWord ^^^ 2 ^ i)).flippedCheck k).checked.1 = .double := by
  obtain ⟨first, once⟩ := data_error fits own hi
  obtain ⟨second, twice⟩ := (r.withDataWord (r.dataWord ^^^ 2 ^ i)).flipCheck hk
  rw [first] at second
  rw [once] at twice
  refine checked_double ?_ twice
  rw [second]
  exact mt xor_eq_zero_iff.mp fun e => checkPosition_not_mem k (e ▸ dataPosition_mem hi)

theorem checked_twoCheckErrors {k l : Nat} (less : k < l) (hl : l < 8) : ((r.flippedCheck k).flippedCheck l).checked.1 = .double := by
  have hk : k < 8 := by omega
  obtain ⟨first, once⟩ := check_error own hk
  obtain ⟨second, twice⟩ := (r.flippedCheck k).flipCheck hl
  rw [first] at second
  rw [once] at twice
  refine checked_double ?_ twice
  rw [second]
  exact mt xor_eq_zero_iff.mp (checkPosition_ne less hl)

end

end PresetRecord

/-- Settles O49: a wrong bit shows in the syndrome by its position and turns the parity (`flipData`, `flipCheck`), and the positions
of the 84 bits differ. -/
theorem check_code_repairs_one_bit_and_detects_two : Obligations.check_code_repairs_one_bit_and_detects_two := by
  intro r antenna channel s1 s2 s3 s4 quality own
  have fits : r.Fits := ⟨antenna, channel, s1, s2, s3, s4, quality⟩
  exact ⟨PresetRecord.checked_own own, fun i => PresetRecord.checked_dataError fits own,
    fun k => PresetRecord.checked_checkError own, fun i j => PresetRecord.checked_twoDataErrors fits own,
    fun i k => PresetRecord.checked_dataAndCheckError fits own, fun k l => PresetRecord.checked_twoCheckErrors own⟩

end Sys2Proof.Machine

/-! # PRESET_READ and the scrubber (R178, R185 to R187) -/
namespace Sys2Proof.Machine

open Sys2Proof

section

variable {s u : State} {t n way : Nat} {source : PresetSource} {r : PresetRecord}

/-! ## Where a set stands -/

/-- A valid record stands in a set of the directories: what lies outside reads as an empty set. -/
theorem State.valid_inRange (sized : s.sized) (valid : ((s.presetSet t n).way way).valid = true) : 1 ≤ t ∧ t ≤ 12 ∧ n ≤ 63 := by
  have nonempty : s.presetSet t n ≠ PresetSet.empty := fun h => by
    rw [h, PresetSet.way] at valid
    split at valid <;> exact absurd valid (by decide)
  by_cases ht : 1 ≤ t ∧ t ≤ 12
  · refine ⟨ht.1, ht.2, Nat.le_of_not_lt fun far => nonempty ?_⟩
    have short : (nth s.pc.directories [] t).length ≤ n := by rw [sized.directory_length ht.1 ht.2]; omega
    rw [State.presetSet, List.getD_eq_default _ _ short]
  · refine absurd ?_ nonempty
    have none : nth s.pc.directories [] t = [] := by
      unfold nth
      split
      · rfl
      · exact List.getD_eq_default _ _ (by rw [sized.directories_length]; omega)
    rw [State.presetSet, none]
    rfl

theorem State.presetSet_setPresetSet_ne (s : State) (x : PresetSet) {k m : Nat} (h : k ≠ t ∨ m ≠ n) :
    (s.setPresetSet t n x).presetSet k m = s.presetSet k m := by
  rw [State.presetSet, State.presetSet]
  show (nth (setNth s.pc.directories t ((nth s.pc.directories [] t).set n x)) [] k).getD m _ = _
  by_cases hk : k = t
  · subst hk
    have hm : n ≠ m := fun e => h.elim (fun k => k rfl) fun m => m e.symm
    by_cases inside : 1 ≤ k ∧ k ≤ s.pc.directories.length
    · rw [nth_setNth_self _ _ _ _ inside.1 inside.2]
      simp [List.getD, hm]
    · have same : setNth s.pc.directories k ((nth s.pc.directories [] k).set n x) = s.pc.directories := by
        unfold setNth
        split
        · rfl
        · exact List.set_eq_of_length_le (by omega)
      rw [same]
  · rw [nth_setNth_ne _ _ _ _ _ hk]

/-! ## The check of one way, case by case -/

/-- A way of a set written. -/
def State.putRecord (s : State) (t n way : Nat) (r : PresetRecord) : State :=
  s.setPresetSet t n ((s.presetSet t n).setWay way r)

theorem State.checkWay_invalid (invalid : ((s.presetSet t n).way way).valid = false) : s.checkWay t n way source = (s, .none) := by
  simp [State.checkWay, invalid]

theorem State.checkWay_good (valid : ((s.presetSet t n).way way).valid = true) (good : ((s.presetSet t n).way way).checked.1 = .good) :
    s.checkWay t n way source = (s, .good) := by
  simp [State.checkWay, valid, good]

/-- A corrected record written back and counted. -/
def State.corrected (s : State) (t n way : Nat) : State :=
  { s.putRecord t n way ((s.presetSet t n).way way).checked.2 with
    pc := { (s.putRecord t n way ((s.presetSet t n).way way).checked.2).pc with corrected := satSucc 65535 s.pc.corrected } }

theorem State.checkWay_corrected (valid : ((s.presetSet t n).way way).valid = true)
    (corrected : ((s.presetSet t n).way way).checked.1 = .corrected) :
    s.checkWay t n way source = (s.corrected t n way, .corrected) := by
  simp [State.checkWay, valid, corrected, State.corrected, State.putRecord, State.setPresetSet]

theorem State.checkWay_double (valid : ((s.presetSet t n).way way).valid = true)
    (double : ((s.presetSet t n).way way).checked.1 = .double) : s.checkWay t n way source =
      ((s.putRecord t n way ((s.presetSet t n).way way).checked.2).presetError .double t n way source, .double) := by
  simp [State.checkWay, valid, double, State.putRecord]

/-- What a check leaves of a record, by its outcome. -/
theorem PresetRecord.checked_cases (r : PresetRecord) : (r.checked.1 = .good ∧ r.checked.2 = r) ∨
    (r.checked.1 = .corrected ∧ r.checked.2.valid = r.valid) ∨ (r.checked.1 = .double ∧ r.checked.2 = { r with valid := false }) := by
  rw [PresetRecord.checked_eq]
  split
  · exact .inl ⟨rfl, rfl⟩
  · split
    · refine .inr (.inl ⟨rfl, ?_⟩)
      show (r.repaired r.syndrome).valid = r.valid
      unfold PresetRecord.repaired
      split <;> rfl
    · exact .inr (.inr ⟨rfl, rfl⟩)

theorem PresetRecord.checked_good_self (h : r.checked.1 = .good) : r.checked.2 = r := by
  rcases r.checked_cases with ⟨-, same⟩ | ⟨other, -⟩ | ⟨other, -⟩
  · exact same
  · rw [h] at other; cases other
  · rw [h] at other; cases other

theorem PresetRecord.checked_corrected_valid (h : r.checked.1 = .corrected) : r.checked.2.valid = r.valid := by
  rcases r.checked_cases with ⟨other, -⟩ | ⟨-, same⟩ | ⟨other, -⟩
  · rw [h] at other; cases other
  · exact same
  · rw [h] at other; cases other

theorem PresetRecord.checked_double_disabled (h : r.checked.1 = .double) : r.checked.2 = { r with valid := false } := by
  rcases r.checked_cases with ⟨other, -⟩ | ⟨other, -⟩ | ⟨-, same⟩
  · rw [h] at other; cases other
  · rw [h] at other; cases other
  · exact same

/-- An error noted: alert PRESET, and the latch takes it or counts one more (R186). -/
structure Noted (s u : State) (kind : PresetErrorKind) (t n way : Nat) (source : PresetSource) : Prop where
  alert : u.lc.alerts.getLsbD Alert.preset.bit = true
  taken : s.pc.latch = none →
    u.pc.latch = some { kind := kind, tx := t, setNo := n, way := way, source := source, elapsed := s.tb.elapsed }
  more : ∀ l, s.pc.latch = some l → u.pc.latch = some l ∧ u.pc.more = true

theorem State.presetError_noted (s : State) (kind : PresetErrorKind) (t n way : Nat) (source : PresetSource) :
    Noted s (s.presetError kind t n way source) kind t n way source := by
  refine ⟨State.alert_set _ _, fun empty => ?_, fun l held => ?_⟩
  · simp only [State.presetError, empty]
    cases kind <;> rfl
  · simp only [State.presetError, held]
    cases kind <;> exact ⟨rfl, rfl⟩

theorem State.presetError_double (s : State) (t n way : Nat) (source : PresetSource) :
    (s.presetError .double t n way source).pc.double = satSucc 65535 s.pc.double := by
  unfold State.presetError
  cases s.pc.latch <;> rfl

theorem State.presetError_duplicate (s : State) (t n way : Nat) (source : PresetSource) :
    (s.presetError .duplicate t n way source).pc.duplicate = satSucc 65535 s.pc.duplicate := by
  unfold State.presetError
  cases s.pc.latch <;> rfl

theorem State.presetError_presetSet (s : State) (kind : PresetErrorKind) (t n way : Nat) (source : PresetSource) (k m : Nat) :
    (s.presetError kind t n way source).presetSet k m = s.presetSet k m :=
  State.presetSet_congr (s.presetError_frame kind t n way source).1 k m

theorem State.putRecord_self (sized : s.sized) (h1 : 1 ≤ t) (h12 : t ≤ 12) (hn : n ≤ 63) (way : Nat) (r : PresetRecord) :
    (s.putRecord t n way r).presetSet t n = (s.presetSet t n).setWay way r := State.presetSet_setPresetSet _ sized h1 h12 hn

theorem State.putRecord_ne (s : State) (way : Nat) (r : PresetRecord) {k m : Nat} (h : k ≠ t ∨ m ≠ n) :
    (s.putRecord t n way r).presetSet k m = s.presetSet k m := s.presetSet_setPresetSet_ne _ h

/-! ## PRESET_READ -/

theorem badPlace_eq_true (h : t = 0 ∨ 12 < t ∨ 63 < n ∨ 1 < way) : badPlace t n way = true := by
  cases e : badPlace t n way with
  | true => rfl
  | false =>
    obtain ⟨ht, hn, hw⟩ := (badPlace_eq_false_iff t n way).mp e
    omega

theorem exec_presetRead_refused (ready : s.ready) (bad : badPlace t n way = true) :
    exec (.presetRead t n way) s = .next (s.received.answer 0x70 .range []) := by
  show execPresetRead t n way s = _
  exact hostRequest_handle_refused (checks := fun _ => [(badPlace t n way, .range)]) ready (by simp [bad])

theorem exec_presetRead {v : State} {w : WayCheck} (ready : s.ready) (bad : badPlace t n way = false)
    (read : s.checkWay t n way .host = (v, w)) : exec (.presetRead t n way) s =
      .next (v.received.answer 0x70 .ok (presetBody ((v.presetSet t n).way way) w.outcome (v.presetSet t n).lru)) := by
  have received : s.received.checkWay t n way .host = (v.received, w) := by rw [State.checkWay_received, read]
  show execPresetRead t n way s = _
  rw [execPresetRead, hostRequest_handled (checks := fun _ => [(badPlace t n way, .range)]) ready (find?_check_passed bad), State.readWay, received]
  rfl

end

/-- Settles O50, one case of `State.checkWay` after the other. -/
theorem preset_read_checks_the_record : Obligations.preset_read_checks_the_record := by
  rintro t n way s x r ready sized rfl rfl
  refine ⟨fun bad => exec_presetRead_refused ready (badPlace_eq_true bad), fun h1 h12 hn hw => ?_⟩
  have bad : badPlace t n way = false := (badPlace_eq_false_iff t n way).mpr ⟨⟨h1, h12⟩, hn, hw⟩
  refine ⟨fun invalid => exec_presetRead ready bad (State.checkWay_invalid invalid),
    fun valid good => exec_presetRead ready bad (State.checkWay_good valid good), fun valid corrected => ?_, fun valid double => ?_⟩
  · have set : (s.corrected t n way).presetSet t n = (s.presetSet t n).setWay way ((s.presetSet t n).way way).checked.2 :=
      State.putRecord_self sized h1 h12 hn _ _
    refine ⟨_, exec_presetRead ready bad (State.checkWay_corrected valid corrected), ?_, set, rfl, rfl,
      fun k m h => s.putRecord_ne way _ h⟩
    rw [set, PresetSet.way_setWay_self, PresetSet.setWay_lru]
    rfl
  · have set : ((s.putRecord t n way ((s.presetSet t n).way way).checked.2).presetError .double t n way .host).presetSet t n =
        (s.presetSet t n).setWay way { (s.presetSet t n).way way with valid := false } := by
      rw [State.presetError_presetSet, State.putRecord_self sized h1 h12 hn, PresetRecord.checked_double_disabled double]
    obtain ⟨alert, taken, more⟩ :=
      (s.putRecord t n way ((s.presetSet t n).way way).checked.2).presetError_noted .double t n way .host
    refine ⟨_, exec_presetRead ready bad (State.checkWay_double valid double), ?_, set,
      (s.putRecord t n way _).presetError_double t n way .host, alert,
      fun k m h => ((s.putRecord t n way _).presetError_presetSet .double t n way .host k m).trans (s.putRecord_ne way _ h), taken, more⟩
    rw [set, PresetSet.way_setWay_self, PresetSet.setWay_lru]
    rfl

end Sys2Proof.Machine

/-! # The scrubber (R185) -/
namespace Sys2Proof.Machine

open Sys2Proof

section

variable {s u v : State} {t n way : Nat} {source : PresetSource} {r : PresetRecord}

/-! ## What the reads of one set leave of the sets -/

/-- The LRU marks and every set but one are as before. -/
structure ReadsOne (t n : Nat) (s u : State) : Prop where
  sized : u.sized
  lru : ∀ k m, (u.presetSet k m).lru = (s.presetSet k m).lru
  others : ∀ k m, k ≠ t ∨ m ≠ n → u.presetSet k m = s.presetSet k m

theorem ReadsOne.refl (sized : s.sized) (t n : Nat) : ReadsOne t n s s := ⟨sized, fun _ _ => rfl, fun _ _ _ => rfl⟩

theorem ReadsOne.trans (first : ReadsOne t n s u) (second : ReadsOne t n u v) : ReadsOne t n s v :=
  ⟨second.sized, fun k m => (second.lru k m).trans (first.lru k m), fun k m h => (second.others k m h).trans (first.others k m h)⟩

/-- A set put in place with the mark it had. -/
theorem ReadsOne.put {x : PresetSet} (sized : u.sized) (written : ∀ k m, u.presetSet k m = (s.setPresetSet t n x).presetSet k m)
    (there : (s.setPresetSet t n x).presetSet t n = x) (mark : x.lru = (s.presetSet t n).lru) : ReadsOne t n s u := by
  have others (k m : Nat) (h : k ≠ t ∨ m ≠ n) : u.presetSet k m = s.presetSet k m := by
    rw [written, s.presetSet_setPresetSet_ne x h]
  refine ⟨sized, fun k m => ?_, others⟩
  by_cases here : k = t ∧ m = n
  · rw [here.1, here.2, written, there, mark]
  · rw [others k m (by omega)]

theorem State.checkWay_written (sized : s.sized) (valid : ((s.presetSet t n).way way).valid = true) :
    ∀ k m, (s.checkWay t n way source).1.presetSet k m = (s.putRecord t n way ((s.presetSet t n).way way).checked.2).presetSet k m := by
  obtain ⟨h1, h12, hn⟩ := State.valid_inRange sized valid
  rcases ((s.presetSet t n).way way).checked_cases with ⟨good, same⟩ | ⟨corrected, -⟩ | ⟨double, -⟩
  · intro k m
    rw [State.checkWay_good valid good, same]
    by_cases here : k = t ∧ m = n
    · rw [here.1, here.2, State.putRecord_self sized h1 h12 hn]
      unfold PresetSet.setWay PresetSet.way
      split <;> rfl
    · rw [s.putRecord_ne way _ (by omega)]
  · intro k m
    rw [State.checkWay_corrected valid corrected]
    rfl
  · intro k m
    rw [State.checkWay_double valid double, State.presetError_presetSet]

/-- The set that a check of a valid record leaves. -/
theorem State.checkWay_set (sized : s.sized) (valid : ((s.presetSet t n).way way).valid = true) :
    (s.checkWay t n way source).1.presetSet t n = (s.presetSet t n).setWay way ((s.presetSet t n).way way).checked.2 := by
  obtain ⟨h1, h12, hn⟩ := State.valid_inRange sized valid
  rw [State.checkWay_written sized valid, State.putRecord_self sized h1 h12 hn]

theorem State.checkWay_readsOne (sized : s.sized) (t n way : Nat) (source : PresetSource) :
    ReadsOne t n s (s.checkWay t n way source).1 := by
  cases valid : ((s.presetSet t n).way way).valid with
  | false => rw [State.checkWay_invalid valid]; exact ReadsOne.refl sized t n
  | true =>
    obtain ⟨h1, h12, hn⟩ := State.valid_inRange sized valid
    exact ReadsOne.put (sized.checkWay t n way source) (State.checkWay_written sized valid)
      (State.presetSet_setPresetSet _ sized h1 h12 hn) (PresetSet.setWay_lru _ _ _)

/-- Both ways hold one key: both are invalidated, and the error is noted. -/
def State.duplicated (s : State) (t n : Nat) (source : PresetSource) : State :=
  (s.setPresetSet t n { s.presetSet t n with
    way0 := (s.presetSet t n).way0.disable, way1 := (s.presetSet t n).way1.disable }).presetError .duplicate t n 1 source

theorem State.checkDuplicate_found
    (same : ((s.presetSet t n).way0.valid && (s.presetSet t n).way1.holds (s.presetSet t n).way0.antenna (s.presetSet t n).way0.channel) = true) :
    s.checkDuplicate t n source = s.duplicated t n source := if_pos same

theorem State.checkDuplicate_none
    (differ : ((s.presetSet t n).way0.valid && (s.presetSet t n).way1.holds (s.presetSet t n).way0.antenna (s.presetSet t n).way0.channel) =
      false) : s.checkDuplicate t n source = s := if_neg (by rw [differ]; exact Bool.false_ne_true)

theorem State.checkDuplicate_readsOne (sized : s.sized) (t n : Nat) (source : PresetSource) :
    ReadsOne t n s (s.checkDuplicate t n source) := by
  cases same : (s.presetSet t n).way0.valid && (s.presetSet t n).way1.holds (s.presetSet t n).way0.antenna (s.presetSet t n).way0.channel with
  | false => rw [State.checkDuplicate_none same]; exact ReadsOne.refl sized t n
  | true =>
    have valid : ((s.presetSet t n).way 0).valid = true := (Bool.and_eq_true_iff.mp same).1
    obtain ⟨h1, h12, hn⟩ := State.valid_inRange sized valid
    have handed := State.checkDuplicate_handed (Handed.refl s) t n source
    rw [State.checkDuplicate_found same] at handed ⊢
    exact ReadsOne.put ((congrArg Kept.sizes handed.kept).trans sized) (State.presetError_presetSet _ _ t n 1 source)
      (State.presetSet_setPresetSet _ sized h1 h12 hn) rfl

/-! ## The record at the scrub position -/

theorem State.scrubRecord_way0 (h : s.pc.scrubWay = 0) :
    s.scrubRecord = (s.checkWay s.pc.scrubTx s.pc.scrubSet 0 .scrub).1 := by
  simp [State.scrubRecord, h]

theorem State.scrubRecord_way1_invalid (h : s.pc.scrubWay = 1) (invalid : (s.presetSet s.pc.scrubTx s.pc.scrubSet).way1.valid = false) :
    s.scrubRecord = s := by
  simp [State.scrubRecord, h, invalid]

/-- At way 1 way 0 is read too when both are valid after the check of way 1. -/
theorem State.scrubRecord_way1 (h : s.pc.scrubWay = 1) (valid : (s.presetSet s.pc.scrubTx s.pc.scrubSet).way1.valid = true)
    (hv : (s.checkWay s.pc.scrubTx s.pc.scrubSet 1 .scrub).1 = v) : s.scrubRecord =
      if (v.presetSet s.pc.scrubTx s.pc.scrubSet).way0.valid && (v.presetSet s.pc.scrubTx s.pc.scrubSet).way1.valid then
        ((v.checkWay s.pc.scrubTx s.pc.scrubSet 0 .scrub).1).checkDuplicate s.pc.scrubTx s.pc.scrubSet .scrub
      else v := by
  simp [State.scrubRecord, h, valid, hv]

theorem State.scrubRecord_readsOne (sized : s.sized) (way : s.pc.scrubWay ≤ 1) :
    ReadsOne s.pc.scrubTx s.pc.scrubSet s s.scrubRecord := by
  rcases Nat.le_one_iff_eq_zero_or_eq_one.mp way with zero | one
  · rw [State.scrubRecord_way0 zero]
    exact State.checkWay_readsOne sized _ _ 0 .scrub
  · cases valid : (s.presetSet s.pc.scrubTx s.pc.scrubSet).way1.valid with
    | false => rw [State.scrubRecord_way1_invalid one valid]; exact ReadsOne.refl sized _ _
    | true =>
      have first := State.checkWay_readsOne sized s.pc.scrubTx s.pc.scrubSet 1 .scrub
      rw [State.scrubRecord_way1 one valid rfl]
      split
      · have second := State.checkWay_readsOne first.sized s.pc.scrubTx s.pc.scrubSet 0 .scrub
        exact (first.trans second).trans (State.checkDuplicate_readsOne second.sized _ _ .scrub)
      · exact first

/-- Without an error of way 0 and without a duplicate, the check of the record is all. -/
theorem State.scrubRecord_alone (sized : s.sized) (way : s.pc.scrubWay ≤ 1)
    (valid : ((s.presetSet s.pc.scrubTx s.pc.scrubSet).way s.pc.scrubWay).valid = true)
    (quiet : s.pc.scrubWay = 1 → (s.presetSet s.pc.scrubTx s.pc.scrubSet).way0.valid = true →
      ((s.presetSet s.pc.scrubTx s.pc.scrubSet).way s.pc.scrubWay).checked.2.valid = true →
      (s.presetSet s.pc.scrubTx s.pc.scrubSet).way0.checked.1 = .good ∧
      ((s.presetSet s.pc.scrubTx s.pc.scrubSet).way s.pc.scrubWay).checked.2.holds
        (s.presetSet s.pc.scrubTx s.pc.scrubSet).way0.antenna (s.presetSet s.pc.scrubTx s.pc.scrubSet).way0.channel = false) :
    s.scrubRecord = (s.checkWay s.pc.scrubTx s.pc.scrubSet s.pc.scrubWay .scrub).1 := by
  rcases Nat.le_one_iff_eq_zero_or_eq_one.mp way with zero | one
  · rw [State.scrubRecord_way0 zero, zero]
  · rw [one] at valid quiet ⊢
    have set := State.checkWay_set (source := .scrub) sized valid
    rw [State.scrubRecord_way1 one valid rfl]
    generalize (s.checkWay s.pc.scrubTx s.pc.scrubSet 1 .scrub).1 = v at set ⊢
    have way0 : (v.presetSet s.pc.scrubTx s.pc.scrubSet).way0 = (s.presetSet s.pc.scrubTx s.pc.scrubSet).way0 := by rw [set]; rfl
    have way1 : (v.presetSet s.pc.scrubTx s.pc.scrubSet).way1 = ((s.presetSet s.pc.scrubTx s.pc.scrubSet).way 1).checked.2 := by
      rw [set]; rfl
    split
    next both =>
      obtain ⟨valid0, valid1⟩ := Bool.and_eq_true_iff.mp both
      rw [way0] at valid0
      rw [way1] at valid1
      obtain ⟨good, differs⟩ := quiet rfl valid0 valid1
      have read0 : ((v.presetSet s.pc.scrubTx s.pc.scrubSet).way 0).valid = true ∧
          ((v.presetSet s.pc.scrubTx s.pc.scrubSet).way 0).checked.1 = .good := by
        rw [show (v.presetSet s.pc.scrubTx s.pc.scrubSet).way 0 = _ from way0]; exact ⟨valid0, good⟩
      rw [State.checkWay_good read0.1 read0.2, State.checkDuplicate_none (by rw [way0, way1, differs, Bool.and_false])]
    · rfl

/-- Two good records of one key at way 1. -/
theorem State.scrubRecord_duplicate (one : s.pc.scrubWay = 1)
    (valid : (s.presetSet s.pc.scrubTx s.pc.scrubSet).way1.valid = true) (valid0 : (s.presetSet s.pc.scrubTx s.pc.scrubSet).way0.valid = true)
    (good : (s.presetSet s.pc.scrubTx s.pc.scrubSet).way1.checked.1 = .good)
    (good0 : (s.presetSet s.pc.scrubTx s.pc.scrubSet).way0.checked.1 = .good)
    (same : (s.presetSet s.pc.scrubTx s.pc.scrubSet).way1.holds
      (s.presetSet s.pc.scrubTx s.pc.scrubSet).way0.antenna (s.presetSet s.pc.scrubTx s.pc.scrubSet).way0.channel = true) :
    s.scrubRecord = s.duplicated s.pc.scrubTx s.pc.scrubSet .scrub := by
  have first : (s.checkWay s.pc.scrubTx s.pc.scrubSet 1 .scrub).1 = s := by
    rw [State.checkWay_good (way := 1) valid good]
  have second : (s.checkWay s.pc.scrubTx s.pc.scrubSet 0 .scrub).1 = s := by
    rw [State.checkWay_good (way := 0) valid0 good0]
  rw [State.scrubRecord_way1 one valid first, if_pos (by rw [valid, valid0]; rfl), second, State.checkDuplicate_found (by rw [valid0, same]; rfl)]

/-! ## The position and the interval -/

theorem PresetCache.advanceScrub_way0 (c : PresetCache) (h : c.scrubWay = 0) : c.advanceScrub = { c with scrubWay := 1 } := if_pos h

theorem PresetCache.advanceScrub_set (c : PresetCache) (h : c.scrubWay = 1) (set : c.scrubSet < 63) :
    c.advanceScrub = { c with scrubWay := 0, scrubSet := c.scrubSet + 1 } := by
  simp [PresetCache.advanceScrub, h, set]

theorem PresetCache.advanceScrub_tx (c : PresetCache) (h : c.scrubWay = 1) (set : c.scrubSet = 63) :
    c.advanceScrub = { c with scrubWay := 0, scrubSet := 0, scrubTx := if c.scrubTx < 12 then c.scrubTx + 1 else 1 } := by
  simp [PresetCache.advanceScrub, h, set]

/-- Everything but the position and the next interval is what the check of the record left. -/
structure ScrubEnded (v u : State) : Prop where
  lc : u.lc = v.lc
  clock : u.clock = v.clock
  directories : u.pc.directories = v.pc.directories
  latch : u.pc.latch = v.pc.latch
  more : u.pc.more = v.pc.more
  corrected : u.pc.corrected = v.pc.corrected
  double : u.pc.double = v.pc.double
  duplicate : u.pc.duplicate = v.pc.duplicate

theorem State.scrub_ended (s : State) : ScrubEnded s.scrubRecord s.scrub := by
  have ended {c : PresetCache} {due : Option Nat} (same : c.directories = s.scrubRecord.pc.directories ∧ c.latch = s.scrubRecord.pc.latch ∧
      c.more = s.scrubRecord.pc.more ∧ c.corrected = s.scrubRecord.pc.corrected ∧ c.double = s.scrubRecord.pc.double ∧
      c.duplicate = s.scrubRecord.pc.duplicate) : ScrubEnded s.scrubRecord { s.scrubRecord with pc := { c with scrubAt := due } } := by
    obtain ⟨directories, latch, more, corrected, double, duplicate⟩ := same
    exact ⟨rfl, rfl, directories, latch, more, corrected, double, duplicate⟩
  refine ended ?_
  unfold PresetCache.advanceScrub
  split
  · exact ⟨rfl, rfl, rfl, rfl, rfl, rfl⟩
  · split <;> exact ⟨rfl, rfl, rfl, rfl, rfl, rfl⟩

theorem ScrubEnded.presetSet (h : ScrubEnded v u) (k m : Nat) : u.presetSet k m = v.presetSet k m := State.presetSet_congr h.directories k m

theorem ScrubEnded.noted {kind : PresetErrorKind} (h : ScrubEnded v u) (noted : Noted s v kind t n way source) :
    Noted s u kind t n way source := by
  obtain ⟨alert, taken, more⟩ := noted
  exact ⟨by rw [h.lc]; exact alert, by rw [h.latch]; exact taken, by rw [h.latch, h.more]; exact more⟩

theorem State.scrub_due (s : State) : s.scrub.pc.scrubAt =
    if s.scrubRecord.params.scrubMs = 0 then none else some (s.scrubRecord.clock + s.scrubRecord.params.scrubMs) := rfl

theorem exec_scrubCheck {m : Nat} (due : s.pc.scrubAt = some m) (later : s.clock ≤ m) :
    exec .scrubCheck s = .next (State.scrub { s with clock := m }) := by
  show execScrubCheck s = _
  simp only [execScrubCheck, due, State.reach_at later]

/-- The position of the next check. -/
theorem State.scrub_position (s : State) :
    (s.pc.scrubWay = 0 → s.scrub.pc.scrubTx = s.pc.scrubTx ∧ s.scrub.pc.scrubSet = s.pc.scrubSet ∧ s.scrub.pc.scrubWay = 1) ∧
    (s.pc.scrubWay = 1 → s.pc.scrubSet < 63 →
      s.scrub.pc.scrubTx = s.pc.scrubTx ∧ s.scrub.pc.scrubSet = s.pc.scrubSet + 1 ∧ s.scrub.pc.scrubWay = 0) ∧
    (s.pc.scrubWay = 1 → s.pc.scrubSet = 63 →
      s.scrub.pc.scrubTx = (if s.pc.scrubTx < 12 then s.pc.scrubTx + 1 else 1) ∧ s.scrub.pc.scrubSet = 0 ∧ s.scrub.pc.scrubWay = 0) := by
  have kept : (s.scrubRecord.pc.scrubTx, s.scrubRecord.pc.scrubSet, s.scrubRecord.pc.scrubWay, s.scrubRecord.pc.scrubAt) =
      (s.pc.scrubTx, s.pc.scrubSet, s.pc.scrubWay, s.pc.scrubAt) := congrArg Kept.scrub (State.scrubRecord_handed (Handed.refl s)).kept
  have tx : s.scrubRecord.pc.scrubTx = s.pc.scrubTx := congrArg (·.1) kept
  have set : s.scrubRecord.pc.scrubSet = s.pc.scrubSet := congrArg (·.2.1) kept
  have way : s.scrubRecord.pc.scrubWay = s.pc.scrubWay := congrArg (·.2.2.1) kept
  have position : s.scrub.pc.scrubTx = s.scrubRecord.pc.advanceScrub.scrubTx ∧ s.scrub.pc.scrubSet = s.scrubRecord.pc.advanceScrub.scrubSet ∧
      s.scrub.pc.scrubWay = s.scrubRecord.pc.advanceScrub.scrubWay := ⟨rfl, rfl, rfl⟩
  obtain ⟨toTx, toSet, toWay⟩ := position
  rw [toTx, toSet, toWay]
  refine ⟨fun zero => ?_, fun one inside => ?_, fun one last => ?_⟩
  · rw [PresetCache.advanceScrub_way0 _ (way.trans zero)]
    exact ⟨tx, set, rfl⟩
  · rw [PresetCache.advanceScrub_set _ (way.trans one) (set ▸ inside)]
    exact ⟨tx, congrArg (· + 1) set, rfl⟩
  · rw [PresetCache.advanceScrub_tx _ (way.trans one) (set.trans last)]
    exact ⟨by simp only [tx], rfl, rfl⟩

end

/-- Settles O55: the check of the record at the position (`State.scrubRecord_alone`, `State.scrubRecord_duplicate`), then the position
and the interval. -/
theorem scrub_checks_one_record_and_advances : Obligations.scrub_checks_one_record_and_advances := by
  rintro m s₀ x r sized due later way rfl rfl
  obtain ⟨s, at_m⟩ : ∃ s : State, s = { s₀ with clock := m } := ⟨_, rfl⟩
  have tx : s₀.pc.scrubTx = s.pc.scrubTx := by rw [at_m]
  have pc : s₀.pc = s.pc := by rw [at_m]
  have lc : s₀.lc = s.lc := by rw [at_m]
  have tb : s₀.tb = s.tb := by rw [at_m]
  have sets (k n : Nat) : s₀.presetSet k n = s.presetSet k n := by rw [at_m]; rfl
  have ssized : s.sized := by rw [at_m]; exact sized
  simp only [sets, pc, lc, tb] at way ⊢
  have handed := State.scrubRecord_handed (Handed.refl s)
  have ended := s.scrub_ended
  have one := State.scrubRecord_readsOne ssized way
  have clock : s.scrub.clock = m := 
    (ended.clock.trans (congrArg Kept.clock handed.kept)).trans (by rw [at_m]; rfl)
  have ht : s.scrubRecord.ht = s₀.ht := (congrArg Kept.ht handed.kept).trans (by rw [at_m]; rfl)
  refine ⟨s.scrub, by rw [exec_scrubCheck due later, at_m], clock, ?_, s.scrub_position.1, s.scrub_position.2.1, s.scrub_position.2.2,
    fun t n => by rw [ended.presetSet, one.lru], fun t n h => by rw [ended.presetSet, one.others t n h], fun invalid => ?_,
    fun valid quiet => ⟨fun good => ?_, fun corrected => ?_⟩, fun valid double => ?_, fun way1 valid valid0 good good0 same => ?_⟩
  · rw [State.scrub_due, State.params, ht, ← ended.clock, clock]
    rfl
  · have unchanged : s.scrubRecord = s := by
      rcases Nat.le_one_iff_eq_zero_or_eq_one.mp way with zero | isOne
      · rw [State.scrubRecord_way0 zero, State.checkWay_invalid (by rw [zero] at invalid; exact invalid)]
      · exact State.scrubRecord_way1_invalid isOne (by rw [isOne] at invalid; exact invalid)
    rw [ended.directories, ended.lc, ended.latch, unchanged]
    exact ⟨rfl, rfl, rfl⟩
  · have alone := State.scrubRecord_alone ssized way valid fun isOne valid0 _ => quiet isOne valid0
    rw [State.checkWay_good valid good] at alone
    rw [ended.directories, ended.lc, ended.latch, alone]
    exact ⟨rfl, rfl, rfl⟩
  · have alone := State.scrubRecord_alone ssized way valid fun isOne valid0 _ => quiet isOne valid0
    have set := State.checkWay_set (source := .scrub) ssized valid
    rw [State.checkWay_corrected valid corrected] at alone set
    rw [ended.presetSet, ended.corrected, ended.lc, ended.latch, alone]
    exact ⟨set, rfl, rfl, rfl⟩
  · have disabled := PresetRecord.checked_double_disabled double
    have alone := State.scrubRecord_alone ssized way valid fun _ _ still => by rw [disabled] at still; cases still
    have set := State.checkWay_set (source := .scrub) ssized valid
    have found : s.scrubRecord = (s.putRecord s.pc.scrubTx s.pc.scrubSet s.pc.scrubWay
      ((s.presetSet s.pc.scrubTx s.pc.scrubSet).way s.pc.scrubWay).checked.2).presetError .double
        s.pc.scrubTx s.pc.scrubSet s.pc.scrubWay .scrub := alone.trans (congrArg Prod.fst (State.checkWay_double valid double))
    have noted := (s.putRecord s.pc.scrubTx s.pc.scrubSet s.pc.scrubWay
      ((s.presetSet s.pc.scrubTx s.pc.scrubSet).way s.pc.scrubWay).checked.2).presetError_noted .double
        s.pc.scrubTx s.pc.scrubSet s.pc.scrubWay .scrub
    rw [← found] at noted
    obtain ⟨alert, taken, more⟩ := ended.noted noted
    refine ⟨by rw [ended.presetSet, alone, set, disabled], ?_, alert, taken, more⟩
    rw [ended.double, found]
    exact State.presetError_double _ _ _ _ _
  · rw [way1] at valid good same
    have found := State.scrubRecord_duplicate way1 valid valid0 good good0 same
    obtain ⟨h1, h12, hn⟩ := State.valid_inRange ssized valid
    have noted := (s.setPresetSet s.pc.scrubTx s.pc.scrubSet { s.presetSet s.pc.scrubTx s.pc.scrubSet with
      way0 := (s.presetSet s.pc.scrubTx s.pc.scrubSet).way0.disable
      way1 := (s.presetSet s.pc.scrubTx s.pc.scrubSet).way1.disable }).presetError_noted .duplicate s.pc.scrubTx s.pc.scrubSet 1 .scrub
    rw [← State.duplicated, ← found] at noted
    obtain ⟨alert, taken, more⟩ := ended.noted noted
    refine ⟨?_, ?_, alert, taken, more⟩
    · rw [ended.presetSet, found, State.duplicated, State.presetError_presetSet, State.presetSet_setPresetSet _ ssized h1 h12 hn, way1]
      rfl
    · rw [ended.duplicate, found]
      exact State.presetError_duplicate _ _ _ _ _

end Sys2Proof.Machine

/-! # PRESET_FREEZE, PRESET_WINDOW, PRESET_ERROR and PRESET_FLUSH (R179, R182, R186, R189, R192) -/
namespace Sys2Proof.Machine

open Sys2Proof

section

variable {s u : State} {t n : Nat}

/-! ## Every set changed -/

theorem getD_map_of_default {f : PresetSet → PresetSet} (empty : f PresetSet.empty = PresetSet.empty) (d : List PresetSet) (n : Nat) :
    (d.map f).getD n PresetSet.empty = f (d.getD n PresetSet.empty) := by
  simp only [List.getD, List.getElem?_map]
  cases d[n]? <;> simp [empty]

theorem State.mapSets_presetSet {f : PresetSet → PresetSet} (empty : f PresetSet.empty = PresetSet.empty) (s : State) (t n : Nat) :
    (s.mapSets f).presetSet t n = f (s.presetSet t n) := by
  have directory : nth (s.pc.directories.map fun d => d.map f) [] t = (nth s.pc.directories [] t).map f := by
    unfold nth
    split
    · rfl
    · simp only [List.getD, List.getElem?_map]
      cases s.pc.directories[t - 1]? <;> rfl
  show (nth (s.pc.directories.map fun d => d.map f) [] t).getD n PresetSet.empty = _
  rw [directory, getD_map_of_default empty]
  rfl

/-! ## PRESET_FREEZE -/

theorem exec_presetFreeze (ready : s.ready) (b : Bool) :
    exec (.presetFreeze (if b then 0 else 1)) s = .next ((s.received.setFreeze b).answer 0x73 .ok []) := by
  cases b
  · exact hostRequest_handled (checks := fun _ => [(decide (1 < 1), .range)]) ready rfl
  · exact hostRequest_handled (checks := fun _ => [(decide (1 < 0), .range)]) ready rfl

theorem State.endRestore_none (none : s.pc.restore = none) (outcome : CopyEnd) : s.endRestore outcome = s := by
  simp only [State.endRestore, none]

theorem State.endRestore_some {run : RestoreRun} (some : s.pc.restore = some run) (outcome : CopyEnd) : s.endRestore outcome =
    { s with
      pc := { s.pc with restore := none
                        lastRestore := Option.some { outcome := outcome, pages := run.next, counts := run.counts } }
      ss := { s.ss with readWait := s.ss.readWait.filter fun w => w.reader != .restorePage } } := by
  simp only [State.endRestore, some]
  rfl

theorem State.setFreeze_on (none : s.pc.restore = none) : s.setFreeze true = { s with pc := { s.pc with frozen := true } } :=
  State.endRestore_none (s := { s with pc := { s.pc with frozen := true } }) none .frozen

/-- ON ends a restore and gives up the page it waits for (R192). -/
theorem State.setFreeze_on_restoring {run : RestoreRun} (some : s.pc.restore = some run) : s.setFreeze true =
    { s with
      pc := { s.pc with frozen := true, restore := none
                        lastRestore := Option.some { outcome := .frozen, pages := run.next, counts := run.counts } }
      ss := { s.ss with readWait := s.ss.readWait.filter fun w => w.reader != .restorePage } } :=
  State.endRestore_some (s := { s with pc := { s.pc with frozen := true } }) some .frozen

/-! ## PRESET_WINDOW -/

/-- The change of a window on one set. -/
def PresetWindow.applied (x : PresetWindow) (p : PresetSet) : PresetSet :=
  { p with way0 := if x.covers p.way0.channel then p.way0.disable else p.way0
           way1 := if x.covers p.way1.channel then p.way1.disable else p.way1 }

theorem PresetWindow.applied_way (x : PresetWindow) (p : PresetSet) (way : Nat) :
    (x.applied p).way way = if x.covers (p.way way).channel then (p.way way).disable else p.way way := by
  unfold PresetSet.way
  split <;> rfl

theorem PresetWindow.applied_empty (x : PresetWindow) : x.applied PresetSet.empty = PresetSet.empty := by
  have invalid : PresetRecord.invalid.disable = PresetRecord.invalid := rfl
  simp only [PresetWindow.applied, PresetSet.empty, invalid, ite_self]

theorem State.setWindow_presetSet (s : State) (w : Nat) (x : PresetWindow) (t n : Nat) :
    (s.setWindow w x).presetSet t n = x.applied (s.presetSet t n) :=
  State.mapSets_presetSet (f := x.applied) x.applied_empty _ t n

theorem PresetWindow.covers_iff (x : PresetWindow) (c : Nat) : x.covers c = true ↔
    x.enabled = true ∧ x.base ≤ c ∧ c < x.base + 2 ^ x.exponent := by
  simp [PresetWindow.covers]

theorem exec_presetWindow_refused {w e b k : Nat} (ready : s.ready) (bad : w = 0 ∨ 4 < w ∨ 4760 < b ∨ 12 < k) :
    exec (.presetWindow w e b k) s = .next (s.received.answer 0x74 .range []) := by
  have range : windowRange w e b k = true := by
    unfold windowRange within
    simp only [Bool.or_eq_true, Bool.not_eq_true', decide_eq_false_iff_not, decide_eq_true_eq]
    omega
  show execPresetWindow w e b k s = _
  exact hostRequest_handle_refused (checks := fun _ => [(windowRange w e b k, .range)]) ready (by simp [range])

theorem exec_presetWindow {w b k : Nat} (ready : s.ready) (h1 : 1 ≤ w) (h4 : w ≤ 4) (hb : b ≤ 4760) (hk : k ≤ 12) (e : Bool) :
    exec (.presetWindow w (if e then 1 else 0) b k) s = .next
      ((s.received.setWindow w { enabled := e, base := b, exponent := k }).answer 0x74 .ok
        (u16 (s.validRecords - (s.received.setWindow w { enabled := e, base := b, exponent := k }).validRecords))) := by
  have range (c : Nat) (hc : c ≤ 1) : windowRange w c b k = false := by
    unfold windowRange within yesNo
    simp only [Bool.or_eq_false_iff, Bool.not_eq_false', decide_eq_true_eq, decide_eq_false_iff_not]
    omega
  cases e
  · exact hostRequest_handled (checks := fun _ => [(windowRange w 0 b k, .range)]) ready (find?_check_passed (range 0 (by omega)))
  · exact hostRequest_handled (checks := fun _ => [(windowRange w 1 b k, .range)]) ready (find?_check_passed (range 1 (by omega)))

theorem exec_presetError (ready : s.ready) :
    exec .presetError s = .next (s.received.emptyLatch.answer 0x77 .ok s.presetErrorBody) := by
  show execPresetError s = _
  rw [execPresetError, hostRequest_ready ready]
  rfl

end

/-- Settles O53. -/
theorem freeze_windows_and_error_latch_are_set : Obligations.freeze_windows_and_error_latch_are_set := by
  intro s ready
  refine ⟨fun none b => ?_, fun run restoring => ⟨?_, ?_⟩, fun w e b k bad => exec_presetWindow_refused ready bad,
    fun w b k e h1 h4 hb hk => ?_, exec_presetError ready⟩
  · rw [exec_presetFreeze ready b]
    cases b
    · rfl
    · rw [State.setFreeze_on (s := s.received) none]
      rfl
  · exact exec_presetFreeze ready false
  · rw [show exec (.presetFreeze 0) s = _ from exec_presetFreeze ready true, State.setFreeze_on_restoring (s := s.received) restoring]
    rfl
  · refine ⟨_, exec_presetWindow ready h1 h4 hb hk e, rfl, rfl, fun t n way => ?_⟩
    have set : (State.answer (s.received.setWindow w { enabled := e, base := b, exponent := k }) 0x74 .ok
        (u16 (s.validRecords - (s.received.setWindow w { enabled := e, base := b, exponent := k }).validRecords))).presetSet t n =
        PresetWindow.applied { enabled := e, base := b, exponent := k } (s.presetSet t n) := State.setWindow_presetSet _ _ _ t n
    rw [set, PresetWindow.applied_way]
    refine ⟨fun covered => if_pos ((PresetWindow.covers_iff _ _).mpr covered), fun free => if_neg fun covered =>
      free ((PresetWindow.covers_iff _ _).mp covered), rfl⟩

end Sys2Proof.Machine

/-! # PRESET_FLUSH (R189) -/
namespace Sys2Proof.Machine

open Sys2Proof

section

variable {s u : State} {t n a c scope : Nat}

theorem flushRange_eq_true (bad : 2 < scope ∨ (scope ≤ 1 ∧ (t = 0 ∨ 12 < t)) ∨ (scope = 0 ∧ (a = 0 ∨ 24 < a ∨ 4760 < c))) :
    flushRange scope t a c = true := by
  unfold flushRange within
  simp only [Bool.or_eq_true, Bool.and_eq_true, Bool.not_eq_true', decide_eq_true_eq, decide_eq_false_iff_not, beq_iff_eq]
  omega

theorem flushRange_eq_false (h : scope ≤ 2) (tx : scope < 2 → 1 ≤ t ∧ t ≤ 12) (key : scope = 0 → 1 ≤ a ∧ a ≤ 24 ∧ c ≤ 4760) :
    flushRange scope t a c = false := by
  unfold flushRange within
  simp only [Bool.or_eq_false_iff, Bool.and_eq_false_iff, Bool.not_eq_false', decide_eq_true_eq, decide_eq_false_iff_not, beq_eq_false_iff_ne]
  omega

theorem exec_presetFlush_refused (ready : s.ready) (bad : flushRange scope t a c = true) :
    exec (.presetFlush scope t a c) s = .next (s.received.answer 0x72 .range []) := by
  show execPresetFlush scope t a c s = _
  exact hostRequest_handle_refused (checks := fun _ => [(flushRange scope t a c, .range)]) ready (by simp [bad])

theorem exec_presetFlush (ready : s.ready) (pass : flushRange scope t a c = false) :
    exec (.presetFlush scope t a c) s = .next ((s.received.flush scope t a c).answer 0x72 .ok
      (u16 (s.validRecords - (s.received.flush scope t a c).validRecords))) := by
  show execPresetFlush scope t a c s = _
  exact hostRequest_handled (checks := fun _ => [(flushRange scope t a c, .range)]) ready (find?_check_passed pass)

/-! ## One key -/

theorem State.checkDuplicate_save (s : State) (t n : Nat) (source : PresetSource) : (s.checkDuplicate t n source).pc.save = s.pc.save := by
  unfold State.checkDuplicate
  dsimp only
  split
  · exact (State.presetError_frame _ _ _ _ _ _).2.1
  · rfl

/-- A read of a set leaves a save as it is. -/
theorem State.readSet_save (s : State) (t n : Nat) (source : PresetSource) : (s.readSet t n source).pc.save = s.pc.save := by
  unfold State.readSet
  rw [State.checkDuplicate_save, (State.checkWay_frame _ t n 1 source).2.1, (State.checkWay_frame _ t n 0 source).2.1]

theorem State.readSet_readsOne (sized : s.sized) (t n : Nat) (source : PresetSource) : ReadsOne t n s (s.readSet t n source) := by
  have first := State.checkWay_readsOne sized t n 0 source
  have second := State.checkWay_readsOne first.sized t n 1 source
  exact (first.trans second).trans (State.checkDuplicate_readsOne second.sized t n source)

theorem PresetSet.find_le {x : PresetSet} {way : Nat} (h : x.find a c = some way) : way ≤ 1 := by
  unfold PresetSet.find at h
  split at h
  · obtain rfl := Option.some.inj h; omega
  · split at h
    · obtain rfl := Option.some.inj h; omega
    · cases h

/-- The way of a set that is not the one written. -/
theorem PresetSet.way_setWay_ne (x : PresetSet) (r : PresetRecord) {way k : Nat} (hw : way ≤ 1) (hk : k ≤ 1) (h : k ≠ way) :
    (x.setWay way r).way k = x.way k := by
  have other : k = 1 - way := by omega
  rw [other, PresetSet.way_setWay_other x r hw]

/-- The key's record is invalidated, and the set is else as its read left it. -/
theorem State.flushKey_found {way : Nat} (hu : u = s.readSet t (keySet a c) .host) (found : (u.presetSet t (keySet a c)).find a c = some way) :
    s.flushKey t a c = u.putRecord t (keySet a c) way ((u.presetSet t (keySet a c)).way way).disable := by
  subst hu
  simp only [State.flushKey, found]
  rfl

theorem State.flushKey_missed (hu : u = s.readSet t (keySet a c) .host) (missed : (u.presetSet t (keySet a c)).find a c = none) :
    s.flushKey t a c = u := by
  subst hu
  simp only [State.flushKey, missed]

/-- What a flush of one key leaves of the sets, in terms of the state `u` that the read of the key's set leaves. -/
structure KeyFlushed (t n a c : Nat) (u v : State) : Prop where
  lru : (v.presetSet t n).lru = (u.presetSet t n).lru
  ways : ∀ way, way ≤ 1 → (v.presetSet t n).way way =
    if (u.presetSet t n).find a c = some way then { (u.presetSet t n).way way with valid := false } else (u.presetSet t n).way way
  others : ∀ k m, k ≠ t ∨ m ≠ n → v.presetSet k m = u.presetSet k m

theorem State.flushKey_flushed (usized : u.sized) (h1 : 1 ≤ t) (h12 : t ≤ 12) (hu : u = s.readSet t (keySet a c) .host) :
    KeyFlushed t (keySet a c) a c u (s.flushKey t a c) ∧ ∃ pc, s.flushKey t a c = { u with pc := pc } ∧ pc.save = u.pc.save := by
  cases found : (u.presetSet t (keySet a c)).find a c with
  | none =>
    rw [State.flushKey_missed hu found]
    exact ⟨⟨rfl, fun way _ => by simp [found], fun _ _ _ => rfl⟩, u.pc, rfl, rfl⟩
  | some w =>
    have hn : keySet a c ≤ 63 := Nat.le_of_lt_succ (Nat.mod_lt _ (by omega))
    rw [State.flushKey_found hu found]
    refine ⟨⟨?_, fun way hway => ?_, fun k m h => State.putRecord_ne u w _ h⟩, _, rfl, rfl⟩
    · rw [State.putRecord_self usized h1 h12 hn, PresetSet.setWay_lru]
    · rw [State.putRecord_self usized h1 h12 hn, found]
      by_cases e : w = way
      · rw [e, PresetSet.way_setWay_self, if_pos rfl]
        rfl
      · rw [PresetSet.way_setWay_ne _ _ (PresetSet.find_le found) hway (Ne.symm e), if_neg (by simpa using e)]

/-! ## One transmitter, or all -/

theorem PresetSet.flushed_empty : PresetSet.empty.flushed = PresetSet.empty := rfl

theorem State.flushTx_presetSet (sized : s.sized) (h1 : 1 ≤ t) (h12 : t ≤ 12) (m : Nat) :
    (s.flush 1 t a c).presetSet t m = (s.presetSet t m).flushed := by
  show (nth (setNth s.pc.directories t ((nth s.pc.directories [] t).map PresetSet.flushed)) [] t).getD m PresetSet.empty = _
  rw [nth_setNth_self _ _ _ _ h1 (by rw [sized.directories_length]; exact h12), getD_map_of_default PresetSet.flushed_empty]
  rfl

theorem State.flushTx_presetSet_ne (s : State) {k : Nat} (h : k ≠ t) (m : Nat) : (s.flush 1 t a c).presetSet k m = s.presetSet k m := by
  show (nth (setNth s.pc.directories t ((nth s.pc.directories [] t).map PresetSet.flushed)) [] k).getD m PresetSet.empty = _
  rw [nth_setNth_ne _ _ _ _ _ h]
  rfl

theorem State.flushAll_presetSet (s : State) (k m : Nat) : (s.flush 2 t a c).presetSet k m = (s.presetSet k m).flushed :=
  State.mapSets_presetSet PresetSet.flushed_empty s k m

end

/-- Settles O52. -/
theorem preset_flush_invalidates_by_scope : Obligations.preset_flush_invalidates_by_scope := by
  intro scope t a c s ready sized
  refine ⟨fun bad => exec_presetFlush_refused ready (flushRange_eq_true bad), fun u key h1 h12 ha1 ha24 hc hu => ?_, fun many => ?_⟩
  · subst key
    have set : (c + 5 * a) % 64 = keySet a c := rfl
    rw [set] at hu ⊢
    have handed := State.readSet_handed (Handed.refl s.received) t (keySet a c) .host
    have usized : u.sized := by rw [hu]; exact (congrArg Kept.sizes handed.kept).trans sized
    obtain ⟨pc, lc, read⟩ := State.readSet_reads s.received t (keySet a c) .host
    have save : u.pc.save = s.pc.save := by rw [hu, State.readSet_save]; rfl
    obtain ⟨⟨lru, ways, others⟩, pc', flushed, save'⟩ := State.flushKey_flushed (a := a) (c := c) usized h1 h12 hu
    refine ⟨_, exec_presetFlush ready (flushRange_eq_false (by omega) (fun _ => ⟨h1, h12⟩) fun _ => ⟨ha1, ha24, hc⟩), rfl, lru, ways, others, ?_⟩
    have same : s.received.flush 0 t a c = { u with pc := pc' } := flushed
    rw [same, hu, read]
    exact ⟨rfl, rfl, rfl, save'.trans save⟩
  · rcases many with ⟨rfl, h1, h12⟩ | rfl
    · refine ⟨_, exec_presetFlush ready (flushRange_eq_false (by omega) (fun _ => ⟨h1, h12⟩) fun h => absurd h (by omega)), rfl,
        fun k m all => ?_, fun k m _ other => State.flushTx_presetSet_ne (a := a) (c := c) s.received other m, rfl, rfl, rfl, rfl⟩
      obtain rfl : k = t := all.resolve_left (by omega)
      exact State.flushTx_presetSet (s := s.received) (a := a) (c := c) sized h1 h12 m
    · exact ⟨_, exec_presetFlush ready (flushRange_eq_false (by omega) (fun h => absurd h (by omega)) fun h => absurd h (by omega)), rfl,
        fun k m _ => State.flushAll_presetSet (t := t) (a := a) (c := c) s.received k m, fun _ _ one => absurd one (by omega), rfl, rfl, rfl, rfl⟩

end Sys2Proof.Machine

/-! # The pages of PRESET_SAVE (R190, R191) -/
namespace Sys2Proof.Machine

open Sys2Proof

section

variable {s : State}

/-! ## The blank test, sector by sector -/

/-- With nothing in flight a read is served at once (R32). -/
theorem State.requestRead_idle (operation : s.ss.operation = none) (reader : Reader) (address length : Nat) :
    s.requestRead reader address length = s.serve reader := by
  simp only [State.requestRead, operation]

/-- The blank test of a save waits for sector `k` to be handed over. -/
def State.testing (s : State) (k : Nat) : State := { s.hold 0x75 with notices := [.served (.presetSave k)] }

theorem exec_presetSave (ready : s.ready) (quiet : s.notices = []) (operation : s.ss.operation = none) (save : s.pc.save = none)
    (restore : s.pc.restore = none) : exec .presetSave s = .next (s.received.testing 64).settled := by
  have free : s.received.copyBusy = false := by
    simp only [State.copyBusy, State.saveAreaBusy, State.received, save, restore, operation]
    rfl
  have asked : (s.received.hold 0x75).readSaveSector 64 = s.received.testing 64 := by
    rw [State.readSaveSector, State.requestRead_idle (s := s.received.hold 0x75) operation, State.serve, State.post, State.testing]
    rw [show (s.received.hold 0x75).notices = [] from quiet]
    rfl
  show execPresetSave s = _
  rw [← asked]
  exact hostRequest_accepted (checks := fun u => [(u.copyBusy, .busy)]) ready (find?_check_passed free)

theorem State.settle_testing (n k : Nat) :
    State.settle (n + 1) (s.testing k) = State.settle n (State.presetSaveServed { s.hold 0x75 with notices := [] } k) :=
  State.settle_cons (s := s.testing k) (x := .served (.presetSave k)) (rest := []) rfl

theorem State.presetSaveServed_next {k : Nat} (operation : s.ss.operation = none) (blank : memBlank s.ss.array (k * 4096) 4096 = true)
    (more : k < 79) : State.presetSaveServed { s.hold 0x75 with notices := [] } k = s.testing (k + 1) := by
  have blank' : memBlank ({ s.hold 0x75 with notices := [] } : State).ss.array (k * 4096) 4096 = true := blank
  unfold State.presetSaveServed
  rw [blank', if_neg (by decide), if_pos more]
  exact State.requestRead_idle (s := { s.hold 0x75 with notices := [] }) operation _ _ _

/-- Blank sectors are passed, one hand-over each. -/
theorem State.settle_blank (operation : s.ss.operation = none) (n : Nat) {d k : Nat} (range : k + d ≤ 79)
    (blank : ∀ i, k ≤ i → i < k + d → memBlank s.ss.array (i * 4096) 4096 = true) :
    State.settle (n + d) (s.testing k) = State.settle n (s.testing (k + d)) := by
  induction d generalizing k with
  | zero => rfl
  | succ d ih =>
    rw [← Nat.add_assoc, State.settle_testing, State.presetSaveServed_next operation (blank k (Nat.le_refl k) (by omega)) (by omega),
      ih (k := k + 1) (by omega) (fun i hi hj => blank i (by omega) (by omega)), show k + 1 + d = k + (d + 1) by omega]

theorem State.without_notices (quiet : s.notices = []) : { s with notices := [] } = s := by rw [← quiet]

/-- The first sector that is not blank refuses the save. -/
theorem State.testing_notBlank (quiet : s.notices = []) (operation : s.ss.operation = none)
    (written : ∃ k, 64 ≤ k ∧ k ≤ 79 ∧ memBlank s.ss.array (k * 4096) 4096 = false) :
    (s.testing 64).settled = s.answer 0x75 .notBlank [] := by
  obtain ⟨k, ⟨h64, h79, notBlank⟩, first⟩ : ∃ k, (64 ≤ k ∧ k ≤ 79 ∧ memBlank s.ss.array (k * 4096) 4096 = false) ∧
      ∀ i, i < k → ¬(64 ≤ i ∧ i ≤ 79 ∧ memBlank s.ss.array (i * 4096) 4096 = false) :=
    ⟨Nat.find written, Nat.find_spec written, fun _ => Nat.find_min written⟩
  have blank (i : Nat) (hi : 64 ≤ i) (less : i < k) : memBlank s.ss.array (i * 4096) 4096 = true := by
    cases e : memBlank s.ss.array (i * 4096) 4096 with
    | true => rfl
    | false => exact absurd ⟨hi, by omega, e⟩ (first i less)
  have refused : State.presetSaveServed { s.hold 0x75 with notices := [] } k = s.answer 0x75 .notBlank [] := by
    have notBlank' : memBlank ({ s.hold 0x75 with notices := [] } : State).ss.array (k * 4096) 4096 = false := notBlank
    unfold State.presetSaveServed
    rw [notBlank', if_pos Bool.not_false]
    show ({ s.answer 0x75 .notBlank [] with notices := [] } : State) = _
    exact State.without_notices quiet
  have passed := State.settle_blank operation (9999 - (k - 64) + 1) (d := k - 64) (k := 64) (by omega) fun i hi hj => blank i hi (by omega)
  have fuel : 9999 - (k - 64) + 1 + (k - 64) = settleFuel := by unfold settleFuel; omega
  rw [fuel, show 64 + (k - 64) = k by omega, State.settle_testing, refused, State.settle_nil (s := s.answer 0x75 .notBlank []) _ quiet] at passed
  exact passed

/-! ## The offers of pages -/

theorem imageOctets_length (r : PresetRecord) : r.imageOctets.length = 16 := by
  simp [PresetRecord.imageOctets, flag, u8, u16]

theorem State.imagePage_length (s : State) (n : Nat) : (s.imagePage n).length = 256 := by
  simp [State.imagePage, List.length_flatMap, imageOctets_length]

/-- The item that programs page `n` of the save. -/
def State.pageItem (s : State) (n : Nat) : WorkItem :=
  { kind := .presetPage n (n == 95), ops := [.program (saveAddress + n * 256) (s.imagePage n)] }

theorem State.offerPages_admitted {n : Nat} {run : SaveRun} {o : State} (save : s.pc.save = some run) (more : run.next < 96)
    (admitted : s.offer (.presetPage run.next (run.next == 95)) [.program (saveAddress + run.next * 256) (s.imagePage run.next)] = (o, false))
    (sound : s.ss.state ≠ .fault) :
    State.offerPages (n + 1) s = State.offerPages n { o with pc := { o.pc with save := some { run with next := run.next + 1 } } } := by
  simp only [State.offerPages, save, if_pos more, admitted, if_neg sound, Bool.false_eq_true, if_false]

theorem State.offerPages_full {n : Nat} {run : SaveRun} (save : s.pc.save = some run) (more : run.next < 96) (sound : s.ss.state ≠ .fault)
    (full : s.ss.work.length = 8) : State.offerPages (n + 1) s = s.waitToOffer .presetSave := by
  have refused : s.offer (.presetPage run.next (run.next == 95)) [.program (saveAddress + run.next * 256) (s.imagePage run.next)] =
      (s, true) := by
    have noRoom : s.listHasRoom = false := by simp [State.listHasRoom, full]
    simp [State.offer, State.itemAllowed, sound, noRoom]
  simp only [State.offerPages, save, if_pos more, refused, if_true]

/-- The list filled behind an operation, and the save waiting to offer again. -/
theorem State.offerPages_fills (k fuel : Nat) {s : State} {run : SaveRun} (save : s.pc.save = some run) (more : run.next + k < 96)
    (room : s.ss.work.length + k = 8) (busy : s.ss.state ≠ .ready) (sound : s.ss.state ≠ .fault) :
    ∃ ss pc, State.offerPages (k + 1 + fuel) s = { s with ss := ss, pc := pc } ∧ pc.save = some { run with next := run.next + k } ∧
      ss.work.length = 8 ∧ ss.state = s.ss.state ∧ ss.array = s.ss.array ∧ ss.offerWait = addOnce s.ss.offerWait .presetSave := by
  induction k generalizing s run with
  | zero =>
    rw [show 0 + 1 + fuel = fuel + 1 by omega, State.offerPages_full save more sound room]
    exact ⟨_, s.pc, rfl, save, room, rfl, rfl, rfl⟩
  | succ k ih =>
    have admitted := State.offer_admitted (s := s) (kind := .presetPage run.next (run.next == 95))
      (ops := [.program (saveAddress + run.next * 256) (s.imagePage run.next)]) rfl sound (by omega)
    rw [if_neg busy] at admitted
    rw [show k + 1 + 1 + fuel = (k + 1 + fuel) + 1 by omega, State.offerPages_admitted save (by omega) admitted sound]
    obtain ⟨ss, pc, filled, next, work, state, array, waits⟩ := ih
      (s := { s.setStore { s.ss with work := s.ss.work ++ [s.pageItem run.next] } with
        pc := { s.pc with save := some { run with next := run.next + 1 } } })
      (run := { run with next := run.next + 1 }) rfl (by simp only; omega) (by simp [State.setStore]; omega) busy sound
    refine ⟨ss, pc, filled, ?_, work, state, array, waits⟩
    rw [next, show run.next + 1 + k = run.next + (k + 1) by omega]

/-- The program of the item in flight starts over a blank range. -/
theorem State.nextWork_program {n a : Nat} {data : List Byte} {item : WorkItem} {rest : List StoreOp} (inFlight : s.ss.item = some item)
    (next : item.ops = .program a data :: rest) (blank : memBlank s.ss.array a data.length = true) :
    State.nextWork (n + 1) s =
      (s.setStore { s.ss with item := some { item with ops := rest } }).startOp (.program a data) (.item item.kind) := by
  simp only [State.nextWork, inFlight, next, blank, if_true]

/-- A page offered at an idle store over a blank range starts at once (R41). -/
theorem State.offer_starts_page (idle : s.ss.idle) (blank : memBlank s.ss.array saveAddress 256 = true) :
    ∃ ss, s.offer (.presetPage 0 false) [.program (saveAddress + 0 * 256) (s.imagePage 0)] =
        ({ s with ss := ss, notices := addOnce s.notices .offersAgain }, false) ∧
      ss.work = [] ∧ ss.state = .programming 1024 ∧ ss.array = s.ss.array ∧ ss.offerWait = s.ss.offerWait := by
  obtain ⟨ready, -, item, work, -, -⟩ := idle
  have taken := State.nextWork_take (n := 39) (item := s.pageItem 0) (rest := [])
    (s := s.setStore { s.ss with work := s.ss.work ++ [s.pageItem 0] }) item (by rw [work]; rfl)
  rw [State.offer_admitted rfl (by rw [ready]; decide) (by rw [work]; decide), if_pos ready]
  refine ⟨_, congrArg (·, false) (taken.trans (State.nextWork_program (n := 38) (a := saveAddress + 0 * 256) (data := s.imagePage 0) (rest := [])
    rfl rfl ?_)), rfl, rfl, rfl, rfl⟩
  rw [State.imagePage_length]
  exact blank

/-! ## Offering again at a full list -/

theorem State.offerAgain_full {run : SaveRun} (save : s.pc.save = some run) (more : run.next < 96) (sound : s.ss.state ≠ .fault)
    (full : s.ss.work.length = 8) (waits : s.ss.offerWait = [.presetSave]) : s.offerAgain = s := by
  have waiting : s.waitToOffer .presetSave = s := by
    unfold State.waitToOffer
    rw [waits]
    show ({ s with ss := { s.ss with offerWait := [.presetSave] } } : State) = s
    rw [← waits]
  have again : s.reoffer .presetSave = (s, .full) := by
    unfold State.reoffer
    simp only [State.offerPages_full (n := 96) save more sound full, waiting, save, more, sound, ne_eq, not_false_eq_true, and_self, if_true]
  have noRoom : s.listHasRoom = false := by simp [State.listHasRoom, full]
  unfold State.offerAgain
  rw [waits]
  simp [again, noRoom]

theorem State.presetSaveServed_last (blank : memBlank s.ss.array (79 * 4096) 4096 = true) :
    State.presetSaveServed { s.hold 0x75 with notices := [] } 79 = (State.offerPages 97
      { s.hold 0x75 with notices := [], pc := { s.pc with save := some { next := 0, done := 0 } } }).answer 0x75 .ok [] := by
  have blank' : memBlank ({ s.hold 0x75 with notices := [] } : State).ss.array (79 * 4096) 4096 = true := blank
  unfold State.presetSaveServed
  rw [blank', if_neg (by decide), if_neg (by decide)]
  rfl

/-- A blank area starts the save: the first page is programmed, eight wait, and the rest is offered as the list empties. -/
theorem State.testing_blank (idle : s.ss.idle)
    (blank : ∀ k, 64 ≤ k → k ≤ 79 → memBlank s.ss.array (k * 4096) 4096 = true) (page : memBlank s.ss.array saveAddress 256 = true) :
    (s.testing 64).settled.pc.save = some { next := 9, done := 0 } ∧
    (s.testing 64).settled.lc.reply = some { kind := 0x75, status := .ok, body := [] } ∧
    (s.testing 64).settled.ss.work.length = 8 ∧ (s.testing 64).settled.ss.state = .programming 1024 ∧
    (s.testing 64).settled.ss.array = s.ss.array := by
  have operation : s.ss.operation = none := idle.2.1
  obtain ⟨u, hu⟩ : ∃ u : State, u = { s.hold 0x75 with notices := [], pc := { s.pc with save := some { next := 0, done := 0 } } } := ⟨_, rfl⟩
  have uss : u.ss = s.ss := by rw [hu]; rfl
  have unotices : u.notices = [] := by rw [hu]
  obtain ⟨ss, first, work, state, array, waits⟩ := State.offer_starts_page (s := u) (by rw [uss]; exact idle) (by rw [uss]; exact page)
  have offered := State.offerPages_admitted (n := 96) (run := { next := 0, done := 0 }) (s := u) (by rw [hu]) (by decide) first
    (by rw [uss, idle.1]; decide)
  obtain ⟨ss', pc', filled, next, work', state', array', waits'⟩ := State.offerPages_fills 8 87
    (s := { u with ss := ss, notices := addOnce u.notices .offersAgain, pc := { u.pc with save := some { next := 1, done := 0 } } })
    (run := { next := 1, done := 0 }) rfl (by decide) (by simp only [work]; rfl) (by simp only [state]; decide) (by simp only [state]; decide)
  have waitsOne : ss'.offerWait = [.presetSave] := by
    rw [waits']
    show addOnce ss.offerWait .presetSave = _
    rw [waits, uss, idle.2.2.2.2.2]
    rfl
  have served : State.presetSaveServed { s.hold 0x75 with notices := [] } 79 =
      State.answer { u with ss := ss', notices := [.offersAgain], pc := pc' } 0x75 .ok [] := by
    rw [State.presetSaveServed_last (blank 79 (by omega) (by omega)), ← hu, offered]
    refine congrArg (State.answer · 0x75 .ok []) (filled.trans ?_)
    rw [unotices]
    rfl
  have passed := State.settle_blank operation 9985 (d := 15) (k := 64) (by omega) fun i hi hj => blank i hi (by omega)
  have sound : ss'.state ≠ .fault := by rw [state'.trans state]; decide
  have again := State.offerAgain_full (s := { State.answer { u with ss := ss', notices := [.offersAgain], pc := pc' } 0x75 .ok [] with
    notices := [] }) next (by decide) sound work' waitsOne
  have settled : (s.testing 64).settled = { State.answer { u with ss := ss', notices := [.offersAgain], pc := pc' } 0x75 .ok [] with
      notices := [] } := by
    rw [State.settled, show settleFuel = 9985 + 15 from rfl, passed, State.settle_testing, served]
    show State.settle (9983 + 1) _ = _
    rw [State.settle_cons (x := .offersAgain) (rest := []) rfl]
    show State.settle 9983 (State.offerAgain _) = _
    rw [again, State.settle_nil _ rfl]
  rw [settled]
  exact ⟨next, rfl, work', state'.trans state, (array'.trans array).trans (by rw [uss])⟩

end

end Sys2Proof.Machine

/-! # PRESET_SAVE and PRESET_RESTORE (R190 to R192) -/
namespace Sys2Proof.Machine

open Sys2Proof

section

variable {s u v : State} {t n : Nat} {bs : List Byte} {c : RestoreCounts}

/-! ## One image -/

theorem State.restoreImage_reads (s : State) (t n : Nat) (bs : List Byte) (c : RestoreCounts) :
    ReadsPresets s (s.restoreImage t n bs c).1 := by
  have read := s.readSet_reads t n .fill
  unfold State.restoreImage
  dsimp only
  split
  · exact ReadsPresets.refl s
  · split
    · exact ReadsPresets.refl s
    · split
      · exact ReadsPresets.refl s
      · split
        · exact ReadsPresets.refl s
        · split
          · exact read
          · split
            · exact read
            · exact read.trans (State.setPresetSet_reads _ _ _ _)

theorem State.restoreImage_blank (h : ∀ b ∈ bs, b = 0xFF) : s.restoreImage t n bs c = (s, { c with blank := c.blank + 1 }) :=
  if_pos (by simpa using h)

theorem bad_iff_not_fits (r w : PresetRecord) (n : Nat) :
    (31 < r.antenna ∨ 8191 < r.channel ∨ (!within 1 24 w.antenna) = true ∨ 4760 < w.channel ∨ keySet w.antenna w.channel ≠ n) ↔
      ¬SavedKeyFits r w n := by
  simp only [SavedKeyFits, within, keySet, Bool.not_eq_true', decide_eq_false_iff_not]
  omega

section Written

variable (written : ∃ b ∈ bs, b ≠ 0xFF)
include written

theorem not_all_erased : (bs.all (· == 0xFF)) = false := by
  obtain ⟨b, mem, ne⟩ := written
  exact List.all_eq_false.mpr ⟨b, mem, by simpa using ne⟩

theorem State.restoreImage_invalid (h : octetAt bs 0 ≠ 1) : s.restoreImage t n bs c = (s, { c with invalid := c.invalid + 1 }) := by
  have invalid : (imageRecord bs).valid = false := by simp [imageRecord, h]
  unfold State.restoreImage
  simp only [not_all_erased written, invalid, Bool.false_eq_true, if_false, Bool.not_false, if_true]

theorem State.restoreImage_bad (h : octetAt bs 0 = 1)
    (bad : (imageRecord bs).checked.1 = .double ∨ ¬SavedKeyFits (imageRecord bs) (imageRecord bs).checked.2 n) :
    s.restoreImage t n bs c = (s, { c with bad := c.bad + 1 }) := by
  have valid : (imageRecord bs).valid = true := by simp [imageRecord, h]
  rw [← bad_iff_not_fits] at bad
  unfold State.restoreImage
  simp only [not_all_erased written, valid, Bool.not_true, Bool.false_eq_true, if_false]
  exact if_pos bad

/-- The last rows of R192, for an image whose key fits its place. -/
theorem State.restoreImage_fits (h : octetAt bs 0 = 1) (sound : (imageRecord bs).checked.1 ≠ .double)
    (fits : SavedKeyFits (imageRecord bs) (imageRecord bs).checked.2 n) : s.restoreImage t n bs c =
    if s.windowed (imageRecord bs).checked.2.channel then (s, { c with windowed := c.windowed + 1 })
    else if (((s.readSet t n .fill).presetSet t n).find (imageRecord bs).checked.2.antenna (imageRecord bs).checked.2.channel).isSome then
      (s.readSet t n .fill, { c with present := c.present + 1 })
    else if ((s.readSet t n .fill).presetSet t n).way0.valid && ((s.readSet t n .fill).presetSet t n).way1.valid then
      (s.readSet t n .fill, { c with full := c.full + 1 })
    else
      ((s.readSet t n .fill).install t n ((s.readSet t n .fill).presetSet t n).installWay
        (newRecord (imageRecord bs).checked.2.antenna (imageRecord bs).checked.2.channel (imageRecord bs).checked.2.s1
          (imageRecord bs).checked.2.s2 (imageRecord bs).checked.2.s3 (imageRecord bs).checked.2.s4 (imageRecord bs).checked.2.quality),
        { c with installed := c.installed + 1 }) := by
  have valid : (imageRecord bs).valid = true := by simp [imageRecord, h]
  have good := mt (bad_iff_not_fits (imageRecord bs) (imageRecord bs).checked.2 n).mp (not_not_intro fits)
  unfold State.restoreImage
  simp only [not_all_erased written, valid, Bool.not_true, Bool.false_eq_true, if_false]
  exact if_neg (not_or.mpr ⟨sound, good⟩)

end Written

theorem PresetSet.find_isSome (x : PresetSet) (a k : Nat) : (x.find a k).isSome = (x.way0.holds a k || x.way1.holds a k) := by
  unfold PresetSet.find
  cases x.way0.holds a k <;> cases x.way1.holds a k <;> rfl

theorem State.windowed_eq_true (h : ∃ z ∈ s.pc.windows, z.covers t = true) : s.windowed t = true := by
  simpa [State.windowed] using h

theorem State.windowed_eq_false (h : ∀ z ∈ s.pc.windows, z.covers t = false) : s.windowed t = false := by
  simpa [State.windowed] using h

/-- A record installed in the free way turns the mark to the other. -/
theorem State.install_free (sized : s.sized) (h1 : 1 ≤ t) (h12 : t ≤ 12) (hn : n < 64) (r : PresetRecord)
    (free : (s.presetSet t n).way0.valid = false ∨ (s.presetSet t n).way1.valid = false) :
    ((s.presetSet t n).way0.valid = false →
      (s.install t n (s.presetSet t n).installWay r).presetSet t n = { s.presetSet t n with way0 := r, lru := 1 }) ∧
    ((s.presetSet t n).way0.valid = true →
      (s.install t n (s.presetSet t n).installWay r).presetSet t n = { s.presetSet t n with way1 := r, lru := 0 }) := by
  refine ⟨fun invalid => ?_, fun valid => ?_⟩
  · have way : (s.presetSet t n).installWay = 0 := by simp [PresetSet.installWay, invalid]
    rw [way, State.install, State.presetSet_setPresetSet _ sized h1 h12 (by omega)]
    rfl
  · have way : (s.presetSet t n).installWay = 1 := by simp [PresetSet.installWay, valid, free.resolve_left (by simp [valid])]
    rw [way, State.install, State.presetSet_setPresetSet _ sized h1 h12 (by omega)]
    rfl

/-! ## One page -/

theorem State.restorePage_reads (s : State) (page : Nat) (c : RestoreCounts) : ReadsPresets s (s.restorePage page c).1 := by
  have walk : ∀ (ks : List Nat) (p : State × RestoreCounts), ReadsPresets s p.1 → ReadsPresets s (ks.foldl (fun p k =>
      p.1.restoreImage (page / 8 + 1) (page % 8 * 8 + k / 2) (memReadAll s.ss.array (saveAddress + page * 256 + k * 16) 16) p.2) p).1 := by
    intro ks
    induction ks with
    | nil => exact fun p h => h
    | cons k ks ih => exact fun p h => ih _ (h.trans (State.restoreImage_reads _ _ _ _ _))
  exact walk _ _ (ReadsPresets.refl s)

/-- A blank page counts sixteen blank images. -/
theorem State.restorePage_blank {page : Nat} (blank : ∀ k, k < 256 → memRead s.ss.array (saveAddress + page * 256 + k) = 0xFF)
    (c : RestoreCounts) : s.restorePage page c = (s, { c with blank := c.blank + 16 }) := by
  have walk : ∀ (ks : List Nat) (c : RestoreCounts), (∀ k ∈ ks, k < 16) → ks.foldl (fun p k =>
      p.1.restoreImage (page / 8 + 1) (page % 8 * 8 + k / 2) (memReadAll s.ss.array (saveAddress + page * 256 + k * 16) 16) p.2) (s, c) =
      (s, { c with blank := c.blank + ks.length }) := by
    intro ks
    induction ks with
    | nil => exact fun c _ => rfl
    | cons k ks ih =>
      intro c range
      have image : ∀ b ∈ memReadAll s.ss.array (saveAddress + page * 256 + k * 16) 16, b = 0xFF := fun b mem => by
        obtain ⟨i, hi, rfl⟩ := List.mem_map.mp mem
        have := range k (by simp)
        have := List.mem_range.mp hi
        rw [show saveAddress + page * 256 + k * 16 + i = saveAddress + page * 256 + (k * 16 + i) by omega]
        exact blank _ (by omega)
      rw [List.foldl_cons, State.restoreImage_blank image, ih _ fun k hk => range k (by simp [hk]), List.length_cons]
      simp only [Nat.add_assoc, Nat.add_comm 1]
  exact walk (List.range 16) c fun k hk => List.mem_range.mp hk

/-- A page served to a restore that waits for it. -/
theorem State.restoreServed_next {run : RestoreRun} (restore : s.pc.restore = some run) (waiting : run.waiting = true)
    (page : s.restorePage run.next run.counts = (v, c)) (more : run.next < 95) :
    s.restoreServed = { v with pc := { v.pc with
      restore := some { next := run.next + 1, dueAt := s.clock + 5, waiting := false, counts := c } } } := by
  have next : run.next + 1 < 96 := by omega
  unfold State.restoreServed
  simp only [restore, waiting, page, Bool.not_true, Bool.false_eq_true, if_false, if_pos next]

theorem State.restoreServed_last {run : RestoreRun} (restore : s.pc.restore = some run) (waiting : run.waiting = true)
    (page : s.restorePage run.next run.counts = (v, c)) (last : run.next = 95) (noReads : v.ss.readWait = []) :
    s.restoreServed = { v with pc := { v.pc with
      restore := none, lastRestore := some { outcome := .done, pages := 96, counts := c } } } := by
  have next : ¬run.next + 1 < 96 := by omega
  unfold State.restoreServed
  simp only [restore, waiting, page, Bool.not_true, Bool.false_eq_true, if_false, if_neg next]
  rw [State.endRestore_some (run := { next := run.next + 1, dueAt := s.clock + 5, waiting := false, counts := c }) rfl, last]
  have none : ({ v.ss with readWait := v.ss.readWait.filter fun w => w.reader != .restorePage } : Store) = v.ss := by
    rw [noReads, List.filter_nil, ← noReads]
  show ({ v with pc := _, ss := { v.ss with readWait := v.ss.readWait.filter fun w => w.reader != .restorePage } } : State) = _
  rw [none]

/-! ## The requests and the next page -/

theorem exec_presetRestore_frozen (ready : s.ready) (frozen : s.pc.frozen = true) :
    exec .presetRestore s = .next (s.received.answer 0x76 .state []) := by
  have frozen' : s.received.pc.frozen = true := frozen
  show execPresetRestore s = _
  exact hostRequest_refused (checks := fun u => [(u.pc.frozen, .state), (u.copyBusy, .busy)]) ready (by simp only [List.find?_cons, frozen'])

theorem exec_presetRestore (ready : s.ready) (open_ : s.pc.frozen = false) (operation : s.ss.operation = none) (save : s.pc.save = none)
    (restore : s.pc.restore = none) : exec .presetRestore s = .next (s.received.startRestore.answer 0x76 .ok []).settled := by
  have frozen : s.received.pc.frozen = false := open_
  have free : s.received.copyBusy = false := by
    simp only [State.copyBusy, State.saveAreaBusy, State.received, save, restore, operation]
    rfl
  show execPresetRestore s = _
  exact hostRequest_accepted (checks := fun u => [(u.pc.frozen, .state), (u.copyBusy, .busy)]) ready (by
    simp only [List.find?_cons, List.find?_nil, frozen, free])

/-- The restore begins with the read of page 0, served at once at a store without an operation. -/
theorem State.startRestore_idle (operation : s.ss.operation = none) : s.startRestore =
    State.post { s with pc := { s.pc with restore := some { next := 0, dueAt := s.clock, waiting := true, counts :=
      { blank := 0, invalid := 0, bad := 0, windowed := 0, present := 0, full := 0, installed := 0 } } } } (.served .restorePage) :=
  State.requestRead_idle (s := { s with pc := { s.pc with restore := some { next := 0, dueAt := s.clock, waiting := true, counts :=
    { blank := 0, invalid := 0, bad := 0, windowed := 0, present := 0, full := 0, installed := 0 } } } }) operation _ _ _

/-- A restore that has asked for its page. -/
def State.awaitingPage (s : State) (run : RestoreRun) : State :=
  { s with clock := run.dueAt, pc := { s.pc with restore := some { run with waiting := true } } }

theorem exec_restorePageRead {run : RestoreRun} (quiet : s.notices = []) (operation : s.ss.operation = none)
    (restore : s.pc.restore = some run) (idle : run.waiting = false) (later : s.clock ≤ run.dueAt)
    (after : (s.awaitingPage run).restoreServed.notices = []) :
    exec .restorePageRead s = .next (s.awaitingPage run).restoreServed := by
  have asked : State.readRestorePage { s with clock := run.dueAt } = { s.awaitingPage run with notices := [.served .restorePage] } := by
    unfold State.readRestorePage
    simp only [restore]
    refine (State.requestRead_idle (s := s.awaitingPage run) operation _ _ _).trans ?_
    show ({ s.awaitingPage run with notices := s.notices ++ _ } : State) = _
    rw [quiet]
    rfl
  have popped : ({ s.awaitingPage run with notices := [] } : State) = s.awaitingPage run :=
    State.without_notices (s := s.awaitingPage run) quiet
  have handed : State.handleNotice { s.awaitingPage run with notices := [] } (.served .restorePage) = (s.awaitingPage run).restoreServed := by
    rw [popped]
    rfl
  show execRestorePageRead s = _
  simp only [execRestorePageRead, restore, idle, State.reach_at later, asked, Bool.false_eq_true, if_false]
  rw [State.settled_one (s := { s.awaitingPage run with notices := [.served .restorePage] }) (x := .served .restorePage) rfl
    (by show (State.handleNotice { s.awaitingPage run with notices := [] } _).notices = []; rw [handed]; exact after)]
  exact congrArg _ handed

theorem memBlank_of_area (wf : s.arrayWf) (blank : ∀ x, saveAddress ≤ x → x < saveAddress + 65536 → memRead s.ss.array x = 0xFF) {k : Nat}
    (h64 : 64 ≤ k) (h79 : k ≤ 79) : memBlank s.ss.array (k * 4096) 4096 = true :=
  memBlank_of_memRead wf fun i hi => blank _ (by unfold saveAddress; omega) (by unfold saveAddress; omega)

/-- An octet of the area that is written stands in a sector that is not blank. -/
theorem not_memBlank_of_area (written : ∃ x, saveAddress ≤ x ∧ x < saveAddress + 65536 ∧ memRead s.ss.array x ≠ 0xFF) :
    ∃ k, 64 ≤ k ∧ k ≤ 79 ∧ memBlank s.ss.array (k * 4096) 4096 = false := by
  obtain ⟨x, low, high, ne⟩ := written
  unfold saveAddress at low high
  refine ⟨x / 4096, by omega, by omega, ?_⟩
  cases e : memBlank s.ss.array (x / 4096 * 4096) 4096 with
  | false => rfl
  | true =>
    have reads := memRead_of_blank _ _ _ e (x % 4096) (Nat.mod_lt _ (by omega))
    rw [Nat.div_add_mod'] at reads
    exact absurd reads ne

end

/-- Settles O54. -/
theorem save_offers_pages_and_restore_takes_them : Obligations.save_offers_pages_and_restore_takes_them := by
  refine ⟨fun s quiet operation => ⟨fun ready wf idle save restore blank => ?_, fun ready save restore wf written => ?_,
    exec_presetRestore_frozen, fun ready open_ save restore => ⟨_, rfl, ?_⟩, fun run restore idle more later blank => ?_,
    fun run v c restore idle later noReads page => ?_⟩, ?_⟩
  · have area {k : Nat} := memBlank_of_area (k := k) wf blank
    have first : memBlank s.ss.array saveAddress 256 = true :=
      memBlank_of_memRead wf fun i hi => blank _ (by omega) (by unfold saveAddress; omega)
    obtain ⟨saving, reply, work, state, array⟩ := State.testing_blank (s := s.received) idle (fun k => area) first
    exact ⟨_, exec_presetSave ready quiet operation save restore, reply, saving, work, state, array⟩
  · rw [exec_presetSave ready quiet operation save restore,
      State.testing_notBlank (s := s.received) quiet operation (not_memBlank_of_area written)]
  · rw [exec_presetRestore ready open_ operation save restore, State.startRestore_idle (s := s.received) operation]
    rfl
  · have page := State.restorePage_blank (s := s.awaitingPage run) (page := run.next) blank run.counts
    have served := State.restoreServed_next (s := s.awaitingPage run) (run := { run with waiting := true }) rfl rfl page more
    rw [exec_restorePageRead quiet operation restore idle later (by rw [served]; exact quiet), served]
    rfl
  · have page' : (s.awaitingPage run).restorePage run.next run.counts = (v, c) := page
    obtain ⟨pc, lc, read⟩ := (s.awaitingPage run).restorePage_reads run.next run.counts
    rw [page'] at read
    have vnotices : v.notices = [] := (congrArg State.notices read).trans quiet
    have vwaits : v.ss.readWait = [] := (congrArg (fun u => u.ss.readWait) read).trans noReads
    refine ⟨fun more => ?_, fun last => ?_⟩
    · have served := State.restoreServed_next (s := s.awaitingPage run) (run := { run with waiting := true }) rfl rfl page' more
      rw [exec_restorePageRead quiet operation restore idle later (by rw [served]; exact vnotices), served]
      rfl
    · have served := State.restoreServed_last (s := s.awaitingPage run) (run := { run with waiting := true }) rfl rfl page' last vwaits
      rw [exec_restorePageRead quiet operation restore idle later (by rw [served]; exact vnotices), served]
  · rintro s v t n bs c r w x sized h1 h12 hn rfl rfl rfl rfl
    have vsized := (State.readSet_readsOne sized t n .fill).sized
    refine ⟨State.restoreImage_blank, fun written => ⟨State.restoreImage_invalid written, fun valid => ⟨State.restoreImage_bad written valid,
      fun sound fits => ⟨fun window => ?_, fun clear => ⟨fun found => ?_, fun miss0 miss1 => ⟨fun valid0 valid1 => ?_, fun free => ?_⟩⟩⟩⟩⟩⟩
    · rw [State.restoreImage_fits written valid sound fits, State.windowed_eq_true window, if_pos rfl]
    · rw [State.restoreImage_fits written valid sound fits, State.windowed_eq_false clear, if_neg Bool.false_ne_true, PresetSet.find_isSome,
        if_pos (by simpa using found)]
    · rw [State.restoreImage_fits written valid sound fits, State.windowed_eq_false clear, if_neg Bool.false_ne_true, PresetSet.find_isSome,
        miss0, miss1, if_neg (by decide), valid0, valid1, if_pos (by decide)]
    · have neither : ¬(((s.readSet t n .fill).presetSet t n).way0.valid && ((s.readSet t n .fill).presetSet t n).way1.valid) = true := by
        simpa [or_comm, imp_iff_not_or] using free
      have installed := State.restoreImage_fits (s := s) (t := t) (c := c) written valid sound fits
      rw [State.windowed_eq_false clear, if_neg Bool.false_ne_true, PresetSet.find_isSome, miss0, miss1, if_neg (by decide),
        if_neg neither] at installed
      refine ⟨_, installed, fun y hy => ?_, fun k m h => State.presetSet_setPresetSet_ne (s.readSet t n .fill) _ h, rfl⟩
      rw [hy]
      exact State.install_free vsized h1 h12 hn _ free

end Sys2Proof.Machine

/-! # FAULT_CLEAR (R195), and a request for a motion (R108) -/
namespace Sys2Proof.Machine

open Sys2Proof

section

variable {s u : State} {a flags : Nat}

/-! ## FAULT_CLEAR -/

theorem State.driveFaulted_iff : s.driveFaulted a = true ↔
    (s.mover (testSwitch a)).fault ≠ none ∨ (s.mover (slewDrive a)).fault ≠ none ∨ (s.mover (reverserOf a)).fault ≠ none := by
  simp [State.driveFaulted, Option.isSome_iff_ne_none]

/-- Check 1 of R195 fails. -/
theorem faultClear_range_iff : (decide (s.params.antCount < a) || (a != 0 && decide (255 < flags))) = true ↔
    ¬(a ≤ s.params.antCount ∧ (a = 0 ∨ flags ≤ 255)) := by
  simp only [Bool.or_eq_true, Bool.and_eq_true, decide_eq_true_eq, bne_iff_ne]
  omega

/-- Check 2 of R195 fails. -/
theorem faultClear_held_iff : (a != 0 && ((flags.testBit FaultFlag.drive.bit && s.driveFaulted a) ||
      (flags.testBit FaultFlag.route.bit && decide (2 ≤ (s.rowsNotOpen a).length)))) = true ↔
    a ≠ 0 ∧ ((flags.testBit FaultFlag.drive.bit = true ∧ ((s.mover (testSwitch a)).fault ≠ none ∨
        (s.mover (slewDrive a)).fault ≠ none ∨ (s.mover (reverserOf a)).fault ≠ none)) ∨
      (flags.testBit FaultFlag.route.bit = true ∧ 2 ≤ (s.rowsNotOpen a).length)) := by
  simp only [Bool.and_eq_true, Bool.or_eq_true, decide_eq_true_eq, bne_iff_ne, State.driveFaulted_iff]

theorem exec_faultClear_refused {status : Status} (ready : s.ready)
    (fails : (s.received.faultClearChecks a flags).find? (fun c => c.1) = some (true, status)) :
    exec (.faultClear a flags) s = .next (s.received.answer 0x7B status []) := by
  show execFaultClear a flags s = _
  exact hostRequest_refused (checks := fun u => u.faultClearChecks a flags) ready fails

theorem exec_faultClear (ready : s.ready) (pass : (s.received.faultClearChecks a flags).find? (fun c => c.1) = none) :
    exec (.faultClear a flags) s = .next (s.received.clearFaults a flags).settled := by
  show execFaultClear a flags s = _
  exact hostRequest_accepted (checks := fun u => u.faultClearChecks a flags) ready pass

theorem faultClearChecks_find? (range held : Bool)
    (hr : (decide (s.params.antCount < a) || (a != 0 && decide (255 < flags))) = range)
    (hh : (a != 0 && ((flags.testBit FaultFlag.drive.bit && s.driveFaulted a) ||
      (flags.testBit FaultFlag.route.bit && decide (2 ≤ (s.rowsNotOpen a).length)))) = held) :
    (s.received.faultClearChecks a flags).find? (fun c => c.1) =
      if range then some (true, .range) else if held then some (true, .state) else none := by
  have checks : s.received.faultClearChecks a flags = [(range, .range), (held, .state)] := by rw [← hr, ← hh]; rfl
  rw [checks]
  cases range <;> cases held <;> rfl

/-- A fault set outside the table reads as empty, and stays so. -/
theorem State.faultSet_removed (s : State) (a : Nat) (mask : FaultSet) :
    (s.setFaultSet a (s.faultSet a &&& mask)).faultSet a = s.faultSet a &&& mask := by
  by_cases inside : 1 ≤ a ∧ a ≤ s.ld.faults.length
  · exact State.faultSet_setFaultSet _ _ _ inside.1 inside.2
  · have none : s.faultSet a = 0 := by
      unfold State.faultSet nth
      split
      · rfl
      · exact List.getD_eq_default _ _ (by omega)
    have same : setNth s.ld.faults a (s.faultSet a &&& mask) = s.ld.faults := by
      unfold setNth
      split
      · rfl
      · exact List.set_eq_of_length_le (by omega)
    show nth (setNth s.ld.faults a (s.faultSet a &&& mask)) 0 a = _
    rw [same, show nth s.ld.faults 0 a = s.faultSet a from rfl, none]
    exact (BitVec.zero_and).symm

theorem removed_flags (f : FaultSet) (flags k : Nat) (hk : k < 8) :
    (f &&& ~~~ BitVec.ofNat 8 flags).getLsbD k = (f.getLsbD k && !flags.testBit k) := by
  rw [BitVec.getLsbD_and, BitVec.getLsbD_not, BitVec.getLsbD_ofNat]
  simp [hk]

theorem State.clearFaults_bus (s : State) (flags : Nat) :
    s.clearFaults 0 flags = State.answer { s with ld := { s.ld with busFault := none } } 0x7B .ok [] := rfl

theorem State.clearFaults_antenna (h : a ≠ 0) : s.clearFaults a flags =
    (State.postOnce { s with ld := { s.ld with faults := setNth s.ld.faults a (s.faultSet a &&& ~~~ BitVec.ofNat 8 flags) } } .permits).answer
      0x7B .ok (u8 (s.faultSet a &&& ~~~ BitVec.ofNat 8 flags).toNat) := by
  have set : (s.removeFaults a flags).faultSet a = s.faultSet a &&& ~~~ BitVec.ofNat 8 flags := s.faultSet_removed a _
  rw [State.clearFaults, if_neg h]
  exact congrArg (fun f : FaultSet => (s.removeFaults a flags).answer 0x7B .ok (u8 f.toNat)) set

/-! ## What a request for a motion touches -/

/-- Only one mover, the age counter and what waits to be handed over differ, and nothing that waited is lost. -/
def Requests (m : Nat) (s u : State) : Prop :=
  ∃ movers age ns, u = { s with mc := { s.mc with movers := movers, ageCounter := age }, notices := ns } ∧
    (∀ k, k ≠ m → u.mover k = s.mover k) ∧ ∀ n ∈ s.notices, n ∈ ns

variable {m : Nat}

theorem Requests.refl (s : State) (m : Nat) : Requests m s s :=
  ⟨s.mc.movers, s.mc.ageCounter, s.notices, rfl, fun _ _ => rfl, fun _ h => h⟩

theorem Requests.trans {v : State} (first : Requests m s u) (second : Requests m u v) : Requests m s v := by
  obtain ⟨movers, age, ns, rfl, others, held⟩ := first
  obtain ⟨movers', age', ns', rfl, others', held'⟩ := second
  exact ⟨movers', age', ns', rfl, fun k hk => (others' k hk).trans (others k hk), fun n hn => held' n (held n hn)⟩

theorem mem_addOnce {n x : Notice} {ns : List Notice} (h : n ∈ ns) : n ∈ addOnce ns x := by
  unfold addOnce
  split
  · exact h
  · exact List.mem_append_left _ h

theorem Requests.post (h : Requests m s u) (n : Notice) : Requests m s (u.post n) :=
  h.trans ⟨u.mc.movers, u.mc.ageCounter, _, rfl, fun _ _ => rfl, fun _ hn => List.mem_append_left _ hn⟩

theorem Requests.postOnce (h : Requests m s u) (n : Notice) : Requests m s (u.postOnce n) :=
  h.trans ⟨u.mc.movers, u.mc.ageCounter, _, rfl, fun _ _ => rfl, fun _ hn => mem_addOnce hn⟩

theorem Requests.setMover (h : Requests m s u) (x : Mover) : Requests m s (u.setMover m x) :=
  h.trans ⟨_, u.mc.ageCounter, u.notices, rfl, fun _ hk => nth_setNth_ne _ _ _ _ _ hk, fun _ hn => hn⟩

theorem Requests.counted (s : State) (m n : Nat) : Requests m s { s with mc := { s.mc with ageCounter := n } } :=
  ⟨s.mc.movers, n, s.notices, rfl, fun _ _ => rfl, fun _ hn => hn⟩

theorem Requests.tell (h : Requests m s u) (k : Nat) (fault : Bool) (r : Requester) : Requests m s (u.tell k fault r) := by
  unfold State.tell
  split
  · exact h.postOnce _
  · split
    · exact h.post _
    · exact h.postOnce _
  · split
    · exact h.post _
    · exact h.postOnce _
  · exact h
  · exact h.postOnce _

theorem Requests.tellAll (h : Requests m s u) (k : Nat) (fault : Bool) (rs : List Requester) : Requests m s (u.tellAll k fault rs) := by
  unfold State.tellAll
  induction rs generalizing u with
  | nil => exact h
  | cons r rs ih => exact ih (h.tell k fault r)

theorem State.requestMotion_requests (s : State) (m : Nat) (p : Position) (r : Requester) (priority : Nat) :
    Requests m s (s.requestMotion m p r priority) := by
  have same := Requests.refl s m
  have counted := Requests.counted s m (s.mc.ageCounter + 1)
  unfold State.requestMotion State.admitMotion
  dsimp only [Option.isSome_none, Option.getD_none]
  simp only [Bool.false_eq_true, if_false]
  split
  · exact same.tell _ _ _
  · split
    · exact same.tell _ _ _
    · split
      · split
        · exact same.tell _ _ _
        · exact (counted.setMover _).postOnce _
      · split
        · exact ((same.setMover _).tellAll _ _ _).tell _ _ _
        · exact ((same.setMover _).tellAll _ _ _).postOnce _
      · split
        · exact (same.setMover _).tellAll _ _ _
        · exact (counted.setMover _).tellAll _ _ _

theorem Requests.ld (h : Requests m s u) : u.ld = s.ld := by
  obtain ⟨movers, age, ns, rfl, -, -⟩ := h
  rfl

theorem Requests.mover (h : Requests m s u) {k : Nat} (hk : k ≠ m) : u.mover k = s.mover k := by
  obtain ⟨movers, age, ns, rfl, others, -⟩ := h
  exact others k hk

theorem Requests.notices (h : Requests m s u) {n : Notice} (hn : n ∈ s.notices) : n ∈ u.notices := by
  obtain ⟨movers, age, ns, rfl, -, held⟩ := h
  exact held n hn

end

/-- Settles O57. -/
theorem fault_clear_removes_the_named_flags : Obligations.fault_clear_removes_the_named_flags := by
  intro a flags s inRange held ready hrange hheld
  rw [← faultClear_held_iff (s := s) (a := a) (flags := flags)] at hheld
  have outside := faultClear_range_iff (s := s) (a := a) (flags := flags)
  rw [← hrange] at outside
  obtain ⟨b, hb⟩ : ∃ b, (decide (s.params.antCount < a) || (a != 0 && decide (255 < flags))) = b := ⟨_, rfl⟩
  obtain ⟨h, hh⟩ : ∃ h, (a != 0 && ((flags.testBit FaultFlag.drive.bit && s.driveFaulted a) ||
      (flags.testBit FaultFlag.route.bit && decide (2 ≤ (s.rowsNotOpen a).length)))) = h := ⟨_, rfl⟩
  rw [hb] at outside
  rw [hh] at hheld
  have checks := faultClearChecks_find? b h hb hh
  have passes (inside : inRange) (free : ¬held) : (s.received.faultClearChecks a flags).find? (fun c => c.1) = none := by
    rw [checks, if_neg fun e => outside.mp e inside, if_neg fun e => free (hheld.mpr e)]
  refine ⟨fun out => exec_faultClear_refused ready (by rw [checks, if_pos (outside.mpr out)]),
    fun inside holds => exec_faultClear_refused ready
      (by rw [checks, if_neg fun e => outside.mp e inside, if_pos (hheld.mp holds)]),
    fun inside free zero => ?_, fun after inside free nonzero hafter => ⟨fun k hk => ?_, ?_⟩⟩
  · rw [exec_faultClear ready (passes inside free), zero, State.clearFaults_bus]
    rfl
  · rw [hafter, removed_flags _ _ _ hk]
  · rw [exec_faultClear ready (passes inside free), State.clearFaults_antenna nonzero, hafter]
    rfl

end Sys2Proof.Machine

/-! # DIAG_START and DIAG_STOP (R198, R199, R202) -/
namespace Sys2Proof.Machine

open Sys2Proof

section

variable {s u : State} {a : Nat} {p : RunPosition}

/-! ## DIAG_START -/

theorem addOnce_addOnce {α : Type} [DecidableEq α] (xs : List α) (x : α) : addOnce (addOnce xs x) x = addOnce xs x := by
  have there : x ∈ addOnce xs x := by
    unfold addOnce
    split
    next mem => exact mem
    next => exact List.mem_append_right _ (List.mem_singleton_self x)
  exact if_pos there

theorem State.postOnce_postOnce (s : State) (n : Notice) : (s.postOnce n).postOnce n = s.postOnce n := by
  simp only [State.postOnce, addOnce_addOnce]

theorem diagStart_inRange {antennas : List Nat} {steps : Nat} (h1 : 1 ≤ steps) (h15 : steps ≤ 15) (range : ∀ a ∈ antennas, 1 ≤ a ∧ a ≤ 24)
    (defined : ∃ a ∈ antennas, s.ant a ≠ none) :
    (steps == 0 || decide (15 < steps) || antennas.any (fun a => !within 1 24 a) || !(antennas.any fun a => (s.ant a).isSome)) = false := by
  have inside : antennas.any (fun a => !within 1 24 a) = false := List.any_eq_false.mpr fun a mem => by
    simp only [within, range a mem, and_self, decide_true, Bool.not_true, Bool.false_eq_true, not_false_eq_true]
  have some : antennas.any (fun a => (s.ant a).isSome) = true := by
    obtain ⟨a, mem, record⟩ := defined
    exact List.any_eq_true.mpr ⟨a, mem, Option.isSome_iff_ne_none.mpr record⟩
  rw [inside, some]
  simp only [Bool.or_false, Bool.not_true, Bool.or_eq_false_iff, beq_eq_false_iff_ne, decide_eq_false_iff_not]
  omega

theorem diagStartChecks_eq {antennas : List Nat} {steps : Nat} {range busy halt : Bool}
    (hr : (steps == 0 || decide (15 < steps) || antennas.any (fun a => !within 1 24 a) || !(antennas.any fun a => (s.ant a).isSome)) = range)
    (hb : (s.ld.run != .idle) = busy) (hh : s.safetyHalt = halt) :
    s.received.diagStartChecks antennas steps = [(range, .range), (busy, .busy), (halt, .state)] := by
  rw [← hr, ← hb, ← hh]
  rfl

section Start

variable {antennas : List Nat} {steps : Nat} (ready : s.ready)
  (range : (steps == 0 || decide (15 < steps) || antennas.any (fun a => !within 1 24 a) || !(antennas.any fun a => (s.ant a).isSome)) = false)
include ready range

theorem exec_diagStart_busy (busy : s.ld.run ≠ .idle) :
    exec (.diagStart antennas steps) s = .next (s.received.answer 0x78 .busy []) := by
  have checks := diagStartChecks_eq range (show (s.ld.run != .idle) = true by simpa using busy) rfl
  show execDiagStart antennas steps s = _
  exact hostRequest_refused (checks := fun u => u.diagStartChecks antennas steps) ready (by rw [checks]; rfl)

theorem exec_diagStart (idle : s.ld.run = .idle) (halt : s.safetyHalt = false) :
    exec (.diagStart antennas steps) s = .next ((s.received.startRun antennas steps).answer 0x78 .ok []).settled := by
  have checks := diagStartChecks_eq range (show (s.ld.run != .idle) = false by simp [idle]) halt
  show execDiagStart antennas steps s = _
  exact hostRequest_accepted (checks := fun u => u.diagStartChecks antennas steps) ready (by rw [checks]; rfl)

end Start

/-- The Diagnostics Unit of a run that has begun. -/
def State.runBegun (s : State) (antennas : List Nat) (steps : Nat) : Diagnostics :=
  { s.ld with
    run := .active, outcome := none, steps := BitVec.ofNat 4 steps
    plan := ((upTo 24).filter fun a => antennas.contains a && (s.ant a).isSome).map PlanEntry.blank
    position := some { index := 0, phase := .waitBus, step := .insul, neighbour := 0 } }

theorem State.startRun_active {antennas : List Nat} {steps : Nat} (sound : s.ld.busFault = none) :
    s.startRun antennas steps = State.postOnce { s with ld := s.runBegun antennas steps } .diag := by
  have quiet : ¬(({ s with ld := s.runBegun antennas steps } : State).ld.busFault.isSome = true) := by
    rw [show ({ s with ld := s.runBegun antennas steps } : State).ld.busFault = s.ld.busFault from rfl, sound]
    exact Bool.false_ne_true
  exact congrArg (State.postOnce · .diag) (if_neg quiet)

/-- A run that has no antenna and no switch of its own ends at once. -/
theorem State.endRun_unconnected (position : s.ld.position = some p) (phase : p.phase.connected = false) (switch : s.ld.closedSwitch = none)
    (o : RunOutcome) : s.endRun o = State.postOnce { s with ld := { s.ld with
      run := .ending, outcome := some o, position := none
      measurement := if p.phase = .selfCheck then s.ld.measurement.map fun m => { m with discard := true } else s.ld.measurement } } .diag := by
  unfold State.endRun
  simp only [position, phase, Bool.false_eq_true, if_false]
  by_cases check : p.phase = .selfCheck
  · simp only [check, if_true, State.setDiag, switch]
  · simp only [check, if_false, switch]
    rfl

theorem State.startRun_busFault {antennas : List Nat} {steps : Nat} (fault : s.ld.busFault ≠ none) (switch : s.ld.closedSwitch = none) :
    s.startRun antennas steps = State.postOnce { s with ld := { s.runBegun antennas steps with
      run := .ending, outcome := some .busFault, position := none } } .diag := by
  have set : ({ s with ld := s.runBegun antennas steps } : State).ld.busFault.isSome = true := Option.isSome_iff_ne_none.mpr fault
  have ended := State.endRun_unconnected (s := { s with ld := s.runBegun antennas steps }) (o := .busFault) rfl rfl switch
  refine (congrArg (State.postOnce · .diag) ((if_pos set).trans ended)).trans ?_
  rw [State.postOnce_postOnce]
  rfl

/-! ## DIAG_STOP -/

theorem exec_diagStop_refused (ready : s.ready) (idle : s.ld.run ≠ .active) :
    exec .diagStop s = .next (s.received.answer 0x79 .state []) := by
  have fails : (s.received.ld.run != .active) = true := by
    simpa using (show s.received.ld.run ≠ .active from idle)
  show execDiagStop s = _
  exact hostRequest_refused (checks := fun u => [(u.ld.run != .active, .state)]) ready (by simp only [List.find?_cons, fails])

theorem exec_diagStop (ready : s.ready) (active : s.ld.run = .active) :
    exec .diagStop s = .next ((s.received.endRun .stopped).answer 0x79 .ok []).settled := by
  have passes : (s.received.ld.run != .active) = false := by
    simpa using (show s.received.ld.run = .active from active)
  show execDiagStop s = _
  exact hostRequest_accepted (checks := fun u => [(u.ld.run != .active, .state)]) ready (find?_check_passed passes)

/-- The end of a run that holds a switch, by what stands when the switch is ordered OPEN. -/
theorem State.endRun_switch {b : State} (position : s.ld.position = some p) (check : p.phase ≠ .selfCheck)
    (aborted : (if p.phase.connected then s.abortAntenna p (s.planAt p.index).byDrive else s) = b) (switch : b.ld.closedSwitch = some a)
    (o : RunOutcome) : s.endRun o = State.postOnce ((b.openRunSwitch a).setDiag
      { b.ld with run := .ending, outcome := some o, position := none }) .diag := by
  have ld : (b.openRunSwitch a).ld = b.ld := (b.requestMotion_requests (testSwitch a) .opened .diagRun 2).ld
  unfold State.endRun
  simp only [position, aborted, check, if_false, switch, ld]

end

end Sys2Proof.Machine

/-! # The switch of a run that is stopped (R107 to R109, R202) -/
namespace Sys2Proof.Machine

open Sys2Proof

section

variable {s u : State} {a m : Nat} {p : RunPosition} {q : Position} {r : Requester} {priority : Nat}

/-! ## What a request leaves of its mover -/

/-- A mover written before outcomes are told. -/
theorem State.mover_told (sized : s.sized) (present : s.present m = true) (x : Mover) (k : Nat) (rs : List Requester) (age : Nat) :
    ((State.setMover { s with mc := { s.mc with ageCounter := age } } m x).tellAll k false rs).mover m = x := by
  obtain ⟨ns, told⟩ := (State.setMover { s with mc := { s.mc with ageCounter := age } } m x).tellAll_posts k false rs
  rw [told]
  exact State.mover_withMover sized present x

/-- A motion to the position asked for is joined. -/
theorem State.requestMotion_joins (sized : s.sized) (present : s.present m = true) (sound : (s.mover m).fault = none)
    (moving : (s.mover m).phase = .moving ∨ (s.mover m).phase = .settling ∨ (s.mover m).phase = .validating)
    (target : (s.mover m).target = some q) :
    (s.requestMotion m q r priority).mover m = { s.mover m with followOn := none, joined := (s.mover m).joined ++ [r] } := by
  have joins : s.requestMotion m q r priority =
      (s.setMover m { s.mover m with followOn := none, joined := (s.mover m).joined ++ [r] }).tellAll m false (s.mover m).waiters := by
    unfold State.requestMotion State.admitMotion
    rcases moving with phase | phase | phase
    all_goals simp only [present, sound, phase, target, Bool.not_true, Bool.false_eq_true, if_false, Option.isSome_none, if_true]
  rw [joins]
  exact State.mover_told sized present _ _ _ s.mc.ageCounter

/-- A mover away from the position asked for is then on its way there, or has it as its follow-on. -/
theorem State.requestMotion_aims (sized : s.sized) (present : s.present m = true) (sound : (s.mover m).fault = none)
    (away : (s.mover m).confirmedAt ≠ some q) :
    ((s.requestMotion m q r priority).mover m).target = some q ∨
    ((s.requestMotion m q r priority).mover m).followOn.map (·.target) = some q := by
  have moving (other : (s.mover m).phase ≠ .rest) (other' : (s.mover m).phase ≠ .queued) : s.requestMotion m q r priority =
      if (s.mover m).target = some q then
        (s.setMover m { s.mover m with followOn := none, joined := (s.mover m).joined ++ [r] }).tellAll m false (s.mover m).waiters
      else
        (State.setMover { s with mc := { s.mc with ageCounter := s.mc.ageCounter + 1 } } m { s.mover m with
          followOn := some { target := q, requester := r, priority := priority, age := s.mc.ageCounter } }).tellAll
            m false (s.mover m).waiters := by
    unfold State.requestMotion State.admitMotion
    cases phase : (s.mover m).phase with
    | rest => exact absurd phase other
    | queued => exact absurd phase other'
    | moving => simp only [present, sound, phase, Bool.not_true, Bool.false_eq_true, if_false, Option.isSome_none, Option.getD_none]
    | halted => simp only [present, sound, phase, Bool.not_true, Bool.false_eq_true, if_false, Option.isSome_none, Option.getD_none]
    | settling => simp only [present, sound, phase, Bool.not_true, Bool.false_eq_true, if_false, Option.isSome_none, Option.getD_none]
    | validating => simp only [present, sound, phase, Bool.not_true, Bool.false_eq_true, if_false, Option.isSome_none, Option.getD_none]
  by_cases rest : (s.mover m).phase = .rest
  · rw [State.requestMotion_rest present sound rest away]
    exact .inl (congrArg Mover.target
      (State.mover_withMover (s := { s with mc := { s.mc with ageCounter := s.mc.ageCounter + 1 } }) sized present
        { s.mover m with phase := .queued, target := some q, requester := some r, priority := priority, age := s.mc.ageCounter
                         joined := [] }))
  · by_cases queued : (s.mover m).phase = .queued
    · have replaced : s.requestMotion m q r priority = ((s.setMover m { s.mover m with
          target := some q, requester := some r, priority := max (s.mover m).priority priority, joined := [] }).tellAll
            m false (s.mover m).askers).postOnce .arbiter := by
        unfold State.requestMotion State.admitMotion
        simp only [present, sound, queued, away, Bool.not_true, Bool.false_eq_true, if_false, Option.isSome_none]
      rw [replaced]
      exact .inl (congrArg Mover.target (State.mover_told sized present _ m (s.mover m).askers s.mc.ageCounter))
    · rw [moving rest queued]
      split
      next target =>
        refine .inl ((congrArg Mover.target (State.mover_told sized present _ m (s.mover m).waiters s.mc.ageCounter)).trans target)
      next =>
        exact .inr (congrArg (fun x => x.followOn.map (·.target))
          (State.mover_told sized present _ m (s.mover m).waiters (s.mc.ageCounter + 1)))

/-- A mover confirmed where it is asked to be answers at once. -/
theorem State.requestMotion_there (present : s.present m = true) (sound : (s.mover m).fault = none) (rest : (s.mover m).phase = .rest)
    (there : (s.mover m).confirmedAt = some q) : s.requestMotion m q r priority = s.tell m false r := by
  unfold State.requestMotion State.admitMotion
  simp only [present, sound, rest, there, Bool.not_true, Bool.false_eq_true, if_false, Option.isSome_none, if_true]

/-! ## The antenna of the run -/

theorem PlanEntry.setResult_result (e : PlanEntry) (d : DiagStep) (x : StepResult) : (e.setResult d x).result d = some x := by
  cases d <;> rfl

theorem PlanEntry.setResult_outcome (e : PlanEntry) (d : DiagStep) (x : StepResult) : (e.setResult d x).outcome = e.outcome := by
  cases d <;> rfl

theorem State.planAt_set {i : Nat} {e : PlanEntry} (inside : i < s.ld.plan.length) (plan : u.ld.plan = s.ld.plan.set i e) :
    u.planAt i = e := by
  rw [State.planAt, plan]
  simp [List.getD, inside]

/-- The current antenna of a run that ends is ABORTED, and a step in progress DISCARDED. -/
theorem State.abortAntenna_plan (inside : p.index < s.ld.plan.length) (byDrive : Bool) :
    ((s.abortAntenna p byDrive).planAt p.index).outcome = .aborted ∧
    (p.phase = .measuring → ((s.abortAntenna p byDrive).planAt p.index).result p.step = some .discarded ∧
      (s.abortAntenna p byDrive).ld.measurement = s.ld.measurement.map fun m => { m with discard := true }) ∧
    (p.phase ≠ .measuring → (s.abortAntenna p byDrive).ld.measurement = s.ld.measurement) := by
  by_cases measuring : p.phase = .measuring
  · have plan : (s.abortAntenna p byDrive).planAt p.index =
        PlanEntry.setResult { s.planAt p.index with outcome := .aborted, byDrive := byDrive } p.step .discarded :=
      State.planAt_set inside (congrArg (s.ld.plan.set p.index) (if_pos measuring))
    rw [plan, PlanEntry.setResult_outcome, PlanEntry.setResult_result]
    exact ⟨rfl, fun _ => ⟨rfl, if_pos measuring⟩, fun other => absurd measuring other⟩
  · have plan : (s.abortAntenna p byDrive).planAt p.index = { s.planAt p.index with outcome := .aborted, byDrive := byDrive } :=
      State.planAt_set inside (congrArg (s.ld.plan.set p.index) (if_neg measuring))
    rw [plan]
    exact ⟨rfl, fun other => absurd other measuring, fun _ => if_neg measuring⟩

/-- Beside the plan and the measurement an aborted antenna changes nothing. -/
theorem State.abortAntenna_frame (s : State) (p : RunPosition) (byDrive : Bool) :
    ∃ plan measurement, s.abortAntenna p byDrive = { s with ld := { s.ld with plan := plan, measurement := measurement } } :=
  ⟨_, _, rfl⟩

end

/-- Settles O56. -/
theorem diagnostic_run_starts_and_stops : Obligations.diagnostic_run_starts_and_stops := by
  intro s ready
  refine ⟨fun antennas steps plan d h1 h15 inside defined halt hplan hd => ?_, exec_diagStop_refused ready,
    fun p active position phase switch => ?_, fun p a x d sized active position switch phase hx hd => ⟨?_, fun present sound rest watch opened => ?_⟩,
    fun p a x sized active position switch phase index _ hx present sound rest closed => ?_⟩
  · subst hplan hd
    have range := diagStart_inRange h1 h15 inside defined
    refine ⟨exec_diagStart_busy ready range, fun idle noFault => ?_, fun idle fault switch => ?_⟩
    · rw [exec_diagStart ready range idle halt, State.startRun_active (s := s.received) noFault]
      rfl
    · rw [exec_diagStart ready range idle halt, State.startRun_busFault (s := s.received) fault switch]
      rfl
  · rw [exec_diagStop ready active, State.endRun_unconnected (s := s.received) position phase switch]
    rfl
  · subst hx hd
    have check : p.phase ≠ .selfCheck := by rcases phase with e | e <;> rw [e] <;> decide
    have free : p.phase.connected = false := by rcases phase with e | e <;> rw [e] <;> rfl
    have ended := State.endRun_switch (s := s.received) (b := s.received) (o := .stopped) position check (if_neg (by rw [free]; decide)) switch
    have asked := s.received.requestMotion_requests (testSwitch a) .opened .diagRun 2
    have mover (k : Nat) : (s.received.endRun .stopped).mover k = (s.received.openRunSwitch a).mover k := by rw [ended]; rfl
    refine ⟨_, exec_diagStop ready active, by rw [ended]; rfl, fun k hk => (mover k).trans (asked.mover hk),
      fun _ _ present sound moving target => ?_, fun _ _ present sound away => ?_⟩
    · exact (mover _).trans (State.requestMotion_joins (s := s.received) sized present sound moving target)
    · rw [mover]
      exact State.requestMotion_aims (s := s.received) sized present sound away
  · subst hx hd
    have check : p.phase ≠ .selfCheck := by rcases phase with e | e <;> rw [e] <;> decide
    have free : p.phase.connected = false := by rcases phase with e | e <;> rw [e] <;> rfl
    have there : (s.received.mover (testSwitch a)).confirmedAt = some .opened := by
      rw [show s.received.mover (testSwitch a) = s.mover (testSwitch a) from rfl, Mover.confirmedAt, watch, opened]
      rfl
    have ended := State.endRun_switch (s := s.received) (b := s.received) (o := .stopped) position check (if_neg (by rw [free]; decide)) switch
    rw [exec_diagStop ready active, ended, State.openRunSwitch, State.requestMotion_there (s := s.received) present sound rest there]
    refine congrArg (fun u => Host.Outcome.next (State.settled (State.answer u 0x79 .ok []))) ?_
    exact State.postOnce_postOnce (s.received.setDiag { s.ld with run := .ending, outcome := some .stopped, position := none }) .diag
  · subst hx
    have check : p.phase ≠ .selfCheck := by rcases phase with e | e | e <;> rw [e] <;> decide
    have connected : p.phase.connected = true := by rcases phase with e | e | e <;> rw [e] <;> rfl
    obtain ⟨b, hb⟩ : ∃ b, s.received.abortAntenna p (s.received.planAt p.index).byDrive = b := ⟨_, rfl⟩
    obtain ⟨aborted, measured, unmeasured⟩ := State.abortAntenna_plan (s := s.received) index (s.received.planAt p.index).byDrive
    obtain ⟨plan, measurement, frame⟩ := s.received.abortAntenna_frame p (s.received.planAt p.index).byDrive
    rw [hb] at aborted measured unmeasured frame
    have bswitch : b.ld.closedSwitch = some a := by rw [frame]; exact switch
    have bmover : b.mover (testSwitch a) = s.mover (testSwitch a) := by rw [frame]; rfl
    have ended := State.endRun_switch (s := s.received) (b := b) (o := .stopped) position check
      (by rw [if_pos connected, hb]) bswitch
    have away : (b.mover (testSwitch a)).confirmedAt ≠ some .opened := by
      rw [bmover, Mover.confirmedAt, closed]
      split <;> simp
    have order := State.requestMotion_rest (s := b) (m := testSwitch a) (p := .opened) (r := .diagRun) (priority := 2)
      (by rw [frame]; exact present) (by rw [bmover]; exact sound) (by rw [bmover]; exact rest) away
    have mover (k : Nat) : (s.received.endRun .stopped).mover k = (b.openRunSwitch a).mover k := by rw [ended]; rfl
    have asked := b.requestMotion_requests (testSwitch a) .opened .diagRun 2
    have planAt : (s.received.endRun .stopped).planAt p.index = b.planAt p.index := by rw [ended]; rfl
    have measures : (s.received.endRun .stopped).ld.measurement = b.ld.measurement := by rw [ended]; rfl
    refine ⟨_, exec_diagStop ready active, by rw [ended]; rfl, by rw [ended]; rfl, by rw [ended]; rfl, by rw [planAt]; exact aborted,
      by rw [planAt, measures]; exact measured, by rw [measures]; exact unmeasured, ?_, fun k hk => ?_⟩
    · have bsized : b.sized := by rw [frame]; exact sized
      rw [mover, State.openRunSwitch, order]
      refine (State.mover_withMover (s := { b with mc := { b.mc with ageCounter := b.mc.ageCounter + 1 } }) bsized
        (by rw [frame]; exact present) _).trans ?_
      rw [bmover, frame]
      rfl
    · rw [mover]
      exact (asked.mover hk).trans (by rw [frame]; rfl)

end Sys2Proof.Machine

/-! # Results and timeouts of the diagnostic bus (R196, R197, R201 to R203) -/
namespace Sys2Proof.Machine

open Sys2Proof

section

variable {s u v : State} {a i : Nat} {p : RunPosition} {m : Measurement}

/-! ## What a run leaves as it goes on from step to step -/

/-- The fault sets, and the results of INSUL and LOOP, are as before. -/
structure Proceeds (s u : State) : Prop where
  faults : u.ld.faults = s.ld.faults
  insul : ∀ k, (u.planAt k).insul = (s.planAt k).insul
  loop : ∀ k, (u.planAt k).loop = (s.planAt k).loop

theorem Proceeds.refl (s : State) : Proceeds s s := ⟨rfl, fun _ => rfl, fun _ => rfl⟩

theorem Proceeds.trans (first : Proceeds s u) (second : Proceeds u v) : Proceeds s v :=
  ⟨second.faults.trans first.faults, fun k => (second.insul k).trans (first.insul k), fun k => (second.loop k).trans (first.loop k)⟩

theorem Proceeds.of_plan (faults : u.ld.faults = s.ld.faults) (plan : u.ld.plan = s.ld.plan) : Proceeds s u := by
  have same (k : Nat) : u.planAt k = s.planAt k := by rw [State.planAt, State.planAt, plan]
  exact ⟨faults, fun k => by rw [same], fun k => by rw [same]⟩

theorem Proceeds.setPosition (h : Proceeds s u) (p : RunPosition) : Proceeds s (u.setPosition p) := h.trans (Proceeds.of_plan rfl rfl)

theorem Proceeds.sendMeasurement (h : Proceeds s u) (o : BusOrder) : Proceeds s (u.sendMeasurement o) :=
  h.trans (Proceeds.of_plan rfl rfl)

theorem Proceeds.openRunSwitch (h : Proceeds s u) (a : Nat) : Proceeds s (u.openRunSwitch a) := by
  have ld : (u.openRunSwitch a).ld = u.ld := (u.requestMotion_requests (testSwitch a) .opened .diagRun 2).ld
  exact h.trans (Proceeds.of_plan (congrArg Diagnostics.faults ld) (congrArg Diagnostics.plan ld))

/-- The plan read after one entry was written. -/
theorem State.planAt_setPlan (s : State) (i k : Nat) (e : PlanEntry) :
    (s.setPlan i e).planAt k = e ∨ (s.setPlan i e).planAt k = s.planAt k := by
  show (s.ld.plan.set i e).getD k _ = e ∨ (s.ld.plan.set i e).getD k _ = s.ld.plan.getD k _
  by_cases h : i = k ∧ i < s.ld.plan.length
  · obtain ⟨rfl, inside⟩ := h
    exact .inl (by simp [List.getD, inside])
  · refine .inr ?_
    by_cases same : i = k
    · rw [List.set_eq_of_length_le (by omega)]
    · simp [List.getD, same]

theorem State.planAt_setPlan_self (inside : i < s.ld.plan.length) (e : PlanEntry) : (s.setPlan i e).planAt i = e :=
  State.planAt_set inside rfl

/-- An entry written with the results of INSUL and LOOP that it had. -/
theorem Proceeds.setPlan {e : PlanEntry} (h : Proceeds s u) (i : Nat) (insul : e.insul = (u.planAt i).insul)
    (loop : e.loop = (u.planAt i).loop) : Proceeds s (u.setPlan i e) := by
  refine h.trans ⟨rfl, fun k => ?_, fun k => ?_⟩
  all_goals
    by_cases same : k = i
    · subst same
      rcases u.planAt_setPlan k k e with new | old
      · rw [new]; assumption
      · rw [old]
    · have other : (u.setPlan i e).planAt k = u.planAt k := by
        show (u.ld.plan.set i e).getD k _ = u.ld.plan.getD k _
        simp [List.getD, Ne.symm same]
      rw [other]

theorem Proceeds.crossNext (n : Nat) (h : Proceeds s u) (i : Nat) : Proceeds s (State.crossNext n u i).1 := by
  induction n generalizing u with
  | zero => exact h
  | succ n ih =>
    unfold State.crossNext
    dsimp only
    split
    · exact h.setPlan i rfl rfl
    · split
      · exact ih (h.setPlan i rfl rfl)
      · split
        · exact ih (h.setPlan i rfl rfl)
        · exact h.sendMeasurement _

theorem Proceeds.beginStep (h : Proceeds s u) (i : Nat) (d : DiagStep) : Proceeds s (u.beginStep i d).1 := by
  cases d with
  | insul => exact h.sendMeasurement _
  | loop => exact h.sendMeasurement _
  | cross => exact h.crossNext 4 i
  | matching => exact h.sendMeasurement _

theorem Proceeds.stepsGoOn (n : Nat) (h : Proceeds s u) (p : RunPosition) (mayYield : Bool) :
    Proceeds s (State.stepsGoOn n u p mayYield) := by
  induction n generalizing u mayYield with
  | zero => exact h
  | succ n ih =>
    unfold State.stepsGoOn
    dsimp only
    split
    · exact (h.openRunSwitch _).setPosition _
    · split
      · exact (h.openRunSwitch _).setPosition _
      · split
        · exact (h.beginStep _ _).setPosition _
        · exact ih (h.beginStep _ _) true

/-! ## The results of INSUL and LOOP -/

theorem State.faultSet_congr (faults : u.ld.faults = s.ld.faults) (a : Nat) : u.faultSet a = s.faultSet a := by
  rw [State.faultSet, State.faultSet, faults]

theorem unchecked_removed (f : FaultSet) : (f &&& ~~~ FaultFlag.unchecked.mask).getLsbD FaultFlag.unchecked.bit = false ∧
    ∀ k, k ≠ 0 → (f &&& ~~~ FaultFlag.unchecked.mask).getLsbD k = f.getLsbD k := by
  refine ⟨by rw [show FaultFlag.unchecked.mask = BitVec.ofNat 8 1 from rfl, removed_flags f 1 _ (by decide)]; exact Bool.and_false _,
    fun k hk => ?_⟩
  by_cases h : k < 8
  · rw [show FaultFlag.unchecked.mask = BitVec.ofNat 8 1 from rfl, removed_flags f 1 k h, show (1 : Nat) = 2 ^ 0 from rfl,
      Nat.testBit_two_pow_of_ne (Ne.symm hk), Bool.not_false, Bool.and_true]
  · rw [BitVec.getLsbD_of_ge _ _ (by omega), BitVec.getLsbD_of_ge _ _ (by omega)]

/-- A LOOP PASS after an INSUL PASS removes UNCHECKED (R196, R201). -/
theorem State.stepResult_loopPass (inside : i < s.ld.plan.length) (insul : (s.planAt i).insul = some .pass) :
    s.stepResult i .loop .pass = (s.setPlan i ((s.planAt i).setResult .loop .pass)).removeUnchecked (s.planAt i).antenna := by
  have entry := State.planAt_setPlan_self inside ((s.planAt i).setResult .loop .pass)
  have passed : ((s.setPlan i ((s.planAt i).setResult .loop .pass)).planAt i).insul = some .pass ∧
      ((s.setPlan i ((s.planAt i).setResult .loop .pass)).planAt i).loop = some .pass := by
    rw [entry]
    exact ⟨insul, rfl⟩
  show (s.setPlan i ((s.planAt i).setResult .loop .pass)).checkUnchecked i = _
  rw [State.checkUnchecked, if_pos passed, entry]
  rfl

theorem State.addFault_planAt (s : State) (a : Nat) (f : FaultFlag) (k : Nat) : (s.addFault a f).planAt k = s.planAt k := by
  unfold State.addFault
  split
  · rfl
  · split <;> rfl

/-- An INSUL FAIL is recorded, and sets SHORT_GND (R201). -/
theorem State.stepResult_insulFail (sized : s.sized) (inside : i < s.ld.plan.length) (h1 : 1 ≤ (s.planAt i).antenna)
    (h24 : (s.planAt i).antenna ≤ 24) (defined : s.ant (s.planAt i).antenna ≠ none) :
    ((s.stepResult i .insul .fail).faultSet (s.planAt i).antenna).getLsbD FaultFlag.shortGnd.bit = true ∧
    ((s.stepResult i .insul .fail).planAt i).insul = some .fail := by
  have omitted (e : PlanEntry) (d : DiagStep) (hd : d ≠ .insul) : (e.omitStep d).insul = e.insul ∧ (e.omitStep d).antenna = e.antenna := by
    unfold PlanEntry.omitStep
    split
    · cases d with
      | insul => exact absurd rfl hd
      | loop => exact ⟨rfl, rfl⟩
      | cross => exact ⟨rfl, rfl⟩
      | matching => exact ⟨rfl, rfl⟩
    · exact ⟨rfl, rfl⟩
  obtain ⟨e, he⟩ : ∃ e, ((((s.planAt i).setResult .insul .fail).omitStep .loop).omitStep .cross).omitStep .matching = e := ⟨_, rfl⟩
  have insul : e.insul = some .fail := by
    rw [← he, (omitted _ .matching (by decide)).1, (omitted _ .cross (by decide)).1, (omitted _ .loop (by decide)).1]
    rfl
  have antenna : e.antenna = (s.planAt i).antenna := by
    rw [← he, (omitted _ .matching (by decide)).2, (omitted _ .cross (by decide)).2, (omitted _ .loop (by decide)).2]
    rfl
  have entry := State.planAt_setPlan_self inside e
  have flagged : s.stepResult i .insul .fail =
      ((s.setPlan i e).setPlan i { e with flags := e.flags ||| FaultFlag.shortGnd.mask }).addFault (s.planAt i).antenna .shortGnd := by
    show (s.setPlan i _).runFlag i .shortGnd = _
    rw [he, State.runFlag, entry, antenna]
  have inside' : i < (s.setPlan i e).ld.plan.length := by
    rw [show (s.setPlan i e).ld.plan = s.ld.plan.set i e from rfl, List.length_set]
    exact inside
  obtain ⟨-, -, -, -, -, -, ⟨faults, -⟩, -⟩ := State.sized_iff.mp sized
  rw [flagged]
  refine ⟨State.addFault_set .shortGnd (Option.isSome_iff_ne_none.mpr defined) h1 (by
    rw [show ((s.setPlan i e).setPlan i { e with flags := e.flags ||| FaultFlag.shortGnd.mask }).ld.faults = s.ld.faults from rfl]
    omega), ?_⟩
  rw [State.addFault_planAt, State.planAt_setPlan_self inside']
  exact insul

/-! ## Results on the bus -/

theorem exec_busResult_disregarded {tag : Nat} (other : ∀ m, s.ld.measurement = some m → m.tag ≠ tag) (r : BusResult) :
    exec (.busResult tag r) s = .next s.settled := by
  have disregarded : s.takeBusResult tag r = s := by
    unfold State.takeBusResult
    cases h : s.ld.measurement with
    | none => rfl
    | some m => exact if_pos (other m h)
  exact congrArg (fun u => Host.Outcome.next (State.settled u)) disregarded

theorem exec_busResult {tag : Nat} {r : BusResult} (outstanding : s.ld.measurement = some m) (same : m.tag = tag)
    (kind : m.order.answeredBy r = true) : exec (.busResult tag r) s = .next (s.measurementAnswered m r).settled := by
  have taken : s.takeBusResult tag r = s.measurementAnswered m r := by
    simp only [State.takeBusResult, outstanding, same, ne_eq, not_true_eq_false, if_false, kind, if_true]
  exact congrArg (fun u => Host.Outcome.next (State.settled u)) taken

/-- The state once the outstanding measurement has been answered. -/
def State.answered (s : State) : State := s.setDiag { s.ld with measurement := none }

theorem State.measurementAnswered_selfCheck (service : s.ld.preUse = none) (position : s.ld.position = some p)
    (phase : p.phase = .selfCheck) : s.measurementAnswered m .pass =
      ((s.answered.setDiag { s.answered.ld with bus := .runStep }).setPosition { p with phase := .nextAntenna }).postOnce .diag ∧
    s.measurementAnswered m .fail = ((s.answered.setBusFault .selfCheck).endRun .busFault).postOnce .diag := by
  have folded : s.setDiag { s.ld with measurement := none } = s.answered := rfl
  have service' : s.answered.ld.preUse = none := service
  have position' : s.answered.ld.position = some p := position
  unfold State.measurementAnswered
  simp only [folded, service', position', phase, if_true, reduceCtorEq, if_false, and_self]

/-- The result of a step other than CROSS is recorded, and the run goes on. -/
theorem State.measurementAnswered_step {r : BusResult} (service : s.ld.preUse = none) (position : s.ld.position = some p)
    (phase : p.phase = .measuring) (order : m.order = .loop a ∨ m.order = .insul a) (stands : m.discard = false) :
    s.measurementAnswered m r = (State.stepsGoOn 8 (s.answered.stepResult p.index p.step r) p true).postOnce .diag := by
  have folded : s.setDiag { s.ld with measurement := none } = s.answered := rfl
  have service' : s.answered.ld.preUse = none := service
  have position' : s.answered.ld.position = some p := position
  unfold State.measurementAnswered
  rcases order with order | order
  all_goals simp only [folded, service', position', phase, order, stands, Bool.false_eq_true, if_false]

theorem State.setBusFault_unqueued (queue : s.ld.preUseQueue = []) (c : BusFaultCause) :
    s.setBusFault c = s.setDiag { s.ld with busFault := some (c, s.tb.elapsed) } := by
  unfold State.setBusFault
  rw [queue]
  show s.setDiag { s.ld with busFault := some (c, s.tb.elapsed), preUseQueue := [] } = _
  rw [← queue]

end
end Sys2Proof.Machine

/-! # The timeout of a measurement, and the statement of the bus (R197, R202, R203) -/
namespace Sys2Proof.Machine

open Sys2Proof

section

variable {s u v : State} {p : RunPosition}

/-! ## What the end of a run keeps of the bus -/

/-- The bus fault and the pre-use checks are as before, no measurement becomes outstanding, and no notice is lost. -/
structure BusKept (s u : State) : Prop where
  busFault : u.ld.busFault = s.ld.busFault
  queue : u.ld.preUseQueue = s.ld.preUseQueue
  service : u.ld.preUse = s.ld.preUse
  measurement : s.ld.measurement = none → u.ld.measurement = none
  notices : ∀ n ∈ s.notices, n ∈ u.notices

theorem BusKept.refl (s : State) : BusKept s s := ⟨rfl, rfl, rfl, id, fun _ h => h⟩

theorem BusKept.trans (first : BusKept s u) (second : BusKept u v) : BusKept s v :=
  ⟨second.busFault.trans first.busFault, second.queue.trans first.queue, second.service.trans first.service,
    fun h => second.measurement (first.measurement h), fun n h => second.notices n (first.notices n h)⟩

theorem BusKept.requests {m : Nat} (h : Requests m s u) : BusKept s u := by
  have ld := h.ld
  exact ⟨by rw [ld], by rw [ld], by rw [ld], fun none => by rw [ld]; exact none, fun n hn => h.notices hn⟩

theorem BusKept.postOnce (h : BusKept s u) (n : Notice) : BusKept s (u.postOnce n) :=
  h.trans ⟨rfl, rfl, rfl, id, fun _ hn => mem_addOnce hn⟩

theorem BusKept.abortAntenna (h : BusKept s u) (p : RunPosition) (byDrive : Bool) : BusKept s (u.abortAntenna p byDrive) := by
  refine h.trans ⟨rfl, rfl, rfl, fun none => ?_, fun _ hn => hn⟩
  show (if p.phase = .measuring then u.ld.measurement.map fun m => { m with discard := true } else u.ld.measurement) = _
  rw [none]
  split <;> rfl

theorem BusKept.discardMeasurement (h : BusKept s u) :
    BusKept s (u.setDiag { u.ld with measurement := u.ld.measurement.map fun m => { m with discard := true } }) := by
  refine h.trans ⟨rfl, rfl, rfl, fun none => ?_, fun _ hn => hn⟩
  show u.ld.measurement.map _ = _
  rw [none]
  rfl

/-- The end of a run, which leaves no position and what it keeps of the bus. -/
theorem State.endRun_kept (s : State) (o : RunOutcome) : BusKept s (s.endRun o) ∧
    (s.ld.position ≠ none → (s.endRun o).ld.run = .ending ∧ (s.endRun o).ld.outcome = some o ∧ (s.endRun o).ld.position = none) := by
  unfold State.endRun
  cases position : s.ld.position with
  | none => exact ⟨BusKept.refl s, fun h => absurd rfl h⟩
  | some p =>
    refine ⟨?_, fun _ => ⟨rfl, rfl, rfl⟩⟩
    have first : BusKept s (if p.phase.connected then s.abortAntenna p (s.planAt p.index).byDrive else s) := by
      split
      · exact (BusKept.refl s).abortAntenna _ _
      · exact BusKept.refl s
    dsimp only
    generalize (if p.phase.connected then s.abortAntenna p (s.planAt p.index).byDrive else s) = b at first ⊢
    have second : BusKept s (if p.phase = .selfCheck then
        b.setDiag { b.ld with measurement := b.ld.measurement.map fun m => { m with discard := true } } else b) := by
      split
      · exact first.discardMeasurement
      · exact first
    generalize (if p.phase = .selfCheck then
        b.setDiag { b.ld with measurement := b.ld.measurement.map fun m => { m with discard := true } } else b) = c at second ⊢
    have ended (d : State) : BusKept d ((d.setDiag { d.ld with run := .ending, outcome := some o, position := none }).postOnce .diag) :=
      BusKept.postOnce (s := d) (u := d.setDiag { d.ld with run := .ending, outcome := some o, position := none })
        ⟨rfl, rfl, rfl, id, fun _ h => h⟩ .diag
    cases c.ld.closedSwitch with
    | none => exact second.trans (ended c)
    | some a => exact (second.trans (BusKept.requests (c.requestMotion_requests (testSwitch a) .opened .diagRun 2))).trans (ended _)

/-! ## The bus fault -/

/-- The bus fault set: every check in the queue is answered WAIVED. -/
theorem State.setBusFault_answers (s : State) (c : BusFaultCause) : ∃ ns, s.setBusFault c =
      { s with ld := { s.ld with busFault := some (c, s.tb.elapsed), preUseQueue := [] }, notices := ns } ∧
    (∀ n ∈ s.notices, n ∈ ns) ∧ ∀ q ∈ s.ld.preUseQueue, .preUse q.1 q.2 none ∈ ns := by
  have walk : ∀ (qs : List (Nat × Nat)) (u : State), ∃ ns, qs.foldl (fun s q => s.post (.preUse q.1 q.2 none)) u = { u with notices := ns } ∧
      (∀ n ∈ u.notices, n ∈ ns) ∧ ∀ q ∈ qs, .preUse q.1 q.2 none ∈ ns := by
    intro qs
    induction qs with
    | nil => exact fun u => ⟨u.notices, rfl, fun _ h => h, fun _ h => absurd h List.not_mem_nil⟩
    | cons q qs ih =>
      intro u
      obtain ⟨ns, posted, held, answers⟩ := ih (u.post (.preUse q.1 q.2 none))
      refine ⟨ns, posted, fun n hn => held n (List.mem_append_left _ hn), fun r hr => ?_⟩
      rcases List.mem_cons.mp hr with rfl | later
      · exact held _ (List.mem_append_right _ (List.mem_singleton_self _))
      · exact answers r later
  exact walk s.ld.preUseQueue (s.setDiag { s.ld with busFault := some (c, s.tb.elapsed), preUseQueue := [] })

/-- What a measurement that has ended TIMEOUT leaves. -/
structure Lost (s u : State) : Prop where
  measurement : u.ld.measurement = none
  busFault : u.ld.busFault = some (.timeout, s.tb.elapsed)
  queue : u.ld.preUseQueue = []
  waived : ∀ q ∈ s.ld.preUseQueue, .preUse q.1 q.2 none ∈ u.notices
  ended : s.ld.preUse = none → s.ld.run = .active → s.ld.position ≠ none →
    u.ld.run = .ending ∧ u.ld.outcome = some .busFault ∧ u.ld.position = none
  service : ∀ x, s.ld.preUse = some x → .preUse x.tx x.antenna none ∈ u.notices ∧ u.ld.preUse = some { x with phase := .opening }

theorem State.measurementLost_lost (s : State) : Lost s s.measurementLost := by
  obtain ⟨ns, set, -, waived⟩ := s.answered.setBusFault_answers .timeout
  have folded : (s.setDiag { s.ld with measurement := none }).setBusFault .timeout = s.answered.setBusFault .timeout := rfl
  have service : (s.answered.setBusFault .timeout).ld.preUse = s.ld.preUse := by rw [set]; rfl
  have run : (s.answered.setBusFault .timeout).ld.run = s.ld.run := by rw [set]; rfl
  have position : (s.answered.setBusFault .timeout).ld.position = s.ld.position := by rw [set]; rfl
  have fault : (s.answered.setBusFault .timeout).ld.busFault = some (.timeout, s.tb.elapsed) := by rw [set]; rfl
  have queue : (s.answered.setBusFault .timeout).ld.preUseQueue = [] := by rw [set]
  have measurement : (s.answered.setBusFault .timeout).ld.measurement = none := by rw [set]; rfl
  have answers : ∀ q ∈ s.ld.preUseQueue, .preUse q.1 q.2 none ∈ (s.answered.setBusFault .timeout).notices := by rw [set]; exact waived
  unfold State.measurementLost
  dsimp only
  rw [folded]
  generalize s.answered.setBusFault .timeout = w at *
  have lost {u : State} (kept : BusKept w u) : u.ld.measurement = none ∧ u.ld.busFault = some (.timeout, s.tb.elapsed) ∧
      u.ld.preUseQueue = [] ∧ ∀ q ∈ s.ld.preUseQueue, .preUse q.1 q.2 none ∈ u.notices :=
    ⟨kept.measurement measurement, kept.busFault.trans fault, kept.queue.trans queue, fun q hq => kept.notices _ (answers q hq)⟩
  cases served : s.ld.preUse with
  | some x =>
    rw [served] at service
    simp only [service]
    have asked := ((w.post (.preUse x.tx x.antenna none)).setDiag { w.ld with preUse := some { x with phase := .opening } }).requestMotion_requests
      (testSwitch x.antenna) .opened .diagPreUse 5
    obtain ⟨o, ho⟩ : ∃ o, ((w.post (.preUse x.tx x.antenna none)).setDiag { w.ld with
      preUse := some { x with phase := .opening } }).requestMotion (testSwitch x.antenna) .opened .diagPreUse 5 = o := ⟨_, rfl⟩
    rw [ho] at asked
    have opened : (w.post (.preUse x.tx x.antenna none)).openPreUse x = o := ho
    rw [opened]
    have ld : o.ld = { w.ld with preUse := some { x with phase := .opening } } := asked.ld
    have notices (n : Notice) (hn : n ∈ w.notices ∨ n = .preUse x.tx x.antenna none) : n ∈ (o.postOnce .diag).notices :=
      mem_addOnce (asked.notices (List.mem_append.mpr (hn.imp id fun e => List.mem_singleton.mpr e)))
    refine ⟨by rw [State.postOnce_ld, ld]; exact measurement, by rw [State.postOnce_ld, ld]; exact fault,
      by rw [State.postOnce_ld, ld]; exact queue, fun q hq => notices _ (.inl (answers q hq)), 
      fun none => absurd (served.symm.trans none) (Option.some_ne_none x), fun y hy => ?_⟩
    obtain rfl := Option.some.inj (served.symm.trans hy)
    exact ⟨notices _ (.inr rfl), by rw [State.postOnce_ld, ld]⟩
  | none =>
    rw [served] at service
    simp only [service]
    rw [run]
    split
    next active =>
      obtain ⟨kept, ends⟩ := w.endRun_kept .busFault
      obtain ⟨h1, h2, h3, h4⟩ := lost (kept.postOnce .diag)
      exact ⟨h1, h2, h3, h4, fun _ _ some => ends (by rw [position]; exact some), fun x hx => absurd (served.symm.trans hx) (Option.some_ne_none x).symm⟩
    next idle =>
      obtain ⟨h1, h2, h3, h4⟩ := lost ((BusKept.refl w).postOnce .diag)
      exact ⟨h1, h2, h3, h4, fun _ active => absurd active idle, fun x hx => absurd (served.symm.trans hx) (Option.some_ne_none x).symm⟩

theorem exec_measurementTimeout {m : Measurement} (outstanding : s.ld.measurement = some m) :
    exec .measurementTimeout s = .next (s.reach (m.sentAt + 10000)).measurementLost.settled := by
  show execMeasurementTimeout s = _
  simp only [execMeasurementTimeout, outstanding]

end

/-- Settles O58. -/
theorem bus_results_and_timeouts_end_the_measurement : Obligations.bus_results_and_timeouts_end_the_measurement := by
  refine ⟨fun tag s sized => ⟨exec_busResult_disregarded, fun m p outstanding same service position switch phase order => ⟨?_, fun queue => ?_⟩,
    fun m p e outstanding same stands service position phase inside he h1 h24 => ⟨fun step order insul => ?_, fun step order defined => ?_⟩⟩,
    fun m s outstanding later => ?_⟩
  · rw [exec_busResult outstanding same (by rw [order]; rfl), (State.measurementAnswered_selfCheck service position phase).1]
    rfl
  · have faulted : s.answered.setBusFault .selfCheck = s.answered.setDiag { s.answered.ld with busFault := some (.selfCheck, s.tb.elapsed) } :=
      State.setBusFault_unqueued (s := s.answered) queue .selfCheck
    have ended := State.endRun_unconnected (s := s.answered.setDiag { s.answered.ld with busFault := some (.selfCheck, s.tb.elapsed) }) (p := p)
      (o := .busFault) position (by rw [phase]; rfl) switch
    rw [exec_busResult outstanding same (by rw [order]; rfl), (State.measurementAnswered_selfCheck service position phase).2, faulted, ended,
      State.postOnce_postOnce, if_pos phase]
    rfl
  · subst he
    have recorded := State.stepResult_loopPass (s := s.answered) inside insul
    have proceeds := (Proceeds.refl (s.answered.stepResult p.index p.step .pass)).stepsGoOn 8 p true
    obtain ⟨cleared, others⟩ := unchecked_removed (s.faultSet (s.planAt p.index).antenna)
    have faults : (s.answered.stepResult p.index p.step .pass).faultSet (s.planAt p.index).antenna =
        s.faultSet (s.planAt p.index).antenna &&& ~~~ FaultFlag.unchecked.mask := by
      rw [step, recorded]
      exact State.faultSet_removed (s.answered.setPlan p.index ((s.planAt p.index).setResult .loop .pass)) _ _
    have loop : ((s.answered.stepResult p.index p.step .pass).planAt p.index).loop = some .pass := by
      rw [step, recorded]
      exact congrArg PlanEntry.loop (State.planAt_setPlan_self (s := s.answered) inside _)
    have after : ((State.stepsGoOn 8 (s.answered.stepResult p.index p.step .pass) p true).postOnce .diag).faultSet
        (s.planAt p.index).antenna = (s.answered.stepResult p.index p.step .pass).faultSet (s.planAt p.index).antenna :=
      State.faultSet_congr proceeds.faults _
    refine ⟨_, by rw [exec_busResult outstanding same (by rw [order]; rfl),
      State.measurementAnswered_step service position phase (.inl order) stands], ?_, ?_, fun k hk => ?_⟩
    · rw [after, faults]
      exact cleared
    · exact (proceeds.loop p.index).trans loop
    · rw [after, faults]
      exact others k hk
  · subst he
    obtain ⟨flag, failed⟩ := State.stepResult_insulFail (s := s.answered) sized inside h1 h24 defined
    have proceeds := (Proceeds.refl (s.answered.stepResult p.index p.step .fail)).stepsGoOn 8 p true
    rw [step] at proceeds
    refine ⟨_, by rw [exec_busResult outstanding same (by rw [order]; rfl),
      State.measurementAnswered_step service position phase (.inr order) stands, step], ?_, ?_⟩
    · have after : ((State.stepsGoOn 8 (s.answered.stepResult p.index .insul .fail) p true).postOnce .diag).faultSet
          (s.planAt p.index).antenna = (s.answered.stepResult p.index .insul .fail).faultSet (s.planAt p.index).antenna :=
        State.faultSet_congr proceeds.faults _
      rw [after]
      exact flag
    · exact (proceeds.insul p.index).trans failed
  · obtain ⟨measurement, fault, queue, waived, ended, served⟩ := State.measurementLost_lost (s.reach (m.sentAt + 10000))
    have clock : (s.reach (m.sentAt + 10000)).measurementLost.clock = m.sentAt + 10000 :=
      (congrArg Kept.clock (State.measurementLost_handed (Handed.refl (s.reach (m.sentAt + 10000)))).kept).trans (Nat.max_eq_right later)
    exact ⟨_, exec_measurementTimeout outstanding, clock, measurement, fault, queue, waived, ended, served⟩

end Sys2Proof.Machine

/-! # What every hand-over leaves in bounds and by right

`Stays b s` says of a state `s` that follows from `b`: its work list, trip histories and changeover leads are in bounds when those of
`b` are (R41, R169, R82), its status table is exclusive when that of `b` is (R114, R115), it has no more slots in use than `b` or than
motion_slots (R110), and a line that stands by right in `b`, or is about to be tested again, does so in `s` (R124 to R127). It is a
preorder; every plain update of a block keeps it under a condition on the parts it names. O59 and O60 are read off it. -/

namespace Sys2Proof.Machine

open Sys2Proof

-- Each default proof of a field waits for all the text before it; in order, no theorem holds a thread while it does.
set_option Elab.async false

/-! ## The bounds -/

/-- A changeover's lead is 600 s at most, and X is Ps with the lead (R82, R83). -/
def Changeover.Led (c : Changeover) : Prop := c.leadS ≤ 600 ∧ c.x = c.ps + c.leadS

/-- Every changeover record is led. -/
def State.Led (s : State) : Prop := ∀ k c, s.change k = some c → c.Led

/-- Every trip history holds three instants at most (R169). -/
def State.ShortHistories (s : State) : Prop := ∀ k, (s.prot k).history.length ≤ 3

/-- One antenna's entries of the status table exclude each other (R114, R115). -/
def AntennaClaims.Exclusive (c : AntennaClaims) : Prop :=
  (∀ t, c.occupant = some t → c.reservation ≠ some t) ∧ (c.testClaim = true → c.occupant = none ∧ c.reservation = none)

/-- The conditions of R124 are about to be tested again: by a notice to the Permit Unit, or by one to the Matrix Controller, whose
derivation asks for the test. -/
def State.TestsWait (s : State) : Prop := .permits ∈ s.notices ∨ .matrix ∈ s.notices

/-- The line of row `r` stands by right, or is about to be tested. -/
def State.Rightful (s : State) (r : Nat) : Prop := s.TestsWait ∨ ((s.permit r).line = true → s.Permitted r)

/-- What is in bounds stays so, and slots in use stay within those there were and motion_slots. -/
structure Bounds (b s : State) : Prop where
  sized : b.sized → s.sized := by exact id
  work : b.ss.work.length ≤ 8 → s.ss.work.length ≤ 8 := by exact id
  histories : b.ShortHistories → s.ShortHistories := by exact id
  led : b.Led → s.Led := by exact id
  exclusive : b.Exclusive → s.Exclusive := by exact id
  slotLimit : s.params.motionSlots = b.params.motionSlots := by rfl
  slots : s.slotsInUse ≤ max b.slotsInUse b.params.motionSlots := by exact Nat.le_max_left _ _

/-- `s` grants a row every condition and request that `b` does (R124, R127). -/
structure Grounds (b s : State) : Prop where
  counts : s.params.txCount = b.params.txCount ∧ s.params.antCount = b.params.antCount := by exact ⟨rfl, rfl⟩
  opened : ∀ m, b.isOpen m = true → s.isOpen m = true := by exact fun _ h => h
  closed : ∀ m, s.isClosed m = b.isClosed m := by exact fun _ => rfl
  rest : ∀ m, b.atRest m = true → s.atRest m = true := by exact fun _ h => h
  rowFault : ∀ r, b.rowFault r = [] → s.rowFault r = [] := by exact fun _ h => h
  faults : ∀ a, b.faultSet a = 0 → s.faultSet a = 0 := by exact fun _ h => h
  arcs : ∀ a, b.arcHold a = none → s.arcHold a = none := by exact fun _ h => h
  safety : ∀ r, b.safetyHolds r = true → s.safetyHolds r = true := by exact fun _ h => h
  request : ∀ r, (b.seq r).requesting = true → (s.seq r).requesting = true := by exact fun _ h => h
  link : ∀ r, (b.seq r).link ≠ .lost → (s.seq r).link ≠ .lost := by exact fun _ h => h
  lockout : ∀ r, (b.prot r).lockout = false → (s.prot r).lockout = false := by exact fun _ h => h

/-- The bounds, and the lines by right. -/
structure Stays (b s : State) : Prop extends Bounds b s where
  rightful : b.sized → ∀ r, 1 ≤ r → r ≤ 12 → b.Rightful r → s.Rightful r

variable {base b s t : State}

theorem State.exclusive_iff : s.Exclusive ↔ ∀ a, (s.claim a).Exclusive := Iff.rfl

theorem Bounds.refl (s : State) : Bounds s s := {}

theorem Bounds.trans (h : Bounds b s) (k : Bounds s t) : Bounds b t where
  sized := k.sized ∘ h.sized
  work := k.work ∘ h.work
  histories := k.histories ∘ h.histories
  led := k.led ∘ h.led
  exclusive := k.exclusive ∘ h.exclusive
  slotLimit := k.slotLimit.trans h.slotLimit
  slots := by
    have hs := h.slots
    have ks := k.slots
    rw [h.slotLimit] at ks
    omega

theorem Stays.refl (s : State) : Stays s s := { rightful := fun _ _ _ _ h => h }

theorem Stays.trans (h : Stays b s) (k : Stays s t) : Stays b t where
  toBounds := h.toBounds.trans k.toBounds
  rightful sized r h1 h12 hr := k.rightful (h.sized sized) r h1 h12 (h.rightful sized r h1 h12 hr)

/-- When the lines are about to be tested, the bounds are enough. -/
theorem Stays.of_tests (h : Bounds b s) (tests : s.TestsWait) : Stays b s := { toBounds := h, rightful := fun _ _ _ _ _ => .inl tests }

/-- What stands by right stands so on the same grounds. -/
theorem State.Permitted.mono {r : Nat} (h : b.Permitted r) (g : Grounds b s) : s.Permitted r := by
  obtain ⟨tx, ant⟩ := g.counts
  have row : s.rowMovers r = b.rowMovers r := by simp only [State.rowMovers, tx, ant]
  have column (a : Nat) : s.columnMovers a = b.columnMovers a := by simp only [State.columnMovers, tx, ant]
  refine ⟨(Sequencer.requesting_iff _).mp (g.request r ((Sequencer.requesting_iff _).mpr h.request)), ?_, ?_, g.rowFault r h.rowFault, ?_,
    State.safetyHolds_iff.mp (g.safety r (State.safetyHolds_iff.mpr h.safety)), g.link r h.link, g.lockout r h.lockout⟩
  · obtain ⟨m, mem, closed, others⟩ := h.route
    exact ⟨m, row ▸ mem, (g.closed m).trans closed, fun k hk ne => g.opened k (others k (row ▸ hk) ne)⟩
  · exact fun m hm => g.rest m (h.atRest m (row ▸ hm))
  · intro a h1 ha ht closed
    obtain ⟨others, test, slew, reverser, fault, arc⟩ := h.column a h1 (ant ▸ ha) (tx ▸ ht) (g.closed _ ▸ closed)
    exact ⟨fun m hm ne => g.opened m (others m (column a ▸ hm) ne), g.opened _ test, g.rest _ slew, g.rest _ reverser, g.faults a fault,
      g.arcs a arc⟩

/-- A step on the same grounds that lets no line rise and takes no notice away. -/
theorem Stays.of_grounds (bounds : Bounds b s := by exact {}) (grounds : Grounds b s := by exact {})
    (lines : ∀ r, (s.permit r).line = true → (b.permit r).line = true := by exact fun _ h => h)
    (notices : ∀ n, n ∈ b.notices → n ∈ s.notices := by exact fun _ h => h) : Stays b s where
  toBounds := bounds
  rightful _ r _ _ h := h.imp (Or.imp (notices _) (notices _)) fun stands line => (stands (lines r line)).mono grounds

theorem Bounds.foldl {α : Type} {f : State → α → State} (hf : ∀ s x, Bounds base s → Bounds base (f s x)) (xs : List α) (s : State)
    (h : Bounds base s) : Bounds base (xs.foldl f s) := by
  induction xs generalizing s with
  | nil => exact h
  | cons x xs ih => exact ih _ (hf s x h)

theorem Stays.foldl {α : Type} {f : State → α → State} (hf : ∀ s x, Stays base s → Stays base (f s x)) (xs : List α) (s : State)
    (h : Stays base s) : Stays base (xs.foldl f s) := by
  induction xs generalizing s with
  | nil => exact h
  | cons x xs ih => exact ih _ (hf s x h)

/-- A fold over a pair whose first component is the state. -/
theorem Stays.foldl_fst {α β : Type} {f : State × β → α → State × β} (hf : ∀ p x, Stays base p.1 → Stays base (f p x).1) (xs : List α)
    (p : State × β) (h : Stays base p.1) : Stays base (xs.foldl f p).1 := by
  induction xs generalizing p with
  | nil => exact h
  | cons x xs ih => exact ih _ (hf p x h)

/-! ## Tables -/

/-- An item of a table with one item replaced is that one or the old one. -/
theorem nth_setNth_of {α : Type} {p : α → Prop} {xs : List α} {d v : α} {n k : Nat} (new : k = n → p v) (old : p (nth xs d k)) :
    p (nth (setNth xs n v) d k) := by
  by_cases here : k = n
  · subst here
    by_cases inside : 1 ≤ k ∧ k ≤ xs.length
    · rw [nth_setNth_self _ _ _ _ inside.1 inside.2]
      exact new rfl
    · have unchanged : setNth xs k v = xs := by
        unfold setNth
        split
        · rfl
        · exact List.set_eq_of_length_le (by omega)
      rwa [unchanged]
  · rwa [nth_setNth_ne _ _ _ _ _ here]

/-! ## Notices and alerts -/

theorem Stays.post (h : Stays base s) (n : Notice) : Stays base (s.post n) :=
  h.trans (.of_grounds (notices := fun _ hn => List.mem_append_left _ hn))

theorem mem_addOnce_left {α : Type} [DecidableEq α] {xs : List α} {x y : α} (h : y ∈ xs) : y ∈ addOnce xs x := by
  unfold addOnce
  split
  · exact h
  · exact List.mem_append_left _ h

theorem mem_addOnce_self {α : Type} [DecidableEq α] (xs : List α) (x : α) : x ∈ addOnce xs x := by
  unfold addOnce
  split
  · assumption
  · exact List.mem_append_right _ (List.mem_singleton_self x)

theorem Stays.postOnce (h : Stays base s) (n : Notice) : Stays base (s.postOnce n) :=
  h.trans (.of_grounds (notices := fun _ hn => mem_addOnce_left hn))

theorem Bounds.post (h : Bounds base s) (n : Notice) : Bounds base (s.post n) := h.trans {}
theorem Bounds.postOnce (h : Bounds base s) (n : Notice) : Bounds base (s.postOnce n) := h.trans {}

/-- The Permit Unit is told. -/
theorem Stays.postOnce_permits (h : Bounds base s) : Stays base (s.postOnce .permits) :=
  .of_tests (h.postOnce _) (.inl (mem_addOnce_self _ _))

/-- The Matrix Controller is told. -/
theorem Stays.postOnce_matrix (h : Bounds base s) : Stays base (s.postOnce .matrix) :=
  .of_tests (h.postOnce _) (.inr (mem_addOnce_self _ _))

theorem Stays.alert (h : Stays base s) (f : Alert) : Stays base (s.alert f) := h.trans .of_grounds

theorem Stays.answer (h : Stays base s) (k : Nat) (status : Status) (body : List Byte) : Stays base (s.answer k status body) :=
  h.trans .of_grounds

theorem Stays.hold (h : Stays base s) (k : Nat) : Stays base (s.hold k) := h.trans .of_grounds

theorem Stays.withLink (h : Stays base s) (l : LinkController) : Stays base { s with lc := l } := h.trans .of_grounds

theorem Stays.reach (h : Stays base s) (m : Nat) : Stays base (s.reach m) := h.trans .of_grounds

theorem Stays.setTime (h : Stays base s) (x : TimeBase) : Stays base (s.setTime x) := h.trans .of_grounds

/-! ## Sequencers and protection -/

theorem State.setSeq_sizes (s : State) (k : Nat) (q : Sequencer) : (s.setSeq k q).sizes = s.sizes := by
  simp [State.sizes, Matrix.sizes, Executor.sizes, PresetCache.sizes, State.setSeq]

theorem Bounds.setSeq (h : Bounds base s) (k : Nat) (q : Sequencer) : Bounds base (s.setSeq k q) :=
  h.trans { sized := State.sized_of_sizes (s.setSeq_sizes k q) }

/-- A sequencer keeps its request and its link, where the line rests on them. -/
theorem Stays.setSeq (h : Stays base s) (k : Nat) (q : Sequencer)
    (request : (s.seq k).requesting = true → q.requesting = true := by exact id)
    (link : (s.seq k).link ≠ .lost → q.link ≠ .lost := by exact id) : Stays base (s.setSeq k q) :=
  h.trans (.of_grounds ((Bounds.refl s).setSeq k q)
    { request := fun r hr => nth_setNth_of (p := fun (q : Sequencer) => q.requesting = true) (fun e => request (e ▸ hr)) hr
      link := fun r hr => nth_setNth_of (p := fun (q : Sequencer) => q.link ≠ .lost) (fun e => link (e ▸ hr)) hr })

theorem State.setProt_sizes (s : State) (k : Nat) (p : Protection) : (s.setProt k p).sizes = s.sizes := by
  simp [State.sizes, Matrix.sizes, Executor.sizes, PresetCache.sizes, State.setProt]

theorem Bounds.setProt (h : Bounds base s) (k : Nat) (p : Protection)
    (history : (s.prot k).history.length ≤ 3 → p.history.length ≤ 3 := by exact id) : Bounds base (s.setProt k p) :=
  h.trans {
    sized := State.sized_of_sizes (s.setProt_sizes k p)
    histories := fun hs r => nth_setNth_of (p := fun (x : Protection) => x.history.length ≤ 3) (fun e => history (e ▸ hs r)) (hs r) }

/-- A protection record keeps its history in bounds, and is no lockout's that it was not before. -/
theorem Stays.setProt (h : Stays base s) (k : Nat) (p : Protection)
    (history : (s.prot k).history.length ≤ 3 → p.history.length ≤ 3 := by exact id)
    (lockout : (s.prot k).lockout = false → p.lockout = false := by exact id) : Stays base (s.setProt k p) :=
  h.trans (.of_grounds ((Bounds.refl s).setProt k p history)
    { lockout := fun r hr => nth_setNth_of (p := fun (x : Protection) => x.lockout = false) (fun e => lockout (e ▸ hr)) hr })

theorem Stays.setArcRecord (h : Stays base s) (a : Nat) (r : ArcRecord) : Stays base (s.setArcRecord a r) :=
  h.trans (.of_grounds { sized := State.sized_of_sizes (by
    simp [State.sizes, Matrix.sizes, Executor.sizes, PresetCache.sizes, State.setArcRecord]) })

/-! ## Permits -/

theorem State.setPermit_sizes (s : State) (r : Nat) (p : PermitRow) : (s.setPermit r p).sizes = s.sizes := by
  simp [State.sizes, Matrix.sizes, Executor.sizes, PresetCache.sizes, State.setPermit]

/-- A permit row whose line does not rise. -/
theorem Stays.setPermit (h : Stays base s) (k : Nat) (p : PermitRow)
    (line : p.line = true → (s.permit k).line = true := by exact id) : Stays base (s.setPermit k p) :=
  h.trans (.of_grounds { sized := State.sized_of_sizes (s.setPermit_sizes k p) }
    (lines := fun r => nth_setNth_of (p := fun (x : PermitRow) => x.line = true → (s.permit r).line = true) (fun e => e ▸ line) id))

theorem State.setArcHold_sizes (s : State) (a : Nat) (d : Option Nat) : (s.setArcHold a d).sizes = s.sizes := by
  simp [State.sizes, Matrix.sizes, Executor.sizes, PresetCache.sizes, State.setArcHold]

theorem Bounds.setArcHold (h : Bounds base s) (a : Nat) (d : Option Nat) : Bounds base (s.setArcHold a d) :=
  h.trans { sized := State.sized_of_sizes (s.setArcHold_sizes a d) }

theorem Bounds.setInput (h : Bounds base s) (n : Nat) (i : SafetyInput) : Bounds base (s.setInput n i) :=
  h.trans { sized := State.sized_of_sizes (by simp [State.sizes, State.setInput, Matrix.sizes, Executor.sizes]) }

/-! ## The matrix -/

/-- A mover's record in place of another holds no slot that it did not, and is confirmed and at REST wherever it was. -/
structure Mover.Yields (x y : Mover) : Prop where
  slot : y.inMotion = true → x.inMotion = true := by exact id
  position : y.confirmedAt = x.confirmedAt := by rfl
  rest : x.atRestSound = true → y.atRestSound = true := by exact id

theorem State.setMover_sizes (s : State) (m : Nat) (x : Mover) : (s.setMover m x).sizes = s.sizes := by
  simp [State.sizes, Matrix.sizes, Executor.sizes, PresetCache.sizes, State.setMover]

theorem filter_set_length {α : Type} {p : α → Bool} (xs : List α) (i : Nat) (v : α) (h : ∀ hi : i < xs.length, p v = true → p xs[i] = true) :
    ((xs.set i v).filter p).length ≤ (xs.filter p).length := by
  induction xs generalizing i with
  | nil => simp
  | cons x xs ih =>
    cases i with
    | zero =>
      have := h (by simp)
      simp only [List.set_cons_zero, List.filter_cons, List.getElem_cons_zero] at this ⊢
      split <;> split <;> simp_all
    | succ i =>
      have := ih i fun hi => h (Nat.succ_lt_succ hi)
      simp only [List.set_cons_succ, List.filter_cons]
      split <;> simp [this]

/-- A mover that holds no new slot. -/
theorem State.setMover_slots {m : Nat} {x : Mover} (slot : x.inMotion = true → (s.mover m).inMotion = true) :
    (s.setMover m x).slotsInUse ≤ s.slotsInUse := by
  show ((setNth s.mc.movers m x).filter Mover.inMotion).length ≤ _
  unfold setNth
  split
  · exact le_rfl
  next pos =>
    refine filter_set_length _ _ _ fun hi hx => ?_
    have moving := slot hx
    simp only [State.mover, nth, if_neg pos, List.getD_eq_getElem?_getD, List.getElem?_eq_getElem hi, Option.getD_some] at moving
    exact moving

theorem Bounds.setMover (h : Bounds base s) (m : Nat) (x : Mover)
    (slot : x.inMotion = true → (s.mover m).inMotion = true := by exact id) : Bounds base (s.setMover m x) :=
  h.trans { sized := State.sized_of_sizes (s.setMover_sizes m x), slots := (State.setMover_slots slot).trans (Nat.le_max_left _ _) }

/-- What a mover is confirmed at and whether it is at REST decide what the Permit Unit sees of it. -/
theorem Grounds.movers (ht : s.ht = b.ht) (position : ∀ m, (s.mover m).confirmedAt = (b.mover m).confirmedAt)
    (rest : ∀ m, (b.mover m).atRestSound = true → (s.mover m).atRestSound = true)
    (rowFault : ∀ r, b.rowFault r = [] → s.rowFault r = []) (pu : s.pu = b.pu) (tq : s.tq = b.tq) (pt : s.pt = b.pt)
    (ld : s.ld = b.ld) : Grounds b s := by
  have ant (a : Nat) : s.ant a = b.ant a := by simp only [State.ant, ht]
  have present (m : Nat) : s.present m = b.present m := by
    simp only [State.present, State.params, ant, ht]
    rfl
  exact {
    counts := by simp only [State.params, ht, and_self]
    opened := fun m h => by simpa only [State.isOpen, present, position] using h
    closed := fun m => by simp only [State.isClosed, present, position]
    rest := fun m h => by
      simp only [State.atRest, present, Bool.or_eq_true] at h ⊢
      exact h.imp id (rest m)
    rowFault := rowFault
    faults := fun a h => by rwa [State.faultSet, ld]
    arcs := fun a h => by rwa [State.arcHold, pu]
    safety := fun r h => by simpa only [State.safetyHolds, pu] using h
    request := fun r h => by rwa [State.seq, tq]
    link := fun r h => by rwa [State.seq, tq]
    lockout := fun r h => by rwa [State.prot, pt] }

theorem Stays.setMover (h : Stays base s) (m : Nat) (x : Mover) (yields : (s.mover m).Yields x := by exact {}) :
    Stays base (s.setMover m x) :=
  h.trans (.of_grounds ((Bounds.refl s).setMover m x yields.slot)
    (.movers rfl
      (fun k => nth_setNth_of (p := fun (y : Mover) => y.confirmedAt = (s.mover k).confirmedAt) (fun e => by rw [yields.position, e]) rfl)
      (fun k hk => nth_setNth_of (p := fun (y : Mover) => y.atRestSound = true) (fun e => yields.rest (e ▸ hk)) hk)
      (fun _ h => h) rfl rfl rfl rfl))

theorem State.setClaim_sizes (s : State) (a : Nat) (c : AntennaClaims) : (s.setClaim a c).sizes = s.sizes := by
  simp [State.sizes, Matrix.sizes, Executor.sizes, PresetCache.sizes, State.setClaim]

/-- An antenna's entries are written. -/
theorem Stays.setClaim (h : Stays base s) (a : Nat) (c : AntennaClaims) (exclusive : (s.claim a).Exclusive → c.Exclusive) :
    Stays base (s.setClaim a c) :=
  h.trans (.of_grounds
    { sized := State.sized_of_sizes (s.setClaim_sizes a c)
      exclusive := fun hs => State.exclusive_iff.mpr fun k =>
        nth_setNth_of (fun e => exclusive (e ▸ State.exclusive_iff.mp hs k)) (State.exclusive_iff.mp hs k) })

theorem State.setRowFault_sizes (s : State) (r : Nat) (c : List RowCause) : (s.setRowFault r c).sizes = s.sizes := by
  simp [State.sizes, Matrix.sizes, Executor.sizes, PresetCache.sizes, State.setRowFault]

theorem Bounds.setRowFault (h : Bounds base s) (r : Nat) (c : List RowCause) : Bounds base (s.setRowFault r c) :=
  h.trans { sized := State.sized_of_sizes (s.setRowFault_sizes r c) }

theorem Stays.setRowFault (h : Stays base s) (r : Nat) (c : List RowCause) (free : s.rowFault r = [] → c = []) :
    Stays base (s.setRowFault r c) :=
  h.trans (.of_grounds ((Bounds.refl s).setRowFault r c)
    { rowFault := fun k hk => nth_setNth_of (p := fun x => x = []) (fun e => free (e ▸ hk)) hk })

/-- The age counter, the halt list and the survey are no part of it. -/
theorem Stays.withMatrix (h : Stays base s) {x : Matrix} (movers : x.movers = s.mc.movers) (rowFaults : x.rowFaults = s.mc.rowFaults)
    (claims : x.claims = s.mc.claims) : Stays base { s with mc := x } :=
  h.trans (.of_grounds
    { sized := State.sized_of_sizes (by simp only [State.sizes, Matrix.sizes, movers, rowFaults, claims])
      exclusive := fun hs a => by simpa only [State.claim, claims] using hs a
      slots := by simp only [State.slotsInUse, movers]; exact Nat.le_max_left _ _ }
    (.movers rfl (fun m => by simp only [State.mover, movers]) (fun m hm => by simpa only [State.mover, movers] using hm)
      (fun r hr => by simpa only [State.rowFault, rowFaults] using hr) rfl rfl rfl rfl))

/-! ## The executor -/

theorem State.setDuty_sizes (s : State) (k : Nat) (d : Duty) : (s.setDuty k d).sizes = s.sizes := by
  simp [State.sizes, Matrix.sizes, Executor.sizes, PresetCache.sizes, State.setDuty]

theorem Stays.setDuty (h : Stays base s) (k : Nat) (d : Duty) : Stays base (s.setDuty k d) :=
  h.trans (.of_grounds { sized := State.sized_of_sizes (s.setDuty_sizes k d) })

theorem State.setChange_sizes (s : State) (k : Nat) (c : Option Changeover) : (s.setChange k c).sizes = s.sizes := by
  simp [State.sizes, Matrix.sizes, Executor.sizes, PresetCache.sizes, State.setChange]

/-- A changeover record that is led, or none, is written. -/
theorem Stays.setChange (h : Stays base s) (k : Nat) (c : Option Changeover) (led : base.Led → ∀ x, c = some x → x.Led) :
    Stays base (s.setChange k c) :=
  { toBounds := { h.toBounds with
      sized := fun hs => State.sized_of_sizes (s.setChange_sizes k c) (h.sized hs)
      led := fun hs r => nth_setNth_of (p := fun (y : Option Changeover) => ∀ x, y = some x → x.Led) (fun _ => led hs) (h.led hs r) }
    rightful := fun sized r h1 h12 hr => (h.rightful sized r h1 h12 hr).imp id fun stands line => (stands line).mono {} }

end Sys2Proof.Machine

/-! # What stays across updates of the other blocks -/

namespace Sys2Proof.Machine

open Sys2Proof

set_option Elab.async false

variable {base b s t : State}

theorem Stays.withExecutor (h : Stays base s) {x : Executor} (changeovers : x.changeovers = s.se.changeovers)
    (sizes : x.sizes = s.se.sizes) : Stays base { s with se := x } :=
  h.trans (.of_grounds
    { sized := State.sized_of_sizes (by simp only [State.sizes, sizes])
      led := fun hs k c hc => hs k c (by simpa only [State.change, changeovers] using hc) })

theorem Stays.setLastChecked (h : Stays base s) (a : Nat) (d : Option Nat) : Stays base (s.setLastChecked a d) :=
  h.trans (.of_grounds { sized := State.sized_of_sizes (by
    simp [State.sizes, Matrix.sizes, Executor.sizes, PresetCache.sizes, State.setLastChecked, Diagnostics.sizes]) })

theorem Stays.setPresetSet (h : Stays base s) (k n : Nat) (x : PresetSet) : Stays base (s.setPresetSet k n x) :=
  h.trans (.of_grounds { sized := State.sized_of_sizes (by
    simp [State.sizes, PresetCache.sizes, State.setPresetSet, setNth_set_lengths]) })

theorem Stays.withCache (h : Stays base s) {x : PresetCache} (sizes : x.sizes = s.pc.sizes) : Stays base { s with pc := x } :=
  h.trans (.of_grounds { sized := State.sized_of_sizes (by simp only [State.sizes, sizes]) })

theorem Stays.setVerifier (h : Stays base s) (v : Option Verifier) : Stays base (s.setVerifier v) := h.trans .of_grounds

theorem Stays.withBooks (h : Stays base s) (x : SeasonBooks) : Stays base { s with sb := x } := h.trans .of_grounds

theorem Stays.setBook (h : Stays base s) (n : Nat) (x : Book) : Stays base (s.setBook n x) := by
  unfold State.setBook
  split
  · exact h.withBooks _
  · exact h.withBooks _

/-- The store, its work list in bounds. -/
theorem Stays.setStore (h : Stays base s) {x : Store} (work : s.ss.work.length ≤ 8 → x.work.length ≤ 8 := by exact id) :
    Stays base (s.setStore x) :=
  h.trans (.of_grounds { work := work })

/-- The diagnostics, but for the fault sets. -/
theorem Stays.setDiag (h : Stays base s) {x : Diagnostics} (faults : x.faults = s.ld.faults)
    (checked : x.lastChecked = s.ld.lastChecked) : Stays base (s.setDiag x) :=
  h.trans (.of_grounds { sized := State.sized_of_sizes (by simp [State.sizes, Diagnostics.sizes, State.setDiag, faults, checked]) }
    { faults := fun a ha => by simpa only [State.faultSet, State.setDiag, faults] using ha })

theorem Bounds.setFaultSet (h : Bounds base s) (a : Nat) (f : FaultSet) : Bounds base (s.setFaultSet a f) :=
  h.trans { sized := State.sized_of_sizes (by
    simp [State.sizes, Matrix.sizes, Executor.sizes, PresetCache.sizes, State.setFaultSet, Diagnostics.sizes]) }

/-- A fault set that is empty where it was. -/
theorem Stays.setFaultSet (h : Stays base s) (a : Nat) (f : FaultSet) (free : s.faultSet a = 0 → f = 0) : Stays base (s.setFaultSet a f) :=
  h.trans (.of_grounds ((Bounds.refl s).setFaultSet a f)
    { faults := fun k hk => nth_setNth_of (p := fun x => x = 0) (fun e => free (e ▸ hk)) hk })

/-- A flag that is added has the lines tested (R124, R194). -/
theorem Stays.addFault (h : Stays base s) (a : Nat) (f : FaultFlag) : Stays base (s.addFault a f) := by
  unfold State.addFault
  split
  · exact h
  · split
    · exact h
    · exact (Stays.postOnce_permits (((h.toBounds.setFaultSet a _).trans (Stays.alert (Stays.refl _) _).toBounds))).post _

end Sys2Proof.Machine

/-! # What stays across the store, the Preset Cache and the books

One lemma for each operation that a hand-over may use, in the order of the model's definitions. -/

namespace Sys2Proof.Machine

open Sys2Proof

set_option Elab.async false

variable {base s : State}

/-- Serving reads is posting notices. -/
theorem State.serving_ss (ws : List WaitingRead) (s : State) : (ws.foldl (fun s w => s.serve w.reader) s).ss = s.ss := by
  induction ws generalizing s with
  | nil => rfl
  | cons w ws ih => exact ih _

theorem State.serve_stays (h : Stays base s) (reader : Reader) : Stays base (State.serve s reader) := by
  unfold State.serve
  repeat' first | with_reducible assumption | with_reducible apply Stays.post

theorem State.serveAll_stays (h : Stays base s) : Stays base s.serveAll := by
  have served : Stays base (s.ss.readWait.foldl (fun s w => s.serve w.reader) s) :=
    Stays.foldl (fun _ w hu => State.serve_stays hu w.reader) _ _ h
  exact served.setStore fun hw => by rwa [State.serving_ss] at hw

theorem State.serveUnheld_stays (h : Stays base s)  : Stays base (State.serveUnheld s) := by
  unfold State.serveUnheld
  dsimp only
  repeat' first
    | with_reducible assumption | with_reducible apply Stays.setStore | with_reducible apply State.serve_stays
    | with_reducible apply Stays.foldl | intro _

theorem State.suspend_stays (h : Stays base s)  : Stays base (State.suspend s) := by
  unfold State.suspend
  dsimp only
  repeat' first | with_reducible assumption | with_reducible apply Stays.setStore | intro _

theorem State.resume_stays (h : Stays base s)  : Stays base (State.resume s) := by
  unfold State.resume
  dsimp only
  repeat' first | with_reducible assumption | with_reducible apply Stays.post | with_reducible apply Stays.setStore | split | intro _

theorem State.waitRead_stays (h : Stays base s) (reader : Reader) (held : Bool) : Stays base (State.waitRead s reader held) := by
  unfold State.waitRead
  dsimp only
  repeat' first | with_reducible assumption | with_reducible apply Stays.setStore | intro _

theorem State.requestRead_stays (h : Stays base s) (reader : Reader) (address length : Nat) :
    Stays base (State.requestRead s reader address length) := by
  unfold State.requestRead
  repeat' first
    | with_reducible assumption | with_reducible apply Stays.post | with_reducible apply State.serve_stays
    | with_reducible apply State.serveUnheld_stays | with_reducible apply State.suspend_stays | with_reducible apply State.waitRead_stays
    | split

theorem State.guardEnds_stays (h : Stays base s)  : Stays base (State.guardEnds s) := by
  unfold State.guardEnds
  dsimp only
  repeat' first
    | with_reducible assumption | with_reducible apply Stays.post | with_reducible apply Stays.setStore
    | with_reducible apply State.serveUnheld_stays | with_reducible apply State.suspend_stays | split | intro _

theorem State.recordFailure_stays (h : Stays base s) (op : StoreOp) (owner : OpOwner) (cause : FailCause) :
    Stays base (State.recordFailure s op owner cause) := by
  unfold State.recordFailure
  dsimp only
  repeat' first | with_reducible assumption | with_reducible apply Stays.setStore | with_reducible apply Stays.alert | intro _

theorem State.itemEnds_stays (h : Stays base s) (kind : ItemKind) (failure : Option FailCause) :
    Stays base (State.itemEnds s kind failure) := by
  unfold State.itemEnds
  dsimp only
  repeat' first | with_reducible assumption | with_reducible apply Stays.post | with_reducible apply Stays.alert | split

theorem State.startOp_stays (h : Stays base s) (op : StoreOp) (owner : OpOwner) : Stays base (State.startOp s op owner) := by
  unfold State.startOp
  dsimp only
  repeat' first | with_reducible assumption | with_reducible apply Stays.setStore | intro _

theorem State.nextWork_stays (h : Stays base s) (n : Nat) : Stays base (State.nextWork n s) := by
  induction n generalizing s with
  | zero => exact h
  | succ n ih =>
    unfold State.nextWork
    dsimp only
    split
    · split
      · exact ih (State.itemEnds_stays h.setStore _ _)
      · exact State.startOp_stays h.setStore _ _
      · split
        · exact State.startOp_stays h.setStore _ _
        · exact ih (State.itemEnds_stays (Stays.setStore (State.recordFailure_stays h _ _ _)) _ _)
    · split
      next item rest first =>
        refine ih (Stays.postOnce (h.setStore fun hw => ?_) _)
        rw [first, List.length_cons] at hw
        exact (Nat.le_succ _).trans hw
      · exact h.setStore

theorem State.operationDone_stays (h : Stays base s)  : Stays base (State.operationDone s) := by
  unfold State.operationDone
  dsimp only
  repeat' first
    | with_reducible assumption | with_reducible apply Stays.setStore | with_reducible apply State.serveAll_stays
    | with_reducible apply State.nextWork_stays | intro _

theorem State.hostOpEnds_stays (h : Stays base s) (outcome : HostOpOutcome) : Stays base (State.hostOpEnds s outcome) := by
  unfold State.hostOpEnds
  dsimp only
  repeat' first | with_reducible assumption | with_reducible apply Stays.setStore | with_reducible apply Stays.alert | intro _

theorem State.offer_stays (h : Stays base s) (kind : ItemKind) (ops : List StoreOp) : Stays base (State.offer s kind ops).1 := by
  unfold State.offer
  dsimp only
  split
  · exact State.itemEnds_stays h _ _
  · split
    · exact State.itemEnds_stays h _ _
    · split
      · exact h
      next room =>
        have offered : Stays base (s.setStore { s.ss with work := s.ss.work ++ [{ kind := kind, ops := ops }] }) :=
          h.setStore fun _ => by simpa [State.listHasRoom] using room
        dsimp only
        split
        · exact State.nextWork_stays offered _
        · exact offered

theorem State.offer_stays_eq (h : Stays base s) {kind : ItemKind} {ops : List StoreOp} {u : State} {r} (e : State.offer s kind ops = (u, r)) :
    Stays base u := by
  have k := State.offer_stays (base := base) h kind ops
  rw [e] at k
  exact k

theorem State.waitToOffer_stays (h : Stays base s) (w : Waiter) : Stays base (State.waitToOffer s w) := by
  unfold State.waitToOffer
  dsimp only
  repeat' first | with_reducible assumption | with_reducible apply Stays.setStore | intro _

theorem State.dropRead_stays (h : Stays base s) (reader : Reader) : Stays base (State.dropRead s reader) := by
  unfold State.dropRead
  dsimp only
  repeat' first | with_reducible assumption | with_reducible apply Stays.setStore | intro _

theorem State.mapSets_stays (h : Stays base s) (f : PresetSet → PresetSet) : Stays base (State.mapSets s f) :=
  h.withCache (by simp [PresetCache.sizes, Function.comp_def])

theorem State.presetError_stays (h : Stays base s) (kind : PresetErrorKind) (t n way : Nat) (source : PresetSource) :
    Stays base (State.presetError s kind t n way source) := by
  unfold State.presetError
  dsimp only
  repeat' first | with_reducible assumption | with_reducible apply Stays.alert | split | with_reducible refine Stays.withCache ?_ rfl

theorem State.checkWay_stays (h : Stays base s) (t n way : Nat) (source : PresetSource) :
    Stays base (State.checkWay s t n way source).1 := by
  unfold State.checkWay
  dsimp only
  repeat' first
    | with_reducible assumption | with_reducible apply Stays.setPresetSet | with_reducible apply State.presetError_stays | split
    | with_reducible refine Stays.withCache ?_ rfl

theorem State.checkWay_stays_eq (h : Stays base s) {t n way : Nat} {source : PresetSource} {u : State} {r} (e : State.checkWay s t n way source = (u, r)) :
    Stays base u := by
  have k := State.checkWay_stays (base := base) h t n way source
  rw [e] at k
  exact k

theorem State.checkDuplicate_stays (h : Stays base s) (t n : Nat) (source : PresetSource) :
    Stays base (State.checkDuplicate s t n source) := by
  unfold State.checkDuplicate
  dsimp only
  repeat' first | with_reducible assumption | with_reducible apply Stays.setPresetSet | with_reducible apply State.presetError_stays | split

theorem State.readSet_stays (h : Stays base s) (t n : Nat) (source : PresetSource) : Stays base (State.readSet s t n source) := by
  unfold State.readSet
  repeat' first | with_reducible assumption | with_reducible apply State.checkWay_stays | with_reducible apply State.checkDuplicate_stays

theorem State.probe_stays (h : Stays base s) (t ant channel : Nat) : Stays base (State.probe s t ant channel).1 := by
  unfold State.probe
  dsimp only
  repeat' first | with_reducible assumption | with_reducible apply State.readSet_stays | split

theorem State.probe_stays_eq (h : Stays base s) {t ant channel : Nat} {u : State} {r} (e : State.probe s t ant channel = (u, r)) :
    Stays base u := by
  have k := State.probe_stays (base := base) h t ant channel
  rw [e] at k
  exact k

theorem State.lookup_stays (h : Stays base s) (t ant channel : Nat) : Stays base (State.lookup s t ant channel).1 := by
  unfold State.lookup
  dsimp only
  repeat' first | with_reducible assumption | with_reducible apply Stays.setPresetSet | with_reducible apply State.readSet_stays | split

theorem State.lookup_stays_eq (h : Stays base s) {t ant channel : Nat} {u : State} {r} (e : State.lookup s t ant channel = (u, r)) :
    Stays base u := by
  have k := State.lookup_stays (base := base) h t ant channel
  rw [e] at k
  exact k

theorem State.install_stays (h : Stays base s) (t n way : Nat) (r : PresetRecord) : Stays base (State.install s t n way r) := by
  unfold State.install
  dsimp only
  repeat' first | with_reducible assumption | with_reducible apply Stays.setPresetSet

theorem State.fill_stays (h : Stays base s) (t ant channel : Nat) (r : TuneResult) : Stays base (State.fill s t ant channel r) := by
  unfold State.fill
  dsimp only
  repeat' first | with_reducible assumption | with_reducible apply State.readSet_stays | with_reducible apply State.install_stays | split

theorem State.presetFeedback_stays (h : Stays base s) (t ant channel ratio : Nat) :
    Stays base (State.presetFeedback s t ant channel ratio) := by
  unfold State.presetFeedback
  dsimp only
  repeat' first | with_reducible assumption | with_reducible apply Stays.setPresetSet | with_reducible apply State.readSet_stays | split

theorem State.offerPages_stays (h : Stays base s)  (n : Nat) : Stays base (State.offerPages  n s) := by
  induction n generalizing s with
  | zero => exact h
  | succ n ih =>
    unfold State.offerPages
    dsimp only
    repeat' first
      | with_reducible assumption | with_reducible apply State.offer_stays | with_reducible apply State.waitToOffer_stays | apply ih
      | split | intro _ | refine State.offer_stays_eq ?_ (by assumption) | with_reducible refine Stays.withCache ?_ rfl

theorem State.endSave_stays (h : Stays base s) (outcome : CopyEnd) : Stays base (State.endSave s outcome) := by
  unfold State.endSave
  dsimp only
  repeat' first | with_reducible assumption | split | with_reducible refine Stays.withCache ?_ rfl

theorem State.savePageEnded_stays (h : Stays base s) (page : Nat) (last : Bool) (failure : Option FailCause) :
    Stays base (State.savePageEnded s page last failure) := by
  unfold State.savePageEnded
  dsimp only
  repeat' first
    | with_reducible assumption | with_reducible apply State.endSave_stays | split | with_reducible refine Stays.withCache ?_ rfl

theorem State.restoreImage_stays (h : Stays base s) (t n : Nat) (bs : List Byte) (c : RestoreCounts) :
    Stays base (State.restoreImage s t n bs c).1 := by
  unfold State.restoreImage
  dsimp only
  repeat' first | with_reducible assumption | with_reducible apply State.readSet_stays | with_reducible apply State.install_stays | split

theorem State.restoreImage_stays_eq (h : Stays base s) {t n : Nat} {bs : List Byte} {c : RestoreCounts} {u : State} {r} (e : State.restoreImage s t n bs c = (u, r)) :
    Stays base u := by
  have k := State.restoreImage_stays (base := base) h t n bs c
  rw [e] at k
  exact k

theorem State.restorePage_stays (h : Stays base s) (page : Nat) (c : RestoreCounts) : Stays base (State.restorePage s page c).1 := by
  unfold State.restorePage
  repeat' first | with_reducible assumption | with_reducible apply State.restoreImage_stays | with_reducible apply Stays.foldl_fst | intro _

theorem State.restorePage_stays_eq (h : Stays base s) {page : Nat} {c : RestoreCounts} {u : State} {r} (e : State.restorePage s page c = (u, r)) :
    Stays base u := by
  have k := State.restorePage_stays (base := base) h page c
  rw [e] at k
  exact k

theorem State.endRestore_stays (h : Stays base s) (outcome : CopyEnd) : Stays base (State.endRestore s outcome) := by
  unfold State.endRestore
  dsimp only
  repeat' first
    | with_reducible assumption | with_reducible apply State.dropRead_stays | split | with_reducible refine Stays.withCache ?_ rfl

theorem State.readRestorePage_stays (h : Stays base s)  : Stays base (State.readRestorePage s) := by
  unfold State.readRestorePage
  dsimp only
  repeat' first
    | with_reducible assumption | with_reducible apply State.requestRead_stays | split | with_reducible refine Stays.withCache ?_ rfl

theorem State.restoreServed_stays (h : Stays base s)  : Stays base (State.restoreServed s) := by
  unfold State.restoreServed
  dsimp only
  repeat' first
    | with_reducible assumption | with_reducible apply State.restorePage_stays | with_reducible apply State.endRestore_stays | split
    | with_reducible refine Stays.withCache ?_ rfl

theorem State.missMark_stays (h : Stays base s) (b : Nat) (x : MissingMark) : Stays base (State.missMark s b x) := by
  unfold State.missMark
  dsimp only
  repeat' first | with_reducible assumption | with_reducible apply Stays.setBook | with_reducible apply Stays.alert

theorem State.countMark_stays (h : Stays base s)  : Stays base (State.countMark s) := by
  unfold State.countMark
  dsimp only
  repeat' first | with_reducible assumption | with_reducible refine Stays.withBooks (s := _) ?_ _

theorem State.offerMark_stays (h : Stays base s) (b : Nat) (x : MissingMark) : Stays base (State.offerMark s b x).1 := by
  unfold State.offerMark
  repeat' first | with_reducible assumption | with_reducible apply State.offer_stays

theorem State.offerMark_stays_eq (h : Stays base s) {b : Nat} {x : MissingMark} {u : State} {r} (e : State.offerMark s b x = (u, r)) :
    Stays base u := by
  have k := State.offerMark_stays (base := base) h b x
  rw [e] at k
  exact k

theorem State.markDue_stays (h : Stays base s) (b : Nat) (m : Mark) (contents : List Byte) : Stays base (State.markDue s b m contents) := by
  unfold State.markDue
  dsimp only
  repeat' first
    | with_reducible assumption | with_reducible apply State.waitToOffer_stays | with_reducible apply State.missMark_stays
    | with_reducible apply State.countMark_stays | with_reducible apply State.offerMark_stays | split

theorem State.reofferMarks_stays (h : Stays base s)  (n : Nat) (x : Nat) : Stays base (State.reofferMarks  n s x).1 := by
  induction n generalizing s x with
  | zero => exact h
  | succ n ih =>
    unfold State.reofferMarks
    dsimp only
    repeat' first
      | with_reducible assumption | with_reducible apply Stays.setBook | with_reducible apply State.offerMark_stays | apply ih | split

theorem State.reofferMarks_stays_eq (h : Stays base s)  {n : Nat} {x : Nat} {u : State} {r} (e : State.reofferMarks  n s x = (u, r)) :
    Stays base u := by
  have k := State.reofferMarks_stays (base := base) h n x
  rw [e] at k
  exact k

theorem State.reoffer_stays (h : Stays base s) (w : Waiter) : Stays base (State.reoffer s w).1 := by
  unfold State.reoffer
  dsimp only
  repeat' first
    | with_reducible assumption | with_reducible apply State.offerPages_stays | with_reducible apply State.reofferMarks_stays | split

theorem State.reoffer_stays_eq (h : Stays base s) {w : Waiter} {u : State} {r} (e : State.reoffer s w = (u, r)) : Stays base u := by
  have k := State.reoffer_stays (base := base) h w
  rw [e] at k
  exact k

theorem State.waitLast_stays (h : Stays base s) (w : Waiter) : Stays base (State.waitLast s w) := by
  unfold State.waitLast
  dsimp only
  repeat' first | with_reducible assumption | with_reducible apply Stays.setStore | intro _

theorem State.offerAgain_stays (h : Stays base s)  : Stays base (State.offerAgain s) := by
  unfold State.offerAgain
  dsimp only
  repeat' first
    | with_reducible assumption | with_reducible apply Stays.postOnce | with_reducible apply Stays.setStore
    | with_reducible apply State.reoffer_stays | with_reducible apply State.waitLast_stays | with_reducible apply Stays.foldl_fst | split
    | intro _

theorem State.reindexNext_stays (h : Stays base s) (v : Verifier) : Stays base (State.reindexNext s v) := by
  unfold State.reindexNext
  repeat' first | with_reducible assumption | with_reducible apply Stays.setVerifier | split

theorem State.checksumFails_stays (h : Stays base s) (v : Verifier) : Stays base (State.checksumFails s v) := by
  unfold State.checksumFails
  dsimp only
  repeat' first
    | with_reducible assumption | with_reducible apply Stays.setBook | with_reducible apply Stays.alert
    | with_reducible apply Stays.setVerifier | with_reducible apply State.reindexNext_stays | split

theorem State.checksumPasses_stays (h : Stays base s) (v : Verifier) : Stays base (State.checksumPasses s v) := by
  unfold State.checksumPasses
  dsimp only
  repeat' first
    | with_reducible assumption | with_reducible apply Stays.setBook | with_reducible apply Stays.setVerifier
    | with_reducible apply State.reindexNext_stays | split

theorem State.verifierAdvance_stays (h : Stays base s)  (n : Nat) : Stays base (State.verifierAdvance  n s) := by
  induction n generalizing s with
  | zero => exact h
  | succ n ih =>
    unfold State.verifierAdvance
    dsimp only
    repeat' first
      | with_reducible assumption | with_reducible apply Stays.setVerifier | with_reducible apply State.checksumFails_stays
      | with_reducible apply State.checksumPasses_stays | apply ih | split

theorem State.startVerifier_stays (h : Stays base s) (b : Nat) (reindex : Bool) : Stays base (State.startVerifier s b reindex) := by
  unfold State.startVerifier
  repeat' first | with_reducible assumption | with_reducible apply Stays.setVerifier | with_reducible apply State.verifierAdvance_stays

theorem State.verifierServed_stays (h : Stays base s)  : Stays base (State.verifierServed s) := by
  unfold State.verifierServed
  dsimp only
  repeat' first
    | with_reducible assumption | with_reducible apply Stays.setBook | with_reducible apply Stays.setVerifier
    | with_reducible apply State.checksumFails_stays | with_reducible apply State.verifierAdvance_stays | split

theorem State.verifierReads_stays (h : Stays base s)  : Stays base (State.verifierReads s) := by
  unfold State.verifierReads
  repeat' first | with_reducible assumption | with_reducible apply State.requestRead_stays | with_reducible apply Stays.setVerifier | split

theorem State.verificationEnds_stays (h : Stays base s) (v : Verifier) : Stays base (State.verificationEnds s v) := by
  unfold State.verificationEnds
  dsimp only
  repeat' first
    | with_reducible assumption | with_reducible apply Stays.setBook | with_reducible apply Stays.alert
    | with_reducible apply State.markDue_stays | with_reducible apply Stays.setVerifier | split

theorem State.leaveReindex_stays (h : Stays base s) (b : Nat) : Stays base (State.leaveReindex s b) := by
  unfold State.leaveReindex
  repeat' first
    | with_reducible assumption | with_reducible apply State.verifierAdvance_stays | with_reducible apply State.reindexNext_stays
    | with_reducible apply State.dropRead_stays | split

theorem State.takeHandover_stays (h : Stays base s) (b : Nat) (h : Handover) : Stays base (State.takeHandover s b h) := by
  unfold State.takeHandover
  dsimp only
  repeat' first
    | with_reducible assumption | with_reducible apply Stays.post | with_reducible apply State.leaveReindex_stays
    | with_reducible apply Stays.setBook | with_reducible apply Stays.alert | with_reducible apply State.markDue_stays | split

theorem State.handoverIfDue_stays (h : Stays base s) (instant b : Nat) : Stays base (State.handoverIfDue s instant b) := by
  unfold State.handoverIfDue
  repeat' first | with_reducible assumption | with_reducible apply State.takeHandover_stays | split

theorem State.handoversDue_stays (h : Stays base s) (instant : Nat) : Stays base (State.handoversDue s instant) := by
  unfold State.handoversDue
  repeat' first | with_reducible assumption | with_reducible apply State.handoverIfDue_stays

theorem State.scanPending_stays (h : Stays base s)  : Stays base (State.scanPending s) := by
  unfold State.scanPending
  dsimp only
  repeat' first
    | with_reducible assumption | with_reducible apply Stays.setBook | with_reducible apply Stays.alert
    | with_reducible apply State.markDue_stays | split

theorem State.scanActive_stays (h : Stays base s)  : Stays base (State.scanActive s) := by
  unfold State.scanActive
  dsimp only
  repeat' first | with_reducible assumption | with_reducible apply Stays.setBook | with_reducible apply State.markDue_stays | split

theorem State.startScan_stays (h : Stays base s)  : Stays base (State.startScan s) := by
  unfold State.startScan
  dsimp only
  repeat' first
    | with_reducible assumption | with_reducible apply Stays.alert | with_reducible apply State.startVerifier_stays
    | with_reducible apply State.scanPending_stays | with_reducible apply State.scanActive_stays | split
    | with_reducible refine Stays.withBooks (s := _) ?_ _

theorem State.reindexEnds_stays (h : Stays base s)  : Stays base (State.reindexEnds s) := by
  unfold State.reindexEnds
  dsimp only
  repeat' first
    | with_reducible assumption | with_reducible apply State.handoversDue_stays | split
    | with_reducible refine Stays.withBooks (s := _) ?_ _

theorem State.loadPageEnded_stays (h : Stays base s) (b slot : Nat) (failure : Option FailCause) :
    Stays base (State.loadPageEnded s b slot failure) := by
  unfold State.loadPageEnded
  dsimp only
  repeat' first | with_reducible assumption | with_reducible apply Stays.setBook | with_reducible apply Stays.alert | split

theorem State.bookEraseEnded_stays (h : Stays base s) (b : Nat) (failure : Option FailCause) :
    Stays base (State.bookEraseEnded s b failure) := by
  unfold State.bookEraseEnded
  dsimp only
  repeat' first | with_reducible assumption | with_reducible apply Stays.setBook | with_reducible apply Stays.alert | split

theorem State.markEnded_stays (h : Stays base s) (b : Nat) (m : Mark) (due : Nat) (failure : Option FailCause) :
    Stays base (State.markEnded s b m due failure) := by
  unfold State.markEnded
  repeat' first | with_reducible assumption | with_reducible apply State.missMark_stays | split

end Sys2Proof.Machine

/-! # What stays across the Matrix Controller

A mover that changes its position, its phase or its faults is handed to the Permit Unit by way of the notice that follows, so between
the change and the notice only the bounds are kept. -/

namespace Sys2Proof.Machine

open Sys2Proof

set_option Elab.async false

variable {base s u : State}

theorem Bounds.stays (h : Bounds base s) (k : Stays s u) : Bounds base u := h.trans k.toBounds

/-! ## Requesters and requests, R107 to R109, R112 -/

theorem State.addRowFault_stays (h : Stays base s) (t : Nat) (c : RowCause) : Stays base (s.addRowFault t c) := by
  unfold State.addRowFault
  dsimp only
  split
  · exact (Stays.postOnce_permits (h.toBounds.setRowFault t _)).post _
  next faulted =>
    exact h.setRowFault t _ fun free => absurd (by rw [free]; rfl) faulted

theorem State.tell_stays (h : Stays base s) (m : Nat) (fault : Bool) (r : Requester) : Stays base (s.tell m fault r) := by
  unfold State.tell
  split
  · exact h.postOnce _
  · split
    · exact h.post _
    · exact h.postOnce _
  · split
    · exact h.post _
    · exact h.postOnce _
  · exact h
  · exact h.postOnce _

theorem State.tellAll_stays (h : Stays base s) (m : Nat) (fault : Bool) (rs : List Requester) : Stays base (s.tellAll m fault rs) :=
  Stays.foldl (fun _ r hu => State.tell_stays hu m fault r) rs s h

theorem Mover.inMotion_iff (x : Mover) : x.inMotion = true ↔ x.phase = .moving ∨ x.phase = .settling ∨ x.phase = .validating := by
  simp [Mover.inMotion, or_assoc]

theorem Mover.atRestSound_iff (x : Mover) :
    x.atRestSound = true ↔ (x.phase = .rest ∨ x.phase = .queued) ∧ x.fault = none ∧ x.watch = none := by
  simp [Mover.atRestSound, and_assoc]

/-- A mover at REST or QUEUED holds no slot, and is at REST as far as it has neither fault nor watch. -/
theorem Mover.Yields.resting {x y : Mover} (phase : y.phase = .rest ∨ y.phase = .queued) (position : y.confirmedAt = x.confirmedAt)
    (fault : x.fault = none → y.fault = none) (watch : x.watch = none → y.watch = none) : x.Yields y where
  slot hy := by
    rw [Mover.inMotion_iff] at hy
    obtain phase | phase := phase <;> simp [phase] at hy
  position := position
  rest hx := by
    obtain ⟨-, hf, hw⟩ := (Mover.atRestSound_iff x).mp hx
    exact (Mover.atRestSound_iff y).mpr ⟨phase, fault hf, watch hw⟩

theorem Stays.countAge (h : Stays base s) (kept : Option Nat) (n : Nat) :
    Stays base (if kept.isSome then s else { s with mc := { s.mc with ageCounter := n } }) := by
  split
  · exact h
  · exact h.withMatrix rfl rfl rfl

theorem State.counted_mover (kept : Option Nat) (n m : Nat) :
    (if kept.isSome then s else { s with mc := { s.mc with ageCounter := n } } : State).mover m = s.mover m := by
  split <;> rfl

theorem State.admitMotion_stays (h : Stays base s) (m : Nat) (target : Position) (r : Requester) (priority : Nat) (kept : Option Nat) :
    Stays base (s.admitMotion m target r priority kept) := by
  have counted := h.countAge kept (s.mc.ageCounter + 1)
  have same : (if kept.isSome then s else { s with mc := { s.mc with ageCounter := s.mc.ageCounter + 1 } } : State).mover m = s.mover m :=
    State.counted_mover _ _ _
  unfold State.admitMotion
  dsimp only
  generalize (if kept.isSome then s else { s with mc := { s.mc with ageCounter := s.mc.ageCounter + 1 } } : State) = v at counted same ⊢
  split
  · exact State.tell_stays h _ _ _
  · split
    · exact State.tell_stays h _ _ _
    · split
      · split
        · exact State.tell_stays h _ _ _
        · exact Stays.postOnce (counted.setMover m _ (same ▸ .resting (.inr rfl) rfl id id)) _
      · split
        · exact State.tell_stays (State.tellAll_stays (h.setMover m { (s.mover m).idle with followOn := (s.mover m).followOn }
            (.resting (.inl rfl) rfl id id)) _ _ _) _ _ _
        · exact (State.tellAll_stays (h.setMover m _ {}) _ _ _).postOnce _
      · split
        · exact State.tellAll_stays (h.setMover m _) _ _ _
        · exact State.tellAll_stays (counted.setMover m _ (same ▸ {})) _ _ _

theorem State.requestMotion_stays (h : Stays base s) (m : Nat) (target : Position) (r : Requester) (priority : Nat) :
    Stays base (s.requestMotion m target r priority) := State.admitMotion_stays h m target r priority none

/-- A requester's follow-on taken away leaves the motion as it is. -/
theorem State.withdrawMotion_stays (h : Stays base s) (m : Nat) (r : Requester) : Stays base (s.withdrawMotion m r) := by
  have dropped (x : Mover) (k : (s.mover m).Yields x) : Stays base (s.setMover m
      (if x.phase = .queued ∧ x.requester = some r then { x.idle with followOn := x.followOn } else x)) := by
    split
    next queued =>
      obtain ⟨slot, position, rest⟩ := k
      refine h.setMover m _ ⟨fun hy => absurd hy (by simp [Mover.inMotion, Mover.idle]), position, fun hx => ?_⟩
      obtain ⟨-, hf, hw⟩ := (Mover.atRestSound_iff x).mp (rest hx)
      exact (Mover.atRestSound_iff _).mpr ⟨.inl rfl, hf, hw⟩
    · exact h.setMover m _ k
  unfold State.withdrawMotion
  dsimp only
  split
  · split
    · exact dropped _ {}
    · exact dropped _ {}
  · exact dropped _ {}

theorem State.presentFollowOn_stays (h : Stays base s) (m : Nat) (f : Option MotionRequest) : Stays base (s.presentFollowOn m f) := by
  unfold State.presentFollowOn
  split
  · exact State.admitMotion_stays h _ _ _ _ _
  · exact h

/-! ## Faults and confirmation, R101 to R104 -/

theorem Bounds.setMover_rest (h : Bounds base s) (m : Nat) (x : Mover) (rest : x.phase = .rest) : Bounds base (s.setMover m x) :=
  h.setMover m x fun hx => by simp [Mover.inMotion, rest] at hx

theorem State.faultMover_stays (h : Bounds base s) (m : Nat) (f : MoverFault) : Stays base (s.faultMover m f) := by
  have faulted : Bounds base (s.setMover m { (s.mover m).idle with
      confirmed := none, followOn := none, fault := some f, watch := none, reading := none,
      target := if f = .timeout then (s.mover m).target else none }) := h.setMover_rest m _ rfl
  unfold State.faultMover
  dsimp only
  generalize s.setMover m _ = u at faulted
  have listed : Stays u { u with mc := { u.mc with haltList := u.mc.haltList.filter (· != m) } } :=
    (Stays.refl u).withMatrix rfl rfl rfl
  refine Stays.postOnce (Stays.postOnce_matrix (faulted.stays ?_)) _
  have told := (State.tellAll_stays (State.tellAll_stays listed m true (s.mover m).askers) m true (s.mover m).waiters).alert .mover
  split
  · exact State.addRowFault_stays told _ _
  · exact State.addRowFault_stays told _ _
  · exact told.addFault _ _
  · exact told.addFault _ _
  · exact told.addFault _ _

theorem State.confirmMover_stays (h : Bounds base s) (m : Nat) : Stays base (s.confirmMover m) :=
  Stays.postOnce_matrix ((h.setMover_rest m _ rfl).stays
    (State.presentFollowOn_stays (State.tellAll_stays (Stays.refl _) _ _ _) _ _))

/-- A mover in motion is not at REST. -/
theorem Mover.inMotion_unsound {x : Mover} (moving : x.inMotion = true) : x.atRestSound ≠ true := fun rest => by
  obtain ⟨phase, -⟩ := (Mover.atRestSound_iff x).mp rest
  rw [Mover.inMotion_iff] at moving
  obtain phase | phase := phase <;> simp [phase] at moving

theorem State.beginValidate_stays (h : Stays base s) (m : Nat) (moving : (s.mover m).inMotion = true) :
    Stays base (s.beginValidate m) := by
  unfold State.beginValidate
  split
  · exact State.confirmMover_stays h.toBounds m
  · exact h.setMover m _ ⟨fun _ => moving, rfl, fun rest => absurd rest (Mover.inMotion_unsound moving)⟩

theorem State.beginSettle_stays (h : Stays base s) (m : Nat) (moving : (s.mover m).inMotion = true) : Stays base (s.beginSettle m) := by
  unfold State.beginSettle
  split
  · exact State.beginValidate_stays h m moving
  · exact h.setMover m _ ⟨fun _ => moving, rfl, fun rest => absurd rest (Mover.inMotion_unsound moving)⟩

/-! ## The arbiter, R110 -/

theorem filter_set_length_succ {α : Type} (p : α → Bool) (xs : List α) (i : Nat) (v : α) :
    ((xs.set i v).filter p).length ≤ (xs.filter p).length + 1 := by
  induction xs generalizing i with
  | nil => simp
  | cons x xs ih =>
    cases i with
    | zero =>
      simp only [List.set_cons_zero, List.filter_cons]
      split <;> split <;> simp +arith
    | succ i =>
      have := ih i
      simp only [List.set_cons_succ, List.filter_cons]
      split <;> simp [this]

/-- One mover's record takes one slot at most. -/
theorem State.setMover_slots_succ (m : Nat) (x : Mover) : (s.setMover m x).slotsInUse ≤ s.slotsInUse + 1 := by
  show ((setNth s.mc.movers m x).filter Mover.inMotion).length ≤ _
  unfold setNth
  split
  · exact Nat.le_succ _
  · exact filter_set_length_succ _ _ _ _

/-- A mover that is not as an absent one stands in the table. -/
theorem State.mover_inside {m : Nat} (queued : (s.mover m).phase ≠ .rest) : 1 ≤ m ∧ m ≤ s.mc.movers.length := by
  by_contra outside
  refine queued ?_
  unfold State.mover nth
  split
  · rfl
  · rw [List.getD_eq_default _ _ (by omega)]
    rfl

theorem State.grant_stays (h : Bounds base s) (m : Nat) (queued : (s.mover m).phase = .queued) (slot : s.slotsInUse < s.params.motionSlots) :
    Stays base (s.grant m) := by
  obtain ⟨h1, inside⟩ := State.mover_inside (s := s) (m := m) (by rw [queued]; decide)
  have runs (x : Mover) (moving : x.inMotion = true) : Bounds base (s.setMover m x) ∧ ((s.setMover m x).mover m).inMotion = true := by
    refine ⟨h.trans { sized := State.sized_of_sizes (s.setMover_sizes m x), slots := ?_ }, by rwa [s.mover_setMover m x h1 inside]⟩
    exact ((State.setMover_slots_succ m x).trans slot).trans (Nat.le_max_right _ _)
  have granted := runs { s.mover m with
    phase := .moving, run := (s.mover m).target, timer := some (s.clock + s.travelMs m (s.mover m)), confirmed := none } rfl
  unfold State.grant
  dsimp only
  generalize s.setMover m _ = u at granted ⊢
  obtain ⟨bounds, moving⟩ := granted
  refine Stays.postOnce (Stays.postOnce_matrix (bounds.stays ?_)) _
  split
  · exact State.beginSettle_stays (Stays.refl u) m moving
  · exact Stays.refl u

/-- A choice by folding is one of the list's, where it is any. -/
theorem foldl_choice_mem {α : Type} {f : Option α → α → Option α} (hf : ∀ b x, f b x = b ∨ f b x = some x) (xs : List α) (b : Option α) {y : α}
    (chosen : xs.foldl f b = some y) : b = some y ∨ y ∈ xs := by
  induction xs generalizing b with
  | nil => exact .inl chosen
  | cons x xs ih =>
    obtain hb | mem := ih _ chosen
    · obtain kept | took := hf b x
      · exact .inl (kept ▸ hb)
      · rw [took, Option.some.injEq] at hb
        exact .inr (List.mem_cons.mpr (.inl hb.symm))
    · exact .inr (List.mem_cons_of_mem _ mem)

theorem State.nextGrant_mem {m : Nat} (h : s.nextGrant = some m) : m ∈ (s.moversWhere fun x => x.phase == .queued).filter s.eligible := by
  refine (foldl_choice_mem (fun b x => ?_) _ _ h).resolve_left nofun
  split
  · split
    · exact .inr rfl
    · exact .inl rfl
  · exact .inr rfl

theorem State.eligible_queued {m : Nat} (h : s.eligible m = true) : (s.mover m).phase = .queued := by
  simp only [State.eligible, Bool.and_eq_true, beq_iff_eq] at h
  exact h.1.1.1.1.1

theorem State.arbitrate_stays (h : Stays base s) : Stays base s.arbitrate := by
  unfold State.arbitrate
  split
  next slot =>
    split
    next m chosen => exact State.grant_stays h.toBounds m (State.eligible_queued (List.mem_filter.mp (State.nextGrant_mem chosen)).2) slot
    · exact h
  · exact h

/-! ## Halts, R106, R132 -/

theorem State.requeue_stays (h : Stays base s) (m : Nat) : Stays base (s.requeue m) :=
  (h.setMover m { s.mover m with phase := .queued, priority := 7, age := s.mc.ageCounter } (.resting (.inr rfl) rfl id id)).withMatrix
    rfl rfl rfl

/-- Movers that are not at REST are halted. -/
theorem Stays.halt (h : Stays base s) (ms : List Nat) (moving : ∀ m ∈ ms, (s.mover m).atRestSound ≠ true) :
    Stays base (ms.foldl (fun s m => s.setMover m (s.mover m).halt) s) := by
  induction ms generalizing s with
  | nil => exact h
  | cons m ms ih =>
    refine ih (h.setMover m _ ⟨fun hx => by simp [Mover.inMotion, Mover.halt] at hx, rfl,
      fun rest => absurd rest (moving m List.mem_cons_self)⟩) fun k hk => ?_
    exact nth_setNth_of (p := fun (x : Mover) => x.atRestSound ≠ true) (fun _ => by simp [Mover.atRestSound, Mover.halt])
      (moving k (List.mem_cons_of_mem _ hk))

theorem State.moversWhere_holds {p : Mover → Bool} {m : Nat} (h : m ∈ s.moversWhere p) : p (s.mover m) = true := by
  simp only [State.moversWhere, List.mem_map, List.mem_filter] at h
  obtain ⟨⟨x, i⟩, ⟨mem, hp⟩, rfl⟩ := h
  have item := List.mem_zipIdx' mem
  simp only at hp item
  obtain ⟨inside, eq⟩ := item
  have here : s.mover (i + 1) = x := by
    rw [eq]
    simp [State.mover, nth, List.getD_eq_getElem?_getD, List.getElem?_eq_getElem inside]
  rwa [here]

theorem State.haltAll_stays (h : Stays base s) : Stays base s.haltAll :=
  (h.halt (s.moversWhere Mover.inMotion) fun _ hm => Mover.inMotion_unsound (State.moversWhere_holds hm)).withMatrix rfl rfl rfl

theorem State.haltNotCold_stays (h : Stays base s) : Stays base s.haltNotCold := by
  unfold State.haltNotCold
  dsimp only
  split
  · exact h
  · refine Stays.postOnce (Stays.postOnce_permits (Bounds.foldl (fun u m hu => ?_) _ _ h.toBounds)) _
    have halted : Bounds base (u.setMover m (u.mover m).halt) := hu.setMover m _ fun hx => by simp [Mover.inMotion, Mover.halt] at hx
    exact halted.stays (State.requeue_stays (Stays.refl _) m)

theorem State.releaseHalt_stays (h : Stays base s) : Stays base s.releaseHalt :=
  (Stays.foldl (fun _ m hu => State.requeue_stays hu m) _ _ h).withMatrix rfl rfl rfl

/-! ## The status table, R113 to R115 -/

theorem State.deriveColumn_stays (h : Stays base s) (a : Nat) : Stays base (s.deriveColumn a) := by
  unfold State.deriveColumn
  dsimp only
  split
  · exact h
  · refine ?_
    generalize hocc : (if (s.rowsOccupying a).length = 1 then (s.rowsOccupying a).head? else none) = occupant
    have written : Stays base (s.setClaim a
        { occupant := occupant, openRows := s.rowsOccupying a,
          reservation := if occupant.isSome && (s.claim a).reservation == occupant then none else (s.claim a).reservation,
          testClaim := (s.claim a).testClaim && !((s.claim a).testClaim && occupant.isSome) }) := by
      refine h.setClaim a _ fun ⟨_, claimed⟩ => ⟨fun t occupied => ?_, fun test => ?_⟩
      · obtain rfl : occupant = some t := occupied
        simp only [Option.isSome_some, Bool.true_and]
        split
        · exact nofun
        next differs => exact fun same => differs (by simp [same])
      · cases occupant with
        | none =>
          simp only [Option.isSome_none, Bool.and_false, Bool.not_false, Bool.and_true] at test
          exact ⟨rfl, (claimed test).2⟩
        | some t => simp at test
    generalize s.setClaim a _ = v at written ⊢
    have told : Stays base (if ((s.claim a).testClaim && occupant.isSome) = true then v.post (.claimWithdrawn a) else v) := by
      split
      · exact written.post _
      · exact written
    split
    · exact Stays.foldl (fun _ t hu => State.addRowFault_stays hu t .column) _ _ (told.addFault _ _)
    · exact told

theorem State.deriveOccupancy_stays (h : Stays base s) : Stays base s.deriveOccupancy := by
  unfold State.deriveOccupancy
  split
  · exact h
  · exact Stays.foldl (fun _ a hu => State.deriveColumn_stays hu a) _ _ h

/-- Every transmitter's executor is asked. -/
theorem Stays.askAll (h : Stays base s) : Stays base ((upTo 12).foldl (fun s t => s.postOnce (.executor t)) s) :=
  Stays.foldl (fun _ _ hu => hu.postOnce _) _ _ h

/-- Occupancy is derived, and the Permit Unit told. -/
theorem State.matrixChanged_stays (h : Bounds base s) : Stays base s.matrixChanged :=
  ((((Stays.postOnce_permits (h.stays (State.deriveOccupancy_stays (Stays.refl s)))).postOnce _).postOnce _).askAll).postOnce _

theorem State.reserve_stays (h : Stays base s) (t a : Nat) : Stays base (s.reserve t a).1 := by
  unfold State.reserve
  dsimp only
  split
  · exact h
  · split
    · exact h
    · split
      · exact h
      next free other =>
        have written := h.setClaim a { s.claim a with reservation := some t, testClaim := false }
          fun _ => ⟨fun r occupied same => other (occupied.trans same.symm), nofun⟩
        split
        · exact written.post _
        · split
          · exact written.post _
          · exact written

theorem State.releaseReservation_stays (h : Stays base s) (t a : Nat) : Stays base (s.releaseReservation t a) := by
  unfold State.releaseReservation
  dsimp only
  split
  · exact h.setClaim a _ fun ⟨_, claimed⟩ => ⟨fun _ _ => nofun, fun test => ⟨(claimed test).1, rfl⟩⟩
  · exact h

theorem State.claimTest_stays (h : Stays base s) (a : Nat) : Stays base (s.claimTest a).1 := by
  unfold State.claimTest
  dsimp only
  split
  next free =>
    simp only [Bool.and_eq_true, Option.isNone_iff_eq_none] at free
    obtain ⟨⟨⟨occupant, reservation⟩, -⟩, -⟩ := free
    exact h.setClaim a _ fun ⟨apart, _⟩ => ⟨apart, fun _ => ⟨occupant, reservation⟩⟩
  · exact h

theorem State.releaseClaim_stays (h : Stays base s) (a : Nat) : Stays base (s.releaseClaim a) :=
  h.setClaim a _ fun ⟨apart, _⟩ => ⟨apart, nofun⟩

/-! ## Reads and surveys, R117 to R119 -/

theorem State.startRead_stays (h : Stays base s) (m : Nat) (fresh : Bool) : Stays base (s.startRead m fresh) := by
  unfold State.startRead
  dsimp only
  split
  · exact State.faultMover_stays h.toBounds m _
  · exact h.setMover m _

theorem State.endRead_stays (h : Stays base s) (m : Nat) (r : MoverRead) : Stays base (s.endRead m r) := by
  unfold State.endRead
  dsimp only
  refine Stays.postOnce (Stays.postOnce_matrix ?_) _
  split
  · exact h.toBounds.setMover m _
  · exact h.toBounds.setMover m _

theorem State.startSurvey_stays (h : Stays base s) (row : Option Nat) : Stays base (s.startSurvey row) := by
  unfold State.startSurvey
  dsimp only
  refine Stays.postOnce (Stays.foldl (fun _ m hu => State.startRead_stays hu m false) _ _ (h.trans (.of_grounds
    { sized := State.sized_of_sizes (by simp [State.sizes, Matrix.sizes])
      exclusive := fun hs => State.exclusive_iff.mpr fun a => ?_ }))) _
  show (nth (s.mc.claims.map AntennaClaims.vacate) AntennaClaims.reset.vacate a).Exclusive
  rw [nth_map]
  exact ⟨nofun, fun test => ⟨rfl, ((hs a).2 test).2⟩⟩

theorem State.cleanRow_stays (h : Stays base s) (t : Nat) : Stays base (s.cleanRow t) := by
  have doubled : Stays base (if s.doubleRoute t then s.addRowFault t .survey else s) := by
    split
    · exact State.addRowFault_stays h _ _
    · exact h
  unfold State.cleanRow
  dsimp only
  generalize (if s.doubleRoute t then s.addRowFault t .survey else s) = v at doubled
  split
  · exact State.requestMotion_stays doubled _ _ _ _
  · exact doubled

theorem State.openTests_stays (h : Stays base s) : Stays base s.openTests :=
  Stays.foldl (fun _ _ hu => State.requestMotion_stays hu _ _ _ _) _ _ h

theorem State.cleanUp_stays (h : Stays base s) (row : Option Nat) : Stays base (s.cleanUp row) := by
  unfold State.cleanUp
  split
  · refine Stays.foldl (fun _ t hu => State.cleanRow_stays hu t) _ _ (Stays.foldl (fun _ t hu => ?_) _ _
      (State.deriveOccupancy_stays (State.openTests_stays h)))
    split
    · exact State.addRowFault_stays hu _ _
    · exact hu
  · exact State.cleanRow_stays (State.deriveOccupancy_stays h) _

theorem State.surveyDone_stays (h : Stays base s) (row : Option Nat) : Stays base (s.surveyDone row) :=
  ((h.withMatrix (x := { s.mc with survey := .complete, surveyed := s.mc.surveyed || row.isNone }) rfl rfl rfl).askAll).postOnce _

theorem State.surveyProgress_stays (h : Stays base s) : Stays base s.surveyProgress := by
  unfold State.surveyProgress
  split
  · exact h
  next row _ =>
    split
    · exact h
    · exact ((State.cleanUp_stays (h.withMatrix (x := { s.mc with survey := .running row true }) rfl rfl rfl) row).postOnce _).postOnce _
  · split
    · exact h
    · exact State.surveyDone_stays h _

/-! ## Movers that come and go, R98 -/

theorem State.dropMover_bounds (h : Bounds base s) (m : Nat) : Bounds base (s.dropMover m) :=
  (h.setMover_rest m _ rfl).stays
    ((State.tellAll_stays (State.tellAll_stays (Stays.refl _) m false (s.mover m).askers) m false (s.mover m).waiters).withMatrix rfl rfl rfl)

theorem State.presenceChanged_stays (h : Bounds base s) (before : State) : Stays base (s.presenceChanged before) := by
  refine Stays.postOnce_matrix (Bounds.foldl (fun u m hu => ?_) _ _ h)
  split
  · exact (hu.setMover_rest m _ rfl).stays (State.startRead_stays (Stays.refl _) m true)
  · split
    · exact State.dropMover_bounds hu m
    · exact hu

end Sys2Proof.Machine

/-! # What stays across the Permit Unit and the sequencers

A line computed again stands by right (`State.updateLine_rightful`); entering a sequencer state has the lines tested. -/

namespace Sys2Proof.Machine

open Sys2Proof

set_option Elab.async false

variable {base s : State}

/-! ## The lines, R124 to R127 -/

/-- A standing request and every condition of R124 are what a line rests on. -/
theorem State.permitted_of_conditions {t : Nat} (h1 : 1 ≤ t) (request : (s.seq t).requesting = true) (holds : s.conditionsHold t = true) :
    s.Permitted t := by
  simp only [State.conditionsHold, Bool.and_eq_true, State.antennaHolds_iff h1, State.safetyHolds_iff, State.linkHolds,
    State.lockoutHolds, bne_iff_ne, Bool.not_eq_true'] at holds
  obtain ⟨⟨⟨⟨route, column⟩, safety⟩, link⟩, lockout⟩ := holds
  simp only [State.routeHolds, Bool.and_eq_true, beq_iff_eq, List.all_eq_true, List.isEmpty_iff, Bool.or_eq_true] at route
  obtain ⟨⟨one, each⟩, fault⟩ := route
  obtain ⟨m, only⟩ := List.length_eq_one_iff.mp one
  have closed (k : Nat) : (k ∈ s.rowMovers t ∧ s.isClosed k = true) ↔ k = m := by
    rw [← List.mem_filter, ← State.closedMovers, only, List.mem_singleton]
  obtain ⟨mem, isClosed⟩ := (closed m).mpr rfl
  exact ⟨(Sequencer.requesting_iff _).mp request,
    ⟨m, mem, isClosed, fun k hk ne => (each k hk).1.resolve_left fun c => ne ((closed k).mp ⟨hk, c⟩)⟩, fun k hk => (each k hk).2, fault,
    column, safety, link, lockout⟩

theorem State.lineFalls_stays (h : Stays base s) (t : Nat) (cause : FallCause) : Stays base (s.lineFalls t cause) := by
  have fallen (p : PermitRow) (low : p.line = false) : Stays base (s.setPermit t p) := h.setPermit t p fun high => by simp [low] at high
  unfold State.lineFalls
  dsimp only
  split
  · exact fallen _ rfl
  · exact (fallen _ rfl).post _

theorem Bounds.setPermit (h : Bounds base s) (r : Nat) (p : PermitRow) : Bounds base (s.setPermit r p) :=
  h.trans { sized := State.sized_of_sizes (s.setPermit_sizes r p) }

/-- Computing a line again leaves the grounds of every line, and the notices that wait, and writes the one row. -/
theorem State.updateLine_kept (s : State) (t : Nat) :
    Grounds s (s.updateLine t) ∧ Bounds s (s.updateLine t) ∧ (∀ n, n ∈ s.notices → n ∈ (s.updateLine t).notices) ∧
    ∀ k, k ≠ t → (s.updateLine t).permit k = s.permit k := by
  have asked := (Bounds.refl s).setPermit t { s.permit t with request := (s.seq t).requesting }
  have twice (p q : PermitRow) (k : Nat) (hk : k ≠ t) : ((s.setPermit t p).setPermit t q).permit k = s.permit k :=
    (State.permit_setPermit_ne _ _ _ _ hk).trans (State.permit_setPermit_ne _ _ _ _ hk)
  unfold State.updateLine State.lineFalls State.lineRises
  dsimp only
  split
  · split
    · exact ⟨{}, asked.setPermit t _, fun _ hn => hn, twice _ _⟩
    · exact ⟨{}, (asked.setPermit t _).post _, fun _ hn => List.mem_append_left _ hn, twice _ _⟩
  · split
    · exact ⟨{}, (asked.setPermit t _).post _, fun _ hn => List.mem_append_left _ hn, twice _ _⟩
    · exact ⟨{}, asked, fun _ hn => hn, fun k hk => State.permit_setPermit_ne _ _ _ _ hk⟩

/-- A line computed again stands by right (R124 to R127). -/
theorem State.updateLine_rightful {t : Nat} (sized : s.sized) (h1 : 1 ≤ t) (h12 : t ≤ 12) : (s.updateLine t).Rightful t := by
  obtain ⟨-, ⟨rows, -⟩, -⟩ := State.sized_iff.mp sized
  obtain ⟨asserted, -⟩ := State.updateLine_permit (s := s) h1 (by omega)
  obtain ⟨grounds, -⟩ := s.updateLine_kept t
  refine .inr fun line => State.Permitted.mono ?_ grounds
  rw [asserted, Bool.and_eq_true] at line
  exact State.permitted_of_conditions h1 line.1 line.2

theorem State.updateLine_stays (h : Stays base s) (t : Nat) : Stays base (s.updateLine t) := by
  obtain ⟨grounds, bounds, notices, others⟩ := s.updateLine_kept t
  refine { toBounds := h.toBounds.trans bounds, rightful := fun sized r h1 h12 hr => ?_ }
  by_cases here : r = t
  · exact here ▸ State.updateLine_rightful (h.sized sized) (here ▸ h1) (here ▸ h12)
  · refine (h.rightful sized r h1 h12 hr).imp (Or.imp (notices _) (notices _)) fun stands line => ?_
    rw [others r here] at line
    exact (stands line).mono grounds

/-- Once every line of a list has been computed again, each stands by right. -/
theorem State.updateLines_rightful (ts : List Nat) {r : Nat} (sized : s.sized) (mem : r ∈ ts) (h1 : 1 ≤ r) (h12 : r ≤ 12) :
    (ts.foldl (fun s t => s.updateLine t) s).Rightful r := by
  induction ts generalizing s with
  | nil => cases mem
  | cons t ts ih =>
    have next := (s.updateLine_kept t).2.1.sized sized
    obtain rfl | later := List.mem_cons.mp mem
    · exact (Stays.foldl (fun _ t hu => State.updateLine_stays hu t) ts _ (Stays.refl (s.updateLine r))).rightful next r h1 h12
        (State.updateLine_rightful sized h1 h12)
    · exact ih next later

theorem State.updateCold_stays (h : Stays base s) (t : Nat) : Stays base (s.updateCold t) := by
  have written := (h.setPermit t { s.permit t with cold := s.coldNow t }).postOnce (.executor t)
  unfold State.updateCold
  dsimp only
  split
  · exact h
  · split
    · exact written.postOnce _
    · exact written

theorem State.recoveryTest_stays (h : Stays base s) (t : Nat) : Stays base (s.recoveryTest t) := by
  unfold State.recoveryTest
  split
  · exact h.postOnce _
  · exact h

/-- Testing leaves every line by right, whatever they stood by. -/
theorem State.permitsTested_stays (h : Bounds base s) : Stays base s.permitsTested := by
  have lines : Stays base ((upTo 12).foldl (fun s t => s.updateLine t) s) :=
    { toBounds := Bounds.foldl (fun u t hu => hu.trans (u.updateLine_kept t).2.1) _ _ h
      rightful := fun sized r h1 h12 _ => State.updateLines_rightful _ (h.sized sized) (mem_upTo.mpr ⟨h1, h12⟩) h1 h12 }
  exact Stays.foldl (fun _ t hu => State.recoveryTest_stays hu t) _ _
    (State.haltNotCold_stays (Stays.foldl (fun _ t hu => State.updateCold_stays hu t) _ _ lines))

theorem State.permitsChanged_stays (h : Bounds base s) : Stays base s.permitsChanged := by
  unfold State.permitsChanged
  split
  next waits => exact .of_tests h (.inr (by simpa using waits))
  · exact State.permitsTested_stays h

/-! ## The sequencers -/

theorem State.command_stays (h : Stays base s) (t p : Nat) (tune : Bool) : Stays base (State.command s t p tune) := by
  unfold State.command
  dsimp only
  repeat' first | with_reducible assumption | with_reducible apply Stays.setProt | exact id

theorem State.commandOrder_stays (h : Stays base s) (t : Nat) (o : Order) : Stays base (State.commandOrder s t o) := by
  unfold State.commandOrder
  repeat' first | with_reducible assumption | with_reducible apply State.command_stays | split

theorem State.setLimit_stays (h : Stays base s) (t limit : Nat) : Stays base (State.setLimit s t limit) := by
  unfold State.setLimit
  dsimp only
  repeat' first | with_reducible assumption | with_reducible apply Stays.setProt | exact id

/-- Entering a state has the lines tested (R125 to R127). -/
theorem State.enterSeq_stays (h : Bounds base s) (t : Nat) (st : SeqState) (timer : Option Nat) : Stays base (s.enterSeq t st timer) := by
  have lineAsked (u : State) (hu : Bounds base u) (c : Bool) : Bounds base (if c then u.updateLine t else u) := by
    split
    · exact hu.trans (u.updateLine_kept t).2.1
    · exact hu
  have restored (u : State) (hu : Bounds base u) :
      Bounds base (if st = .rampUp ∨ st = .onAir then u else u.setProt t { u.prot t with restoreRun := none }) := by
    split
    · exact hu
    · exact hu.setProt t _
  exact ((Stays.postOnce_permits (lineAsked _ (restored _ ((lineAsked s h _).setSeq t _)) _)).post _).postOnce _

theorem State.endOrder_stays (h : Stays base s) (t : Nat) (kind : OrderKind) (number : Option Nat) (owner : OrderOwner) (outcome : OrderEnd) :
    Stays base (State.endOrder s t kind number owner outcome) := by
  unfold State.endOrder
  dsimp only
  repeat' first | with_reducible assumption | with_reducible apply Stays.post | with_reducible apply Stays.setSeq | exact id

theorem State.endQueued_stays (h : Stays base s) (t : Nat) (x : QueuedOrder) (outcome : OrderEnd) :
    Stays base (State.endQueued s t x outcome) := by
  unfold State.endQueued
  repeat' first | with_reducible assumption | with_reducible apply State.endOrder_stays

theorem State.endOutstanding_stays (h : Stays base s) (t : Nat) (outcome : OrderEnd) : Stays base (State.endOutstanding s t outcome) := by
  unfold State.endOutstanding
  dsimp only
  repeat' first
    | with_reducible assumption | with_reducible apply Stays.setSeq | with_reducible apply State.endOrder_stays | exact id | split

theorem State.discardOrders_stays (h : Stays base s) (t : Nat) : Stays base (State.discardOrders s t) := by
  unfold State.discardOrders
  dsimp only
  repeat' first
    | with_reducible assumption | with_reducible apply Stays.setSeq | with_reducible apply State.endQueued_stays
    | with_reducible apply Stays.foldl | exact id | intro _

theorem State.sendFrame_stays (h : Stays base s) (t : Nat) (x : QueuedOrder) : Stays base (State.sendFrame s t x) := by
  unfold State.sendFrame
  dsimp only
  repeat' first | with_reducible assumption | with_reducible apply Stays.setSeq | exact id

theorem State.trySend_stays (h : Stays base s) (t : Nat) : Stays base (State.trySend s t) := by
  unfold State.trySend
  dsimp only
  repeat' first
    | with_reducible assumption | with_reducible apply Stays.setSeq | with_reducible apply State.sendFrame_stays | exact id | split

theorem State.endReplaced_stays (h : Stays base s) (t : Nat) (x : QueuedOrder) (xs : List QueuedOrder) :
    Stays base (State.endReplaced s t x xs) := by
  unfold State.endReplaced
  repeat' first | with_reducible assumption | with_reducible apply State.endQueued_stays | with_reducible apply Stays.foldl | intro _

theorem State.enqueue_stays (h : Stays base s) (t : Nat) (o : Order) (owner : OrderOwner) : Stays base (State.enqueue s t o owner) := by
  unfold State.enqueue
  dsimp only
  repeat' first
    | with_reducible assumption | with_reducible apply Stays.setSeq | with_reducible apply State.commandOrder_stays
    | with_reducible apply State.trySend_stays | with_reducible apply State.endReplaced_stays | exact id

theorem State.takeMute_stays (h : Stays base s) (t : Nat) (owner : OrderOwner) : Stays base (State.takeMute s t owner) := by
  unfold State.takeMute
  dsimp only
  repeat' first
    | with_reducible assumption | with_reducible apply State.commandOrder_stays | with_reducible apply State.endOutstanding_stays
    | with_reducible apply State.discardOrders_stays | with_reducible apply State.sendFrame_stays

theorem State.takeQuench_stays (h : Stays base s) (t : Nat) : Stays base (State.takeQuench s t) := by
  unfold State.takeQuench
  repeat' first | with_reducible assumption | with_reducible apply State.enqueue_stays | with_reducible apply State.takeMute_stays

theorem State.firstQuench_stays (h : Stays base s) (t : Nat) : Stays base (State.firstQuench s t) := by
  unfold State.firstQuench
  dsimp only
  repeat' first | with_reducible assumption | with_reducible apply Stays.setSeq | with_reducible apply State.takeQuench_stays | exact id

theorem State.muteFor_stays (h : Stays base s) (t : Nat) (origin : MuteOrigin) (owner : OrderOwner) (notice : Option Nat) :
    Stays base (s.muteFor t origin owner notice) :=
  (State.enterSeq_stays (State.takeMute_stays h t owner).toBounds t .muted none).setSeq t _

theorem State.seqTrip_stays (h : Stays base s) (t : Nat) (owner : OrderOwner) : Stays base (State.seqTrip s t owner) := by
  unfold State.seqTrip
  repeat' first | with_reducible assumption | with_reducible apply State.muteFor_stays | split

theorem State.seqFault_stays (h : Stays base s) (t : Nat) (cause : SeqFault) : Stays base (s.seqFault t cause) := by
  have quenched : Stays base (if (s.seq t).mayHoldRf then (s.discardOrders t).takeQuench t else s.discardOrders t) := by
    split
    · exact State.takeQuench_stays (State.discardOrders_stays h t) t
    · exact State.discardOrders_stays h t
  exact ((State.enterSeq_stays quenched.toBounds t .fault none).setSeq t _).alert _

theorem State.seqLinkLost_stays (h : Bounds base s) (t : Nat) : Stays base (s.seqLinkLost t) :=
  (State.enterSeq_stays (h.stays (State.discardOrders_stays (State.endOutstanding_stays (Stays.refl s) t .discarded) t)) t .linkLost
    none).setSeq t _

theorem State.linkLossAt_stays (h : Stays base s) (t : Nat) : Stays base (s.linkLossAt t) := by
  have ended := State.endOutstanding_stays h t .discarded
  unfold State.linkLossAt
  split
  · exact h
  · exact State.trySend_stays ended t
  · exact State.trySend_stays ended t
  · exact State.seqLinkLost_stays h.toBounds t

theorem State.lockoutNotice_stays (h : Stays base s) (t : Nat) : Stays base (s.lockoutNotice t) := by
  have ended : Stays base (match (s.seq t).outstanding with
      | some o => if o.order = Order.mute then s else s.endOutstanding t .superseded
      | none => s) := by
    split
    · split
      · exact h
      · exact State.endOutstanding_stays h t _
    · exact h
  unfold State.lockoutNotice
  dsimp only
  split
  · exact h
  · refine State.enterSeq_stays ?_ _ _ _
    split
    · exact (State.takeQuench_stays (State.discardOrders_stays ended t) t).toBounds
    · exact (State.discardOrders_stays ended t).toBounds

theorem State.takeRfOff_stays (h : Stays base s) (t : Nat) (owner : OrderOwner) : Stays base (s.takeRfOff t owner) :=
  State.enqueue_stays (State.enterSeq_stays h.toBounds t _ _) t _ owner

theorem State.takeRfOn_stays (h : Stays base s) (t power feed : Nat) (owner : OrderOwner) : Stays base (s.takeRfOn t power feed owner) :=
  State.enqueue_stays (Stays.setProt ((State.enterSeq_stays h.toBounds t _ _).setSeq t _) t _) t _ owner

/-- In TUNING the request rests on the tune mode, which is set once the state has been entered. -/
theorem State.enterTuning_stays (h : Stays base s) (t : Nat) (mode : TuneMode) (freq : Nat) (ant : Option Nat) (ds : Nat) :
    Stays base (s.enterTuning t mode freq ant ds) := by
  refine .of_tests ((State.enterSeq_stays h.toBounds t _ _).toBounds.setSeq t _) (.inl ?_)
  exact mem_addOnce_left (List.mem_append_left _ (mem_addOnce_self _ _))

theorem State.takeTuneAuto_stays (h : Stays base s) (t freq : Nat) (owner : OrderOwner) :
    Stays base (State.takeTuneAuto s t freq owner) := by
  unfold State.takeTuneAuto
  repeat' first
    | with_reducible assumption | with_reducible apply State.endOrder_stays | with_reducible apply State.enqueue_stays
    | with_reducible apply State.enterTuning_stays | split

theorem State.takeTunePreset_stays (h : Stays base s) (t freq : Nat) (owner : OrderOwner) :
    Stays base (State.takeTunePreset s t freq owner).1 := by
  unfold State.takeTunePreset
  dsimp only
  repeat' first
    | with_reducible assumption | with_reducible apply State.lookup_stays | with_reducible apply State.enqueue_stays
    | with_reducible apply State.enterTuning_stays | split

theorem State.takeTunePreset_stays_eq (h : Stays base s) {t freq : Nat} {owner : OrderOwner} {u : State} {r} (e : State.takeTunePreset s t freq owner = (u, r)) :
    Stays base u := by
  have k := State.takeTunePreset_stays (base := base) h t freq owner
  rw [e] at k
  exact k

theorem State.powerHandedOver_stays (h : Stays base s) (t limit : Nat) : Stays base (State.powerHandedOver s t limit) := by
  unfold State.powerHandedOver
  dsimp only
  repeat' first
    | with_reducible assumption | with_reducible apply Stays.setSeq | with_reducible apply Stays.setProt
    | with_reducible apply State.setLimit_stays | exact id

theorem State.takeFeed_stays (h : Stays base s) (t feed : Nat) (owner : OrderOwner) : Stays base (State.takeFeed s t feed owner) := by
  unfold State.takeFeed
  dsimp only
  repeat' first | with_reducible assumption | with_reducible apply Stays.setSeq | with_reducible apply State.enqueue_stays | exact id

theorem State.takeInternal_stays (h : Stays base s) (t : Nat) (o : Order) (owner : OrderOwner) :
    Stays base (State.takeInternal s t o owner) := by
  unfold State.takeInternal
  dsimp only
  repeat' first
    | with_reducible assumption | with_reducible apply State.endOrder_stays | with_reducible apply State.enqueue_stays
    | with_reducible apply State.takeRfOff_stays | with_reducible apply State.takeRfOn_stays
    | with_reducible apply State.takeTuneAuto_stays | with_reducible apply State.takeTunePreset_stays
    | with_reducible apply State.powerHandedOver_stays | with_reducible apply State.takeFeed_stays | split

theorem State.offerOrder_stays (h : Stays base s) (t : Nat) (o : Order) (owner : OrderOwner) :
    Stays base (State.offerOrder s t o owner) := by
  unfold State.offerOrder
  dsimp only
  repeat' first
    | with_reducible assumption | with_reducible apply Stays.setSeq | with_reducible apply State.endReplaced_stays
    | with_reducible apply State.takeInternal_stays | exact id | split

theorem State.takeDeferred_stays (h : Stays base s) (t : Nat) : Stays base (State.takeDeferred s t) := by
  unfold State.takeDeferred
  dsimp only
  repeat' first
    | with_reducible assumption | with_reducible apply Stays.setSeq | with_reducible apply State.offerOrder_stays
    | with_reducible apply Stays.foldl | exact id | intro _

theorem State.clearTrip_stays (h : Stays base s) (t : Nat) (owner : OrderOwner) : Stays base (s.clearTrip t owner) :=
  State.enqueue_stays (State.enterSeq_stays h.toBounds t _ _) t _ owner

theorem State.beginRecoveryWait_stays (h : Stays base s) (t power : Nat) : Stays base (s.beginRecoveryWait t power) :=
  (State.enterSeq_stays h.toBounds t _ _).setSeq t _

theorem State.mutedProgress_stays (h : Stays base s) (t : Nat) : Stays base (State.mutedProgress s t) := by
  unfold State.mutedProgress
  repeat' first
    | with_reducible assumption | with_reducible apply State.takeRfOff_stays | with_reducible apply State.beginRecoveryWait_stays | split

theorem State.recoveryNotice_stays (h : Stays base s) (t power : Nat) : Stays base (State.recoveryNotice s t power) := by
  unfold State.recoveryNotice
  dsimp only
  repeat' first
    | with_reducible assumption | with_reducible apply Stays.setSeq | with_reducible apply State.mutedProgress_stays | exact id | split

theorem State.seqDrop_stays (h : Stays base s) (t : Nat) (cause : FallCause) : Stays base (State.seqDrop s t cause) := by
  unfold State.seqDrop
  dsimp only
  repeat' first
    | with_reducible assumption | with_reducible apply State.muteFor_stays | with_reducible apply State.seqFault_stays
    | with_reducible apply State.linkLossAt_stays | with_reducible apply State.lockoutNotice_stays
    | with_reducible apply State.mutedProgress_stays | split

theorem State.recoveryWaitTest_stays (h : Stays base s) (t : Nat) : Stays base (State.recoveryWaitTest s t) := by
  unfold State.recoveryWaitTest
  dsimp only
  repeat' first
    | with_reducible assumption | with_reducible apply Stays.setProt | with_reducible apply State.takeRfOff_stays
    | with_reducible apply State.takeRfOn_stays | exact id | split

end Sys2Proof.Machine

/-! # What stays across the Protection Unit -/

namespace Sys2Proof.Machine

open Sys2Proof

set_option Elab.async false

variable {base s : State}

theorem appendHistory_length {limit : Nat} (pos : 1 ≤ limit) {h : List Nat} (i : Nat) (short : h.length ≤ limit) :
    (appendHistory limit h i).length ≤ limit := by
  unfold appendHistory
  split
  · simp; omega
  · simp; omega

/-- A trip keeps the history in bounds (R169). -/
theorem Protection.trip_history (x : Protection) (cause : TripCause) (code now w : Nat) (short : x.history.length ≤ 3) :
    (x.trip cause code now w).1.history.length ≤ 3 := by
  have next := appendHistory_length (limit := 3) (by decide) now short
  unfold Protection.trip
  dsimp only
  split
  · split
    · exact short
    · split
      · exact next
      · exact next
  · split
    · exact short
    · exact short

/-- A trip locks out only as its outcome says. -/
theorem Protection.trip_unlocked (x : Protection) (cause : TripCause) (code now w : Nat) (free : x.lockout = false)
    (outcome : (x.trip cause code now w).2 ≠ .lockout) : (x.trip cause code now w).1.lockout = false := by
  unfold Protection.trip at outcome ⊢
  dsimp only at outcome ⊢
  split at outcome
  · split at outcome
    · simp_all
    · split at outcome
      · exact absurd rfl outcome
      · simp_all
  · split at outcome
    · simp_all
    · simp_all

theorem State.recordTrip_stays (h : Stays base s) (t : Nat) (cause : TripCause) (code : Nat) :
    Stays base (s.recordTrip t cause code).1 := by
  have history := (s.prot t).trip_history cause code s.tb.elapsed s.pt.settings.tripWindowS
  have counted (u : State) (hu : Bounds base u) : Bounds base (if cause.counted then u.alert .trip else u) := by
    split
    · exact hu.stays ((Stays.refl u).alert _)
    · exact hu
  unfold State.recordTrip
  dsimp only
  split
  · exact Stays.postOnce_permits ((counted _ (h.toBounds.setProt t _ history)).stays ((Stays.refl _).alert _))
  next open_ =>
    have recorded := h.setProt t _ history fun free => (s.prot t).trip_unlocked cause code _ _ free open_
    split
    · exact recorded.alert _
    · exact recorded

theorem State.recordTrip_stays_eq (h : Stays base s) {t : Nat} {cause : TripCause} {code : Nat} {u : State} {r} (e : State.recordTrip s t cause code = (u, r)) :
    Stays base u := by
  have k := State.recordTrip_stays (base := base) h t cause code
  rw [e] at k
  exact k

theorem State.deliver_stays (h : Stays base s) (t : Nat) (o : TripOutcome) : Stays base (State.deliver s t o) := by
  unfold State.deliver
  repeat' first
    | with_reducible assumption | with_reducible apply State.lockoutNotice_stays | with_reducible apply State.recoveryNotice_stays
    | split

theorem State.tripWith_stays (h : Stays base s) (t : Nat) (cause : TripCause) (code : Nat) (owner : OrderOwner) :
    Stays base (State.tripWith s t cause code owner) := by
  unfold State.tripWith
  dsimp only
  repeat' first
    | with_reducible assumption | with_reducible apply State.seqTrip_stays | with_reducible apply State.recordTrip_stays
    | with_reducible apply State.deliver_stays

theorem State.dropNotice_stays (h : Stays base s) (t : Nat) (cause : FallCause) : Stays base (State.dropNotice s t cause) := by
  unfold State.dropNotice
  dsimp only
  repeat' first
    | with_reducible assumption | with_reducible apply Stays.setProt | with_reducible apply State.seqDrop_stays
    | with_reducible apply State.recordTrip_stays | with_reducible apply State.deliver_stays | exact id | split

theorem State.foldStep_stays (h : Stays base s) (t : Nat) : Stays base (State.foldStep s t) := by
  unfold State.foldStep
  dsimp only
  repeat' first
    | with_reducible assumption | with_reducible apply Stays.setProt | with_reducible apply State.offerOrder_stays
    | with_reducible apply State.tripWith_stays | exact id | split

theorem State.restoreStep_stays (h : Stays base s) (t : Nat) : Stays base (State.restoreStep s t) := by
  unfold State.restoreStep
  dsimp only
  repeat' first | with_reducible assumption | with_reducible apply Stays.setProt | with_reducible apply State.offerOrder_stays | exact id

theorem State.restoreRunStep_stays (h : Stays base s) (t : Nat) : Stays base (State.restoreRunStep s t) := by
  unfold State.restoreRunStep
  dsimp only
  repeat' first
    | with_reducible assumption | with_reducible apply Stays.setProt | with_reducible apply State.restoreStep_stays | exact id | split

theorem State.ratioDecision_stays (h : Stays base s) (t q : Nat) : Stays base (State.ratioDecision s t q) := by
  unfold State.ratioDecision
  dsimp only
  repeat' first
    | with_reducible assumption | with_reducible apply Stays.setProt | with_reducible apply State.tripWith_stays
    | with_reducible apply State.foldStep_stays | with_reducible apply State.restoreRunStep_stays | exact id | split

theorem State.sendFeedback_stays (h : Stays base s) (t q : Nat) : Stays base (State.sendFeedback s t q) := by
  unfold State.sendFeedback
  dsimp only
  repeat' first
    | with_reducible assumption | with_reducible apply Stays.setSeq | with_reducible apply State.presetFeedback_stays | exact id | split

theorem State.evaluate_stays (h : Stays base s) (t : Nat) (r : Report) : Stays base (State.evaluate s t r) := by
  unfold State.evaluate
  dsimp only
  repeat' first
    | with_reducible assumption | with_reducible apply Stays.setProt | with_reducible apply State.ratioDecision_stays
    | with_reducible apply State.sendFeedback_stays | exact id | split

theorem State.arcCounted_stays (h : Stays base s) (a : Nat) (occupant : Option Nat) : Stays base (State.arcCounted s a occupant) := by
  unfold State.arcCounted
  dsimp only
  repeat' first
    | with_reducible assumption | with_reducible apply Stays.setArcRecord | with_reducible apply Stays.addFault
    | with_reducible apply State.recordTrip_stays | with_reducible apply State.deliver_stays | split

theorem State.quenchFailed_stays (h : Stays base s) (t : Nat) : Stays base (State.quenchFailed s t) := by
  unfold State.quenchFailed
  dsimp only
  repeat' first | with_reducible assumption | with_reducible apply Stays.setSeq | exact id | split

theorem State.orderFailed_stays (h : Stays base s) (t : Nat) (owner : OrderOwner) (outcome : OrderEnd) (cause : SeqFault) :
    Stays base (State.orderFailed s t owner outcome cause) := by
  unfold State.orderFailed
  dsimp only
  repeat' first
    | with_reducible assumption | with_reducible apply State.endOutstanding_stays | with_reducible apply State.trySend_stays
    | with_reducible apply State.seqFault_stays | with_reducible apply State.quenchFailed_stays | split

theorem State.orderAccepted_stays (h : Stays base s) (t : Nat) (o : Outstanding) : Stays base (State.orderAccepted s t o) := by
  unfold State.orderAccepted
  dsimp only
  repeat' first
    | with_reducible assumption | with_reducible apply Stays.setSeq | with_reducible apply State.endOutstanding_stays
    | with_reducible apply State.trySend_stays | with_reducible apply State.mutedProgress_stays | exact id | split

theorem State.answerOrder_stays (h : Stays base s) (t : Nat) (r : Report) : Stays base (State.answerOrder s t r) := by
  unfold State.answerOrder
  repeat' first
    | with_reducible assumption | with_reducible apply State.orderFailed_stays | with_reducible apply State.orderAccepted_stays | split

theorem State.leaveUnknown_stays (h : Stays base s) (t : Nat) (r : Report) (quench : Bool) :
    Stays base (State.leaveUnknown s t r quench) := by
  unfold State.leaveUnknown
  repeat' first
    | with_reducible assumption | with_reducible apply Stays.toBounds | with_reducible apply State.enterSeq_stays
    | with_reducible apply State.firstQuench_stays | split

theorem State.offerFill_stays (h : Stays base s) (t : Nat) (r : Report) : Stays base (State.offerFill s t r) := by
  unfold State.offerFill
  repeat' first | with_reducible assumption | with_reducible apply State.fill_stays | split

theorem State.tuneEnds_stays (h : Stays base s) (t : Nat) (r : Report) : Stays base (State.tuneEnds s t r) := by
  unfold State.tuneEnds
  dsimp only
  repeat' first
    | with_reducible assumption | with_reducible apply Stays.toBounds | with_reducible apply Stays.setSeq
    | with_reducible apply State.command_stays | with_reducible apply State.enterSeq_stays | with_reducible apply State.offerFill_stays
    | exact id | split

theorem State.reportTransition_stays (h : Stays base s) (t : Nat) (r : Report) (first : Bool) (quench : QuenchState) (power : Nat) :
    Stays base (State.reportTransition s t r first quench power) := by
  unfold State.reportTransition
  dsimp only
  repeat' first
    | with_reducible assumption | with_reducible apply Stays.toBounds | with_reducible apply State.enterSeq_stays
    | with_reducible apply State.takeQuench_stays | with_reducible apply State.takeDeferred_stays
    | with_reducible apply State.tripWith_stays | with_reducible apply State.leaveUnknown_stays
    | with_reducible apply State.tuneEnds_stays | split

theorem State.holdReport_stays (h : Stays base s) (t : Nat) (r : Report) : Stays base (s.holdReport t r) := by
  have fresh : Stays base (if s.stale t then s.setProt t { s.prot t with restoreRun := none } else s) := by
    split
    · exact h.setProt t _
    · exact h
  exact fresh.setSeq t _ id fun _ => nofun

theorem State.takeReport_stays (h : Stays base s) (t : Nat) (r : Report) : Stays base (State.takeReport s t r) := by
  unfold State.takeReport
  dsimp only
  repeat' first
    | with_reducible assumption | with_reducible apply Stays.postOnce | with_reducible apply State.evaluate_stays
    | with_reducible apply State.answerOrder_stays | with_reducible apply State.reportTransition_stays
    | with_reducible apply State.holdReport_stays

end Sys2Proof.Machine

/-! # What stays across Line Diagnostics -/

namespace Sys2Proof.Machine

open Sys2Proof

set_option Elab.async false

variable {base s : State}

theorem State.sendMeasurement_stays (h : Stays base s) (o : BusOrder) : Stays base (State.sendMeasurement s o) := by
  unfold State.sendMeasurement
  dsimp only
  repeat' first | with_reducible assumption | with_reducible apply Stays.setDiag | rfl

theorem State.setBusFault_stays (h : Stays base s) (c : BusFaultCause) : Stays base (State.setBusFault s c) := by
  unfold State.setBusFault
  dsimp only
  repeat' first
    | with_reducible assumption | with_reducible apply Stays.post | with_reducible apply Stays.setDiag | with_reducible apply Stays.foldl
    | intro _ | rfl

theorem State.setPlan_stays (h : Stays base s) (i : Nat) (e : PlanEntry) : Stays base (State.setPlan s i e) := by
  unfold State.setPlan
  dsimp only
  repeat' first | with_reducible assumption | with_reducible apply Stays.setDiag | rfl

theorem State.setPosition_stays (h : Stays base s) (p : RunPosition) : Stays base (State.setPosition s p) := by
  unfold State.setPosition
  dsimp only
  repeat' first | with_reducible assumption | with_reducible apply Stays.setDiag | rfl

theorem State.nextAntenna_stays (h : Stays base s) (p : RunPosition) : Stays base (State.nextAntenna s p) := by
  unfold State.nextAntenna
  dsimp only
  repeat' first | with_reducible assumption | with_reducible apply Stays.setDiag | with_reducible apply State.setPosition_stays | rfl

theorem State.openRunSwitch_stays (h : Stays base s) (a : Nat) : Stays base (State.openRunSwitch s a) := by
  unfold State.openRunSwitch
  repeat' first | with_reducible assumption | with_reducible apply State.requestMotion_stays

theorem State.abortAntenna_stays (h : Stays base s) (p : RunPosition) (byDrive : Bool) : Stays base (State.abortAntenna s p byDrive) := by
  unfold State.abortAntenna
  dsimp only
  repeat' first | with_reducible assumption | with_reducible apply Stays.setDiag | with_reducible apply State.setPlan_stays | rfl

theorem State.endRun_stays (h : Stays base s) (o : RunOutcome) : Stays base (State.endRun s o) := by
  unfold State.endRun
  dsimp only
  repeat' first
    | with_reducible assumption | with_reducible apply Stays.postOnce | with_reducible apply Stays.setDiag
    | with_reducible apply State.openRunSwitch_stays | with_reducible apply State.abortAntenna_stays | split | rfl

theorem State.runIdle_stays (h : Stays base s)  : Stays base (State.runIdle s) := by
  unfold State.runIdle
  dsimp only
  repeat' first
    | with_reducible assumption | with_reducible apply Stays.alert | with_reducible apply State.releaseClaim_stays
    | with_reducible apply Stays.setDiag | split | rfl

theorem State.insulPassed_stays (h : Stays base s) (a : Nat) : Stays base (State.insulPassed s a) := by
  unfold State.insulPassed
  repeat' first | with_reducible assumption | with_reducible apply Stays.setLastChecked | split

theorem State.runFlag_stays (h : Stays base s) (i : Nat) (f : FaultFlag) : Stays base (State.runFlag s i f) := by
  unfold State.runFlag
  dsimp only
  repeat' first | with_reducible assumption | with_reducible apply Stays.addFault | with_reducible apply State.setPlan_stays

theorem State.crossNext_stays (h : Stays base s)  (n : Nat) (x : Nat) : Stays base (State.crossNext  n s x).1 := by
  induction n generalizing s x with
  | zero => exact h
  | succ n ih =>
    unfold State.crossNext
    dsimp only
    repeat' first
      | with_reducible assumption | with_reducible apply Stays.toBounds | with_reducible apply State.sendMeasurement_stays
      | with_reducible apply State.setPlan_stays | apply ih | exact id | split

theorem State.crossNext_stays_eq (h : Stays base s)  {n : Nat} {x : Nat} {u : State} {r} (e : State.crossNext  n s x = (u, r)) :
    Stays base u := by
  have k := State.crossNext_stays (base := base) h n x
  rw [e] at k
  exact k

theorem State.beginStep_stays (h : Stays base s) (i : Nat) (d : DiagStep) : Stays base (State.beginStep s i d).1 := by
  unfold State.beginStep
  dsimp only
  repeat' first
    | with_reducible assumption | with_reducible apply State.sendMeasurement_stays | with_reducible apply State.crossNext_stays | split

theorem State.beginStep_stays_eq (h : Stays base s) {i : Nat} {d : DiagStep} {u : State} {r} (e : State.beginStep s i d = (u, r)) :
    Stays base u := by
  have k := State.beginStep_stays (base := base) h i d
  rw [e] at k
  exact k

theorem State.stepsGoOn_stays (h : Stays base s)  (n : Nat) (x : RunPosition) (y : Bool) : Stays base (State.stepsGoOn  n s x y) := by
  induction n generalizing s x y with
  | zero => exact h
  | succ n ih =>
    unfold State.stepsGoOn
    dsimp only
    repeat' first
      | with_reducible assumption | with_reducible apply Stays.toBounds | with_reducible apply State.setPosition_stays
      | with_reducible apply State.openRunSwitch_stays | with_reducible apply State.beginStep_stays | apply ih | exact id | split

theorem State.markPlan_stays (h : Stays base s) (a : Nat) (f : FaultFlag) : Stays base (State.markPlan s a f) := by
  unfold State.markPlan
  dsimp only
  repeat' first | with_reducible assumption | with_reducible apply Stays.setDiag | rfl

theorem State.askPreUse_stays (h : Stays base s) (t a : Nat) : Stays base (State.askPreUse s t a) := by
  unfold State.askPreUse
  dsimp only
  repeat' first
    | with_reducible assumption | with_reducible apply Stays.post | with_reducible apply Stays.postOnce
    | with_reducible apply Stays.setDiag | split | rfl

theorem State.withdrawPreUse_stays (h : Stays base s) (t : Nat) : Stays base (State.withdrawPreUse s t) := by
  unfold State.withdrawPreUse
  dsimp only
  repeat' first | with_reducible assumption | with_reducible apply Stays.setDiag | rfl

theorem State.leaveService_stays (h : Stays base s)  : Stays base (State.leaveService s) := by
  unfold State.leaveService
  dsimp only
  repeat' first | with_reducible assumption | with_reducible apply Stays.setDiag | rfl

theorem State.takeIntoService_stays (h : Stays base s) (t a : Nat) : Stays base (State.takeIntoService s t a) := by
  unfold State.takeIntoService
  dsimp only
  repeat' first
    | with_reducible assumption | with_reducible apply Stays.post | with_reducible apply State.requestMotion_stays
    | with_reducible apply Stays.setDiag | split | rfl

theorem State.openPreUse_stays (h : Stays base s) (u : PreUse) : Stays base (State.openPreUse s u) := by
  unfold State.openPreUse
  dsimp only
  repeat' first | with_reducible assumption | with_reducible apply State.requestMotion_stays | with_reducible apply Stays.setDiag | rfl

theorem State.preUseStep_stays (h : Stays base s) {u : PreUse} {w : State} (hu : State.preUseStep s u = some w) : Stays base w := by
  unfold State.preUseStep at hu
  dsimp only at hu
  repeat' first | split at hu | cases hu
  all_goals repeat' first
    | with_reducible assumption | with_reducible apply Stays.toBounds | with_reducible apply Stays.post
    | with_reducible apply Stays.setDiag | with_reducible apply State.sendMeasurement_stays
    | with_reducible apply State.leaveService_stays | exact id | split | intro _ | rfl

theorem State.admitAntenna_stays (h : Stays base s) (p : RunPosition) : Stays base (State.admitAntenna s p) := by
  unfold State.admitAntenna
  dsimp only
  repeat' first
    | with_reducible assumption | with_reducible apply State.requestMotion_stays | with_reducible apply State.claimTest_stays
    | with_reducible apply Stays.setDiag | with_reducible apply State.setPlan_stays | with_reducible apply State.setPosition_stays
    | with_reducible apply State.nextAntenna_stays | split | rfl

theorem State.antennaDone_stays (h : Stays base s) (p : RunPosition) (a : Nat) : Stays base (State.antennaDone s p a) := by
  unfold State.antennaDone
  dsimp only
  repeat' first
    | with_reducible assumption | with_reducible apply State.releaseClaim_stays | with_reducible apply State.setPlan_stays
    | with_reducible apply State.nextAntenna_stays

theorem State.nextPhase_stays (h : Stays base s) {p : RunPosition} {w : State} (hu : State.nextPhase s p = some w) : Stays base w := by
  unfold State.nextPhase at hu
  dsimp only at hu
  repeat' first | split at hu | cases hu
  all_goals repeat' first
    | with_reducible assumption | with_reducible apply Stays.toBounds | with_reducible apply Stays.setDiag
    | with_reducible apply State.endRun_stays | with_reducible apply State.admitAntenna_stays | exact id | split | intro _ | rfl

theorem State.runStep_stays (h : Stays base s) {p : RunPosition} {w : State} (hu : State.runStep s p = some w) : Stays base w := by
  unfold State.runStep at hu
  dsimp only at hu
  repeat' first | split at hu | cases hu
  all_goals repeat' first
    | with_reducible assumption | with_reducible apply Stays.toBounds | with_reducible apply State.requestMotion_stays
    | with_reducible apply Stays.setDiag | with_reducible apply State.sendMeasurement_stays
    | with_reducible apply State.setPosition_stays | with_reducible apply State.nextAntenna_stays
    | with_reducible apply State.endRun_stays | with_reducible apply State.stepsGoOn_stays | with_reducible apply State.antennaDone_stays
    | exact id | split | intro _ | refine State.nextPhase_stays ?_ (by assumption) | rfl

theorem State.handOut_stays (h : Stays base s)  {w : State} (hu : State.handOut s = some w) : Stays base w := by
  unfold State.handOut at hu
  repeat' first | split at hu | cases hu
  all_goals repeat' first
    | with_reducible assumption | with_reducible apply Stays.toBounds | with_reducible apply State.takeIntoService_stays

theorem State.diagStep_stays (h : Stays base s)  {w : State} (hu : State.diagStep s = some w) : Stays base w := by
  unfold State.diagStep at hu
  dsimp only at hu
  repeat' first | split at hu | cases hu
  all_goals repeat' first
    | with_reducible assumption | with_reducible apply Stays.toBounds | with_reducible apply Stays.setDiag
    | with_reducible apply State.endRun_stays | with_reducible apply State.runIdle_stays | exact id | split | intro _
    | refine State.preUseStep_stays ?_ (by assumption) | refine State.runStep_stays ?_ (by assumption)
    | refine State.handOut_stays ?_ (by assumption) | rfl | contradiction | (rename_i k; split at k)

theorem State.diagProgress_stays (h : Stays base s)  : Stays base (State.diagProgress s) := by
  unfold State.diagProgress
  repeat' first | with_reducible assumption | with_reducible apply Stays.postOnce | split | refine State.diagStep_stays ?_ (by assumption)

theorem State.claimLost_stays (h : Stays base s) (a : Nat) : Stays base (State.claimLost s a) := by
  unfold State.claimLost
  repeat' first
    | with_reducible assumption | with_reducible apply Stays.postOnce | with_reducible apply State.setPosition_stays
    | with_reducible apply State.openRunSwitch_stays | with_reducible apply State.abortAntenna_stays | split

theorem State.measurementLost_stays (h : Stays base s)  : Stays base (State.measurementLost s) := by
  unfold State.measurementLost
  dsimp only
  repeat' first
    | with_reducible assumption | with_reducible apply Stays.post | with_reducible apply Stays.postOnce
    | with_reducible apply Stays.setDiag | with_reducible apply State.setBusFault_stays | with_reducible apply State.endRun_stays
    | with_reducible apply State.openPreUse_stays | split | rfl

theorem State.startRun_stays (h : Stays base s) (antennas : List Nat) (steps : Nat) : Stays base (State.startRun s antennas steps) := by
  unfold State.startRun
  dsimp only
  repeat' first
    | with_reducible assumption | with_reducible apply Stays.postOnce | with_reducible apply Stays.setDiag
    | with_reducible apply State.endRun_stays | split | rfl

end Sys2Proof.Machine

/-! # What stays across the Schedule Executor

A changeover record keeps its lead, its planned start and X from one phase to the next; a new one takes them from `State.planLead`. -/

namespace Sys2Proof.Machine

open Sys2Proof

set_option Elab.async false

variable {base s : State}

theorem Stays.setSome (h : Stays base s) (t : Nat) (c : Changeover) (hc : base.Led → c.Led) : Stays base (s.setChange t (some c)) :=
  h.setChange t _ fun hs _ e => Option.some.inj e ▸ hc hs

theorem Stays.setNone (h : Stays base s) (t : Nat) : Stays base (s.setChange t none) := h.setChange t _ fun _ _ => nofun

/-- The changeover of a transmitter is led. -/
theorem Stays.led_change (h : Stays base s) {t : Nat} {c : Changeover} (hc : s.change t = some c) (hs : base.Led) : c.Led := h.led hs t c hc

/-- The lead of a target is 600 s at most, and X is Ps with it (R82, R83). -/
theorem State.planLead_led (s : State) (t : Nat) (g : Target) (freq refStart now : Nat) :
    (s.planLead t g freq refStart now).2.leadS ≤ 600 ∧
    (s.planLead t g freq refStart now).2.x = (s.planLead t g freq refStart now).2.ps + (s.planLead t g freq refStart now).2.leadS := by
  unfold State.planLead
  dsimp only
  split
  · exact ⟨Nat.zero_le _, rfl⟩
  · exact ⟨Nat.min_le_left _ _, rfl⟩

theorem State.readEntries_stays (h : Stays base s) (reader : Reader) : Stays base (State.readEntries s reader) := by
  unfold State.readEntries
  repeat' first | with_reducible assumption | with_reducible apply State.requestRead_stays

theorem State.askRead_stays (h : Stays base s) (w : ExecWork) : Stays base (State.askRead s w) := by
  unfold State.askRead
  dsimp only
  repeat' first
    | with_reducible assumption | with_reducible apply State.readEntries_stays | split
    | with_reducible refine Stays.withExecutor (s := _) ?_ rfl rfl

theorem State.updateDuty_stays (h : Stays base s) (t : Nat) (f : Duty → Duty) : Stays base (State.updateDuty s t f) := by
  unfold State.updateDuty
  repeat' first | with_reducible assumption | with_reducible apply Stays.setDuty

theorem State.recordOutcome_stays (h : Stays base s) (t : Nat) (entryId : Nat) (day : Option Nat) (kind : OutcomeKind) (cause : Option Cause) (planned actual : Nat) (flags : CauseFlags) :
    Stays base (State.recordOutcome s t entryId day kind cause planned actual flags) := by
  unfold State.recordOutcome
  dsimp only
  repeat' first | with_reducible assumption | with_reducible apply State.updateDuty_stays

theorem State.abandonPlan_stays (h : Stays base s) (t : Nat) (o : Occurrence) (cause : Cause) :
    Stays base (State.abandonPlan s t o cause) := by
  unfold State.abandonPlan
  dsimp only
  repeat' first
    | with_reducible assumption | with_reducible apply Stays.alert | with_reducible apply State.updateDuty_stays
    | with_reducible apply State.recordOutcome_stays

theorem State.skipOccurrence_stays (h : Stays base s) (t : Nat) (o : Occurrence) (cause : Cause) :
    Stays base (State.skipOccurrence s t o cause) := by
  unfold State.skipOccurrence
  dsimp only
  repeat' first
    | with_reducible assumption | with_reducible apply Stays.alert | with_reducible apply State.updateDuty_stays
    | with_reducible apply State.recordOutcome_stays

theorem State.offerRfOff_stays (h : Stays base s) (t : Nat) : Stays base (State.offerRfOff s t) := by
  unfold State.offerRfOff
  repeat' first | with_reducible assumption | with_reducible apply State.offerOrder_stays

theorem State.offerPower_stays (h : Stays base s) (t power freq : Nat) : Stays base (State.offerPower s t power freq) := by
  unfold State.offerPower
  dsimp only
  repeat' first | with_reducible assumption | with_reducible apply State.setLimit_stays | with_reducible apply State.offerOrder_stays

theorem State.offerRfOn_stays (h : Stays base s) (t power freq feed : Nat) : Stays base (State.offerRfOn s t power freq feed) := by
  unfold State.offerRfOn
  dsimp only
  repeat' first | with_reducible assumption | with_reducible apply State.setLimit_stays | with_reducible apply State.offerOrder_stays

theorem State.parkRow_stays (h : Stays base s) (t : Nat) : Stays base (State.parkRow s t) := by
  unfold State.parkRow
  dsimp only
  repeat' first
    | with_reducible assumption | with_reducible apply State.requestMotion_stays | with_reducible apply Stays.foldl | split | intro _

theorem State.orderDrives_stays (h : Stays base s) (t : Nat) (g : Target) : Stays base (State.orderDrives s t g) := by
  unfold State.orderDrives
  dsimp only
  repeat' first | with_reducible assumption | with_reducible apply State.requestMotion_stays | split

theorem State.planLead_stays (h : Stays base s) (t : Nat) (g : Target) (freq refStart now : Nat) :
    Stays base (State.planLead s t g freq refStart now).1 := by
  unfold State.planLead
  dsimp only
  repeat' first | with_reducible assumption | with_reducible apply State.probe_stays | split

theorem State.planLead_stays_eq (h : Stays base s) {t : Nat} {g : Target} {freq refStart now : Nat} {u : State} {r} (e : State.planLead s t g freq refStart now = (u, r)) :
    Stays base u := by
  have k := State.planLead_stays (base := base) h t g freq refStart now
  rw [e] at k
  exact k

theorem State.reserveTarget_stays (h : Stays base s) (t a : Nat) : Stays base (State.reserveTarget s t a).1 := by
  unfold State.reserveTarget
  repeat' first | with_reducible assumption | with_reducible apply State.reserve_stays | split

theorem State.reserveTarget_stays_eq (h : Stays base s) {t a : Nat} {u : State} {r} (e : State.reserveTarget s t a = (u, r)) :
    Stays base u := by
  have k := State.reserveTarget_stays (base := base) h t a
  rw [e] at k
  exact k

theorem State.commitPlan_stays (h : Stays base s) (t : Nat) (o : Occurrence) (c : Changeover) (hc : base.Led → c.Led) :
    Stays base (State.commitPlan s t o c) := by
  unfold State.commitPlan
  dsimp only
  repeat' first
    | with_reducible assumption | with_reducible apply Stays.setSome | with_reducible apply Stays.alert
    | with_reducible apply State.updateDuty_stays | split

theorem State.planCandidates_stays (h : Stays base s) (t : Nat) (o : Occurrence) (now : Nat) (last : Cause) (gs : List (Target × Bool)) :
    Stays base (State.planCandidates s t o now last gs) := by
  induction gs generalizing s last with
  | nil => exact State.abandonPlan_stays h _ _ _
  | cons g rest ih =>
    unfold State.planCandidates
    dsimp only
    repeat' first
      | with_reducible assumption | with_reducible apply Stays.toBounds | with_reducible apply State.skipOccurrence_stays
      | with_reducible apply State.planLead_stays | with_reducible apply State.reserveTarget_stays
      | with_reducible apply State.commitPlan_stays | with_reducible apply ih | exact hc | exact fun _ => State.planLead_led _ _ _ _ _ _
      | exact Stays.led_change (by assumption) (by assumption) | exact id | split

theorem State.planOccurrence_stays (h : Stays base s) (t : Nat) (o : Occurrence) (now : Nat) :
    Stays base (State.planOccurrence s t o now) := by
  unfold State.planOccurrence
  dsimp only
  repeat' first
    | with_reducible assumption | with_reducible apply State.abandonPlan_stays | with_reducible apply State.skipOccurrence_stays
    | with_reducible apply State.planCandidates_stays | split

theorem State.dropSkip_stays (h : Stays base s) (t : Nat) (o : Occurrence) : Stays base (State.dropSkip s t o) := by
  unfold State.dropSkip
  dsimp only
  repeat' first | with_reducible assumption | with_reducible refine Stays.withExecutor (s := _) ?_ rfl rfl

theorem State.planFor_stays (h : Stays base s)  (n : Nat) (x : Nat) (y : Nat) : Stays base (State.planFor  n s x y) := by
  induction n generalizing s x y with
  | zero => exact h
  | succ n ih =>
    unfold State.planFor
    dsimp only
    repeat' first
      | with_reducible assumption | with_reducible apply Stays.toBounds | with_reducible apply State.updateDuty_stays
      | with_reducible apply State.recordOutcome_stays | with_reducible apply State.planOccurrence_stays
      | with_reducible apply State.dropSkip_stays | apply ih | exact hc | exact fun _ => State.planLead_led _ _ _ _ _ _
      | exact Stays.led_change (by assumption) (by assumption) | exact id | split

theorem State.planStep_stays (h : Stays base s) (t now : Nat) : Stays base (State.planStep s t now) := by
  unfold State.planStep
  repeat' first | with_reducible assumption | with_reducible apply State.planFor_stays | split

theorem State.dropPlan_stays (h : Stays base s) (t : Nat) : Stays base (State.dropPlan s t) := by
  unfold State.dropPlan
  repeat' first
    | with_reducible assumption | with_reducible apply Stays.setNone | with_reducible apply State.releaseReservation_stays
    | with_reducible apply State.updateDuty_stays | split

theorem State.dropPlans_stays (h : Stays base s)  : Stays base (State.dropPlans s) := by
  unfold State.dropPlans
  repeat' first | with_reducible assumption | with_reducible apply State.dropPlan_stays | with_reducible apply Stays.foldl | intro _

theorem State.abandonChange_stays (h : Stays base s) (t : Nat) (c : Changeover) (hc : base.Led → c.Led) (cause : Cause) :
    Stays base (State.abandonChange s t c cause) := by
  unfold State.abandonChange
  dsimp only
  repeat' first
    | with_reducible assumption | with_reducible apply State.recoveryTest_stays | with_reducible apply Stays.postOnce
    | with_reducible apply Stays.setSome | with_reducible apply Stays.alert | with_reducible apply State.releaseReservation_stays
    | with_reducible apply State.withdrawPreUse_stays | with_reducible apply State.updateDuty_stays
    | with_reducible apply State.recordOutcome_stays | with_reducible apply State.offerRfOff_stays | exact hc | split

theorem State.abandonedStep_stays (h : Stays base s) {t : Nat} {c : Changeover} (hc : base.Led → c.Led) {w : State} (hu : State.abandonedStep s t c = some w) :
    Stays base w := by
  unfold State.abandonedStep at hu
  repeat' first | split at hu | cases hu
  all_goals repeat' first
    | with_reducible assumption | with_reducible apply Stays.toBounds | with_reducible apply Stays.setSome
    | with_reducible apply Stays.setNone | with_reducible apply State.parkRow_stays | exact hc

theorem State.endEntry_stays (h : Stays base s) (t : Nat) (cause : Cause) (how : RouteSettle) :
    Stays base (State.endEntry s t cause how) := by
  unfold State.endEntry
  dsimp only
  repeat' first
    | with_reducible assumption | with_reducible apply Stays.postOnce | with_reducible apply State.updateDuty_stays
    | with_reducible apply State.recordOutcome_stays | with_reducible apply State.offerRfOff_stays | split

theorem State.settleRoute_stays (h : Stays base s) (t : Nat) : Stays base (State.settleRoute s t) := by
  unfold State.settleRoute
  dsimp only
  repeat' first | with_reducible assumption | with_reducible apply State.updateDuty_stays | with_reducible apply State.parkRow_stays | split

theorem State.settleStep_stays (h : Stays base s) {t : Nat} {w : State} (hu : State.settleStep s t = some w) : Stays base w := by
  unfold State.settleStep at hu
  repeat' first | split at hu | cases hu
  all_goals repeat' first
    | with_reducible assumption | with_reducible apply Stays.toBounds | with_reducible apply State.askRead_stays
    | with_reducible apply State.settleRoute_stays

theorem State.releaseHeld_stays (h : Stays base s) (t : Nat) : Stays base (State.releaseHeld s t) := by
  unfold State.releaseHeld
  repeat' first | with_reducible assumption | with_reducible apply Stays.postOnce | with_reducible apply State.updateDuty_stays | split

theorem State.rerouteEntry_stays (h : Stays base s) (t : Nat) (e : CurrentEntry) : Stays base (State.rerouteEntry s t e).1 := by
  unfold State.rerouteEntry
  dsimp only
  repeat' first
    | with_reducible assumption | with_reducible apply Stays.setSome | with_reducible apply State.updateDuty_stays
    | with_reducible apply State.planLead_stays | with_reducible apply State.reserveTarget_stays
    | with_reducible apply State.dropPlan_stays | exact fun _ => State.planLead_led _ _ _ _ _ _ | split

theorem State.entryStep_stays (h : Stays base s) {t : Nat} {w : State} (hu : State.entryStep s t = some w) : Stays base w := by
  unfold State.entryStep at hu
  dsimp only at hu
  repeat' first | split at hu | cases hu
  all_goals repeat' first
    | with_reducible assumption | with_reducible apply Stays.toBounds | with_reducible apply Stays.alert
    | with_reducible apply State.endEntry_stays | with_reducible apply State.settle_stays | exact hc
    | exact fun _ => State.planLead_led _ _ _ _ _ _ | exact Stays.led_change (by assumption) (by assumption) | exact id | split | intro _
    | with_reducible apply State.rerouteEntry_stays

theorem State.orderClose_stays (h : Stays base s) (t : Nat) (c : Changeover) (hc : base.Led → c.Led) :
    Stays base (State.orderClose s t c) := by
  unfold State.orderClose
  dsimp only
  repeat' first | with_reducible assumption | with_reducible apply Stays.setSome | with_reducible apply State.requestMotion_stays | exact hc

theorem State.openRoute_stays (h : Stays base s) (t : Nat) : Stays base (State.openRoute s t) := by
  unfold State.openRoute
  repeat' first | with_reducible assumption | with_reducible apply State.requestMotion_stays | split

theorem State.orderRoute_stays (h : Stays base s) (t : Nat) (c : Changeover) (hc : base.Led → c.Led) :
    Stays base (State.orderRoute s t c) := by
  unfold State.orderRoute
  dsimp only
  repeat' first
    | with_reducible assumption | with_reducible apply Stays.setSome | with_reducible apply State.askPreUse_stays
    | with_reducible apply State.orderDrives_stays | with_reducible apply State.orderClose_stays
    | with_reducible apply State.openRoute_stays | exact hc | split

theorem State.beginRouting_stays (h : Stays base s) (t : Nat) (c : Changeover) (hc : base.Led → c.Led) :
    Stays base (State.beginRouting s t c) := by
  unfold State.beginRouting
  dsimp only
  repeat' first
    | with_reducible assumption | with_reducible apply Stays.postOnce | with_reducible apply State.offerOrder_stays
    | with_reducible apply State.orderRoute_stays | exact hc | split

theorem State.switchInPlace_stays (h : Stays base s) {t : Nat} {c : Changeover} (hc : base.Led → c.Led) {w : State} (hu : State.switchInPlace s t c = some w) :
    Stays base w := by
  unfold State.switchInPlace at hu
  dsimp only at hu
  repeat' first | split at hu | cases hu
  all_goals repeat' first
    | with_reducible assumption | with_reducible apply Stays.toBounds | with_reducible apply Stays.postOnce
    | with_reducible apply Stays.setSome | with_reducible apply Stays.setNone | with_reducible apply State.requestMotion_stays
    | with_reducible apply State.releaseReservation_stays | with_reducible apply State.withdrawPreUse_stays
    | with_reducible apply State.reserveTarget_stays | with_reducible apply State.orderRoute_stays | exact hc

theorem State.replanAlternate_stays (h : Stays base s) (t : Nat) (c : Changeover) : Stays base (State.replanAlternate s t c).1 := by
  unfold State.replanAlternate
  dsimp only
  repeat' first
    | with_reducible assumption | with_reducible apply State.recoveryTest_stays | with_reducible apply Stays.setSome
    | with_reducible apply Stays.alert | with_reducible apply State.releaseReservation_stays | with_reducible apply State.planLead_stays
    | with_reducible apply State.reserveTarget_stays | exact fun _ => State.planLead_led _ _ _ _ _ _ | split

theorem State.targetLost_stays (h : Stays base s) (t : Nat) (c : Changeover) (hc : base.Led → c.Led) :
    Stays base (State.targetLost s t c) := by
  unfold State.targetLost
  dsimp only
  repeat' first
    | with_reducible assumption | with_reducible apply State.abandonChange_stays | split
    | refine State.switchInPlace_stays ?_ ?_ (by assumption) | with_reducible apply State.replanAlternate_stays

theorem State.takeOver_stays (h : Stays base s) (t : Nat) : Stays base (State.takeOver s t) := by
  unfold State.takeOver
  repeat' first
    | with_reducible assumption | with_reducible apply State.updateDuty_stays | with_reducible apply State.recordOutcome_stays | split

theorem State.beginKind_stays (h : Stays base s) (t : Nat) (c : Changeover) (hc : base.Led → c.Led) :
    Stays base (State.beginKind s t c) := by
  unfold State.beginKind
  dsimp only
  repeat' first
    | with_reducible assumption | with_reducible apply Stays.setSome | with_reducible apply State.offerOrder_stays
    | with_reducible apply State.updateDuty_stays | with_reducible apply State.offerRfOff_stays
    | with_reducible apply State.offerPower_stays | with_reducible apply State.endEntry_stays
    | with_reducible apply State.beginRouting_stays | with_reducible apply State.takeOver_stays | exact hc | split

theorem State.beginChange_stays (h : Stays base s) (t : Nat) (c : Changeover) (hc : base.Led → c.Led) (now : Nat) :
    Stays base (s.beginChange t c now) := by
  have cleared (due : Bool) : Stays base (if due then s.endEntry t .endReached .none else s.takeOver t) := by
    split
    · exact State.endEntry_stays h _ _ _
    · exact State.takeOver_stays h _
  unfold State.beginChange
  dsimp only
  refine Stays.postOnce ?_ _
  split
  · exact State.abandonChange_stays (cleared _) t { c with phase := .rampingDown } hc _
  · split
    · exact State.abandonChange_stays (cleared _) t { c with phase := .rampingDown } hc _
    · split
      · exact State.beginKind_stays h t c hc
      · split
        · exact State.abandonChange_stays (cleared _) t { c with phase := .rampingDown } hc _
        next u switched =>
          have there : Stays base u := State.switchInPlace_stays h (c := { c with phase := .rampingDown }) hc switched
          split
          next c' hc' => exact State.beginKind_stays there t c' (there.led_change hc')
          · exact there

theorem State.beginStepAt_stays (h : Stays base s) (t now : Nat) : Stays base (State.beginStepAt s t now) := by
  unfold State.beginStepAt
  repeat' first
    | with_reducible assumption | with_reducible apply State.beginChange_stays | exact Stays.led_change (by assumption) (by assumption)
    | split

theorem State.changeDone_stays (h : Stays base s) (t : Nat) (c : Changeover) : Stays base (State.changeDone s t c) := by
  unfold State.changeDone
  dsimp only
  repeat' first
    | with_reducible assumption | with_reducible apply Stays.setNone | with_reducible apply State.updateDuty_stays
    | with_reducible apply State.recordOutcome_stays

theorem State.orderTune_stays (h : Stays base s) (t : Nat) (c : Changeover) (hc : base.Led → c.Led) :
    Stays base (State.orderTune s t c) := by
  unfold State.orderTune
  dsimp only
  repeat' first
    | with_reducible assumption | with_reducible apply Stays.setSome | with_reducible apply State.offerOrder_stays | exact hc | split

theorem State.leaveRouting_stays (h : Stays base s) {t : Nat} {c : Changeover} (hc : base.Led → c.Led) {w : State} (hu : State.leaveRouting s t c = some w) :
    Stays base w := by
  unfold State.leaveRouting at hu
  repeat' first | split at hu | cases hu
  all_goals repeat' first
    | with_reducible assumption | with_reducible apply Stays.toBounds | with_reducible apply Stays.setSome
    | with_reducible apply Stays.setNone | with_reducible apply State.orderTune_stays | exact hc

theorem State.beginRampUp_stays (h : Stays base s) (t : Nat) (c : Changeover) (hc : base.Led → c.Led) :
    Stays base (State.beginRampUp s t c) := by
  unfold State.beginRampUp
  repeat' first
    | with_reducible assumption | with_reducible apply Stays.setSome | with_reducible apply State.offerRfOn_stays
    | with_reducible apply State.abandonChange_stays | exact hc | split

theorem State.changeStep_stays (h : Stays base s) {t : Nat} {c : Changeover} (hc : base.Led → c.Led) {w : State} (hu : State.changeStep s t c = some w) :
    Stays base w := by
  unfold State.changeStep at hu
  repeat' first | split at hu | cases hu
  all_goals repeat' first
    | with_reducible assumption | with_reducible apply Stays.toBounds | with_reducible apply Stays.setSome
    | with_reducible apply Stays.setNone | with_reducible apply State.abandonChange_stays | with_reducible apply State.beginRouting_stays
    | with_reducible apply State.targetLost_stays | with_reducible apply State.changeDone_stays
    | with_reducible apply State.orderTune_stays | with_reducible apply State.beginRampUp_stays | exact hc
    | exact fun _ => State.planLead_led _ _ _ _ _ _ | exact Stays.led_change (by assumption) (by assumption) | exact id | split | intro _
    | refine State.abandonedStep_stays ?_ ?_ (by assumption) | refine State.leaveRouting_stays ?_ ?_ (by assumption)

theorem State.executorProgress_stays (h : Stays base s) (t : Nat) : Stays base (State.executorProgress s t) := by
  unfold State.executorProgress
  dsimp only
  repeat' first
    | with_reducible assumption | with_reducible apply Stays.postOnce | exact Stays.led_change (by assumption) (by assumption) | split
    | refine State.settleStep_stays ?_ (by assumption) | refine State.entryStep_stays ?_ (by assumption)
    | refine State.changeStep_stays ?_ ?_ (by assumption) | (rename_i k; split at k)

theorem State.seamlessOrder_stays (h : Stays base s) (t : Nat) (c : Changeover) (hc : base.Led → c.Led) (kind : OrderKind) (owner : OrderOwner) (e : OrderEnd) :
    Stays base (State.seamlessOrder s t c kind owner e) := by
  unfold State.seamlessOrder
  dsimp only
  repeat' first
    | with_reducible assumption | with_reducible apply Stays.postOnce | with_reducible apply Stays.setSome
    | with_reducible apply State.offerOrder_stays | with_reducible apply State.offerPower_stays
    | with_reducible apply State.abandonChange_stays | exact hc | split

theorem State.tuneOrder_stays (h : Stays base s) (t : Nat) (c : Changeover) (hc : base.Led → c.Led) (e : OrderEnd) :
    Stays base (State.tuneOrder s t c e) := by
  unfold State.tuneOrder
  repeat' first | with_reducible assumption | with_reducible apply Stays.postOnce | with_reducible apply Stays.setSome | exact hc | split

theorem State.orderOutcome_stays (h : Stays base s) (t : Nat) (kind : OrderKind) (owner : OrderOwner) (e : OrderEnd) :
    Stays base (State.orderOutcome s t kind owner e) := by
  unfold State.orderOutcome
  repeat' first
    | with_reducible assumption | with_reducible apply State.seamlessOrder_stays | with_reducible apply State.tuneOrder_stays
    | exact Stays.led_change (by assumption) (by assumption) | split

theorem State.preUseOutcome_stays (h : Stays base s) (t a : Nat) (passed : Option Bool) : Stays base (s.preUseOutcome t a passed) := by
  unfold State.preUseOutcome
  split
  · exact h
  next c hc =>
    have led : base.Led → c.Led := h.led_change hc
    split
    · refine Stays.postOnce ?_ _
      split
      · exact State.orderClose_stays h t _ led
      · exact State.orderClose_stays h t _ led
      · exact State.targetLost_stays h t c led
    · exact h

theorem State.routeBound_stays (h : Stays base s) (t : Nat) : Stays base (s.routeBound t) := by
  unfold State.routeBound
  split
  · exact h
  next c hc =>
    have led : base.Led → c.Led := h.led_change hc
    split
    · dsimp only
      split
      all_goals
        split
        · split
          next u switched => exact State.switchInPlace_stays h (c := { c with routeStart := some s.clock }) led switched
          · exact State.abandonChange_stays h t c led _
        · exact h
    · exact h

theorem State.endStepAt_stays (h : Stays base s) (t now : Nat) : Stays base (State.endStepAt s t now) := by
  unfold State.endStepAt
  repeat' first | with_reducible assumption | with_reducible apply State.endEntry_stays | split

theorem State.heldStepAt_stays (h : Stays base s) (t now : Nat) : Stays base (State.heldStepAt s t now) := by
  unfold State.heldStepAt
  repeat' first | with_reducible assumption | with_reducible apply State.releaseHeld_stays | split

theorem State.transmitterWork_stays (h : Stays base s) (now t : Nat) (second : Bool) :
    Stays base (State.transmitterWork s now t second) := by
  unfold State.transmitterWork
  dsimp only
  repeat' first
    | with_reducible assumption | with_reducible apply Stays.postOnce | with_reducible apply State.planStep_stays
    | with_reducible apply State.beginStepAt_stays | with_reducible apply State.routeBound_stays
    | with_reducible apply State.endStepAt_stays | with_reducible apply State.heldStepAt_stays | split

theorem State.transmitterPass_stays (h : Stays base s) (now t : Nat) (second : Bool) :
    Stays base (State.transmitterPass s now t second) := by
  unfold State.transmitterPass
  repeat' first
    | with_reducible assumption | with_reducible apply Stays.toBounds | with_reducible apply State.askRead_stays
    | with_reducible apply State.transmitterWork_stays | split

theorem State.seasonCheck_stays (h : Stays base s) (now : Nat) : Stays base (State.seasonCheck s now) := by
  unfold State.seasonCheck
  dsimp only
  repeat' first
    | with_reducible assumption | with_reducible apply Stays.alert | with_reducible apply State.dropPlans_stays | split
    | with_reducible refine Stays.withExecutor (s := _) ?_ rfl rfl

theorem State.pruneSkip_stays (h : Stays base s) (now : Nat) : Stays base (State.pruneSkip s now) := by
  unfold State.pruneSkip
  dsimp only
  repeat' first | with_reducible assumption | with_reducible refine Stays.withExecutor (s := _) ?_ rfl rfl

theorem State.executorPass_stays (h : Stays base s) (now : Nat) (second : Bool) : Stays base (State.executorPass s now second) := by
  unfold State.executorPass
  repeat' first
    | with_reducible assumption | with_reducible apply State.transmitterPass_stays | with_reducible apply State.seasonCheck_stays
    | with_reducible apply State.pruneSkip_stays | with_reducible apply Stays.foldl | intro _

theorem State.doWork_stays (h : Stays base s) (w : ExecWork) : Stays base (State.doWork s w) := by
  unfold State.doWork
  repeat' first
    | with_reducible assumption | with_reducible apply Stays.postOnce | with_reducible apply State.settleRoute_stays
    | with_reducible apply State.transmitterWork_stays | split

theorem State.executorServed_stays (h : Stays base s)  : Stays base (State.executorServed s) := by
  unfold State.executorServed
  dsimp only
  repeat' first
    | with_reducible assumption | with_reducible apply State.doWork_stays | with_reducible apply Stays.foldl | intro _
    | with_reducible refine Stays.withExecutor (s := _) ?_ rfl rfl

theorem State.largeStep_stays (h : Stays base s)  : Stays base (State.largeStep s) := by
  unfold State.largeStep
  dsimp only
  repeat' first
    | with_reducible assumption | with_reducible apply Stays.alert | with_reducible apply State.dropPlans_stays | split
    | with_reducible refine Stays.withExecutor (s := _) ?_ rfl rfl

theorem State.secondEvent_stays (h : Stays base s) (instant : Nat) (x : TimeStep) : Stays base (State.secondEvent s instant x) := by
  unfold State.secondEvent
  dsimp only
  repeat' first
    | with_reducible assumption | with_reducible apply Stays.post | with_reducible apply State.handoversDue_stays
    | with_reducible apply State.largeStep_stays | split

theorem State.cutEntry_stays (h : Stays base s) (instant t : Nat) : Stays base (s.cutEntry instant t) := by
  have cut := State.updateDuty_stays h t fun d =>
    { d with handledThrough := none, current := d.current.map fun e => { e with endAt := min e.endAt instant } }
  unfold State.cutEntry
  dsimp only
  split
  next c hc => exact cut.setSome t _ fun hs => cut.led hs t c hc
  · exact cut

theorem State.cutEntries_stays (h : Stays base s) (instant : Nat) : Stays base (State.cutEntries s instant) := by
  unfold State.cutEntries
  repeat' first
    | with_reducible assumption | with_reducible apply State.dropPlans_stays | with_reducible apply State.cutEntry_stays
    | with_reducible apply Stays.foldl | intro _

theorem State.newSeason_stays (h : Stays base s)  : Stays base (State.newSeason s) := by
  unfold State.newSeason
  dsimp only
  repeat' first | with_reducible assumption | with_reducible refine Stays.withExecutor (s := _) ?_ rfl rfl

theorem State.handoverNotice_stays (h : Stays base s) (instant : Nat) : Stays base (s.handoverNotice instant) := by
  have season := State.newSeason_stays (State.cutEntries_stays h instant)
  unfold State.handoverNotice
  dsimp only
  split
  · split
    · exact State.executorPass_stays season _ _
    · exact season
  · exact season

theorem State.rebuildHandled_stays (h : Stays base s)  : Stays base (State.rebuildHandled s) := by
  unfold State.rebuildHandled
  repeat' first
    | with_reducible assumption | with_reducible apply State.updateDuty_stays | with_reducible apply Stays.foldl | split | intro _

theorem State.dropExpired_stays (h : Stays base s) (now t : Nat) : Stays base (State.dropExpired s now t) := by
  unfold State.dropExpired
  repeat' first
    | with_reducible assumption | with_reducible apply State.recordOutcome_stays | with_reducible apply State.dropPlan_stays | split

theorem State.beginDue_stays (h : Stays base s) (now t : Nat) : Stays base (State.beginDue s now t) := by
  unfold State.beginDue
  repeat' first
    | with_reducible assumption | with_reducible apply State.beginChange_stays | exact Stays.led_change (by assumption) (by assumption)
    | split

theorem State.releasePlans_stays (h : Stays base s) (now : Nat) : Stays base (State.releasePlans s now) := by
  unfold State.releasePlans
  repeat' first
    | with_reducible assumption | with_reducible apply State.dropExpired_stays | with_reducible apply State.beginDue_stays
    | with_reducible apply Stays.foldl | intro _

theorem State.skipNamed_stays (h : Stays base s) (t entryId day : Nat) : Stays base (State.skipNamed s t entryId day) := by
  unfold State.skipNamed
  dsimp only
  repeat' first
    | with_reducible assumption | with_reducible apply State.updateDuty_stays | with_reducible apply State.recordOutcome_stays
    | with_reducible apply State.dropSkip_stays | with_reducible apply State.dropPlan_stays | split
    | with_reducible refine Stays.withExecutor (s := _) ?_ rfl rfl

end Sys2Proof.Machine

/-! # What stays across the hand-overs of a command

A notice that is taken off tests the lines or leaves the tests that wait waiting, so settling keeps `Stays` (`State.settled_stays`). -/

namespace Sys2Proof.Machine

open Sys2Proof

set_option Elab.async false

variable {base s : State}

/-- A notice taken off leaves the tests that wait, unless it asks for one. -/
theorem Stays.taken (h : Stays base s) {n : Notice} {rest : List Notice} (notices : s.notices = n :: rest) (permits : n ≠ .permits)
    (matrix : n ≠ .matrix) : Stays base { s with notices := rest } where
  toBounds := h.toBounds.trans {}
  rightful sized r h1 h12 hr := by
    refine (h.rightful sized r h1 h12 hr).imp (fun tests => ?_) fun stands line => (stands line).mono {}
    simp only [State.TestsWait, notices, List.mem_cons] at tests
    exact tests.imp (fun m => m.resolve_left permits.symm) fun m => m.resolve_left matrix.symm

theorem State.readSaveSector_stays (h : Stays base s) (sector : Nat) : Stays base (State.readSaveSector s sector) := by
  unfold State.readSaveSector
  repeat' first | with_reducible assumption | with_reducible apply State.requestRead_stays

/-- A served read is handed to its reader; a host reader is answered only while its request is being handled (R39). -/

theorem State.readerServed_stays (h : Stays base s) (r : Reader) : Stays base (s.readerServed r) := by
  unfold State.readerServed
  split
  · exact State.verifierServed_stays h
  · exact State.restoreServed_stays h
  · split
    · exact h.answer _ _ _
    · exact h
  · split
    · unfold State.entryReadServed
      split
      · exact h.answer _ _ _
      · exact h.answer _ _ _
    · exact h
  · split
    · unfold State.presetSaveServed
      split
      · exact h.answer _ _ _
      · split
        · exact State.readSaveSector_stays h _
        · exact (State.offerPages_stays (h.withCache (x := { s.pc with save := some { next := 0, done := 0 } }) rfl) _).answer _ _ _
    · exact h
  · exact State.executorServed_stays h
  · split
    · unfold State.occurrenceSkipServed State.handle
      split
      · exact h.answer _ _ _
      · exact (State.skipNamed_stays h _ _ _).answer _ _ _
    · exact h

theorem State.clientTold_stays (h : Stays base s) (kind : ItemKind) (failure : Option FailCause) :
    Stays base (State.clientTold s kind failure) := by
  unfold State.clientTold
  repeat' first
    | with_reducible assumption | with_reducible apply State.savePageEnded_stays | with_reducible apply State.loadPageEnded_stays
    | with_reducible apply State.bookEraseEnded_stays | with_reducible apply State.markEnded_stays | split

theorem State.askExecutor_stays (h : Stays base s)  : Stays base (State.askExecutor s) := by
  unfold State.askExecutor
  repeat' first | with_reducible assumption | with_reducible apply Stays.postOnce | with_reducible apply Stays.foldl | intro _

theorem State.reservationNotice_stays (h : Stays base s) (a t : Nat) : Stays base (State.reservationNotice s a t) := by
  unfold State.reservationNotice
  repeat' first
    | with_reducible assumption | with_reducible apply State.releaseHeld_stays | with_reducible apply Stays.foldl | split | intro _

theorem State.handleNotice_stays (h : Stays base s) (n : Notice) : Stays base (State.handleNotice s n) := by
  unfold State.handleNotice
  repeat' first
    | with_reducible assumption | with_reducible apply Stays.toBounds | with_reducible apply Stays.postOnce
    | with_reducible apply State.resume_stays | with_reducible apply State.offerAgain_stays | with_reducible apply State.arbitrate_stays
    | with_reducible apply State.matrixChanged_stays | with_reducible apply State.surveyProgress_stays
    | with_reducible apply State.permitsChanged_stays | with_reducible apply State.trySend_stays
    | with_reducible apply State.recoveryWaitTest_stays | with_reducible apply State.dropNotice_stays
    | with_reducible apply State.arcCounted_stays | with_reducible apply State.diagProgress_stays
    | with_reducible apply State.claimLost_stays | with_reducible apply State.executorProgress_stays
    | with_reducible apply State.orderOutcome_stays | with_reducible apply State.preUseOutcome_stays
    | with_reducible apply State.executorPass_stays | with_reducible apply State.secondEvent_stays
    | with_reducible apply State.handoverNotice_stays | with_reducible apply State.readerServed_stays
    | with_reducible apply State.clientTold_stays | with_reducible apply State.askExecutor_stays
    | with_reducible apply State.reservationNotice_stays | split

theorem State.settle_stays (h : Stays base s) (n : Nat) : Stays base (State.settle n s) := by
  induction n generalizing s with
  | zero => exact h
  | succ n ih =>
    unfold State.settle
    split
    · exact h
    next x rest notices =>
      refine ih ?_
      have bounds : Bounds base { s with notices := rest } := h.toBounds.trans {}
      by_cases permits : x = .permits
      · exact permits ▸ State.permitsChanged_stays bounds
      · by_cases matrix : x = .matrix
        · exact matrix ▸ State.matrixChanged_stays bounds
        · exact State.handleNotice_stays (h.taken notices permits matrix) x

theorem State.settled_stays (h : Stays base s)  : Stays base (State.settled s) := by
  unfold State.settled
  repeat' first | with_reducible assumption | with_reducible apply State.settle_stays

end Sys2Proof.Machine

/-! # What stays across the effects of the commands

Every request's and every event's effect keeps `Stays`, or keeps `Bounds` and has the lines tested. A change of the hall's parameters and
a reset are left to the commands that make them. -/

namespace Sys2Proof.Machine

open Sys2Proof

set_option Elab.async false

variable {base s : State}

/-! ## The Link Controller -/

theorem State.discardFrame_stays (h : Stays base s) (cause : FrameDiscard) : Stays base (s.discardFrame cause) :=
  (h.withLink { s.lc with receiver := .hunt, counters := s.lc.counters.discard cause }).alert _

theorem State.frameArrives_stays (h : Stays base s) (f : WaitingFrame) : Stays base (s.frameArrives f) := by
  unfold State.frameArrives
  split
  · exact h.withLink _
  · exact (h.withLink { s.lc with receiver := .hunt, counters := { s.lc.counters with
      overflow := satSucc 65535 s.lc.counters.overflow } }).alert _

theorem State.takeHostOctet_stays (h : Stays base s) (o : LineOctet) : Stays base (s.takeHostOctet o) := by
  unfold State.takeHostOctet State.hostEvent
  dsimp only
  split
  · exact h.withLink _
  · exact h.withLink _
  · exact State.discardFrame_stays h _
  · exact State.frameArrives_stays h _

/-! ## Requests -/

theorem Stays.handleChecked (h : Stays base s) {f : State → State} (k : Nat) (checks : List (Bool × Status))
    (hf : checks.find? (fun c => c.1) = none → Stays base (f s)) : Stays base (s.handle k checks f) := by
  unfold State.handle
  split
  · exact h.answer _ _ _
  next passed => exact hf passed

theorem Stays.handle (h : Stays base s) {f : State → State} (k : Nat) (checks : List (Bool × Status)) (hf : Stays base (f s)) :
    Stays base (s.handle k checks f) := h.handleChecked k checks fun _ => hf

theorem Stays.request (h : Stays base s) {f : State → State} (k : Nat) (checks : List (Bool × Status)) (hf : Stays base (f s)) :
    Stays base (s.request k checks f) := h.handle k checks (State.settled_stays hf)

theorem Stays.report (h : Stays base s) (k : Nat) (checks : List (Bool × Status)) (body : List Byte) :
    Stays base (s.report k checks body) := h.handle k checks (h.answer _ _ _)

/-! ## The hall tables -/

theorem Stays.nextScrub (h : Stays base s) : Stays base s.nextScrub := h.withCache rfl

theorem State.checkStale_stays (h : Stays base s) (t : Nat) : Stays base (s.checkStale t) := by
  unfold State.checkStale
  split
  · exact h.setProt t _
  · exact h

/-- A link that is lost has the lines tested (R124, R158). -/
theorem State.linkBecomesLost_stays (h : Bounds base s) (t : Nat) : Stays base (s.linkBecomesLost t) :=
  Stays.postOnce_permits ((h.setSeq t { s.seq t with link := .lost }).stays
    (State.linkLossAt_stays ((Stays.refl _).alert .txLink) t))

theorem State.checkLink_stays (h : Stays base s) (t : Nat) : Stays base (s.checkLink t) := by
  unfold State.checkLink
  split
  · exact State.linkBecomesLost_stays h.toBounds t
  · exact h

/-- A slot that enters or leaves the count begins anew; the lines are tested once all have. -/
theorem State.resetSlot_bounds (h : Bounds base s) (t : Nat) : Bounds base (s.resetSlot t) := by
  unfold State.resetSlot
  dsimp only
  have plan : Stays s (match s.change t with
      | some c => (s.releaseReservation t c.target.antenna).withdrawPreUse t
      | none => s) := by
    split
    · exact State.withdrawPreUse_stays (State.releaseReservation_stays (Stays.refl s) _ _) _
    · exact Stays.refl s
  exact ((h.stays ((plan.setDuty t Duty.reset).setNone t)).setProt t (Protection.reset 0 0) fun _ => Nat.zero_le _).setSeq t _

theorem State.forgetAntenna_bounds (h : Bounds base s) (a : Nat) : Bounds base (s.forgetAntenna a) :=
  (h.setFaultSet a 0).stays ((Stays.refl _).setLastChecked a none)

/-- What follows a change of the hall tables ends with a test of the lines (R4, R124). -/
theorem State.tablesChanged_stays (h : Bounds base s) (before : State) : Stays base (s.tablesChanged before) := by
  have slots := Bounds.foldl (fun u t (hu : Bounds base u) => State.resetSlot_bounds hu t)
    (slotsBetween before.params.txCount s.params.txCount) s h
  have antennas := Bounds.foldl (fun u a (hu : Bounds base u) => State.forgetAntenna_bounds hu a)
    ((upTo 24).filter fun a => decide
      (((slotsBetween before.params.txCount s.params.txCount).foldl (fun s t => s.resetSlot t) s).params.antCount < a)) _ slots
  have links := Stays.foldl (fun u t (hu : Stays base u) => State.checkStale_stays (State.checkLink_stays hu t) t) (upTo 12) _
    (State.presenceChanged_stays antennas before)
  unfold State.tablesChanged
  dsimp only
  split
  · exact (links.nextScrub.postOnce _).postOnce _
  · exact (links.postOnce _).postOnce _

theorem State.setAnt_stays (h : Bounds base s) (a : Nat) (r : AntRecord) : Stays base (s.setAnt a r) := by
  have tables : Bounds base { s with ht := { s.ht with ants := setNth s.ht.ants a (some r) } } :=
    h.trans { sized := State.sized_of_sizes (by simp [State.sizes]) }
  exact (State.presenceChanged_stays (tables.stays ((Stays.refl _).addFault a .unchecked)) s).postOnce _

theorem State.takeLicence_stays (h : Stays base s) (first total final : Nat) (lines : List LicenceLine) :
    Stays base (s.takeLicence first total final lines) := by
  unfold State.takeLicence
  dsimp only
  split
  · exact State.offer_stays (h.trans .of_grounds) _ _
  · exact h.trans .of_grounds

/-! ## Safety inputs, R129 to R136 -/

/-- Every item of a table with one item replaced has what the old ones had and the new one keeps. -/
theorem forall_mem_setNth {α : Type} {p : α → Prop} {xs : List α} {d v : α} {n : Nat} (old : ∀ x ∈ xs, p x)
    (new : p (nth xs d n) → p v) : ∀ x ∈ setNth xs n v, p x := by
  unfold setNth
  split
  · exact old
  next pos =>
    intro x hx
    by_cases inside : n - 1 < xs.length
    · have here : nth xs d n = xs[n - 1] := by
        simp [nth, pos, List.getD_eq_getElem?_getD, List.getElem?_eq_getElem inside]
      obtain mem | rfl := List.mem_or_eq_of_mem_set hx
      · exact old x mem
      · exact new (here ▸ old _ (List.getElem_mem inside))
    · rw [List.set_eq_of_length_le (Nat.le_of_not_lt inside)] at hx
      exact old x hx

/-- An input that leaves a row free leaves it so. -/
theorem Stays.setInput (h : Stays base s) (n : Nat) (i : SafetyInput)
    (free : ∀ r, (s.input n).covers r = true → (s.input n).state = .inactive → i.covers r = true → i.state = .inactive)
    (uncovered : ∀ r, (s.input n).covers r = false → i.covers r = true → i.state = .inactive) : Stays base (s.setInput n i) :=
  h.trans (.of_grounds ((Bounds.refl s).setInput n i)
    { safety := fun r hr => State.safetyHolds_iff.mpr (forall_mem_setNth (State.safetyHolds_iff.mp hr) fun old => by
        cases covered : (s.input n).covers r with
        | true => exact free r covered (old covered)
        | false => exact uncovered r covered) })

/-- An input keeps its definition, and is INACTIVE where it was. -/
theorem Stays.setInputState (h : Stays base s) (n : Nat) (i : SafetyInput) (covers : ∀ r, i.covers r = (s.input n).covers r)
    (state : (s.input n).state = .inactive → i.state = .inactive) : Stays base (s.setInput n i) :=
  h.setInput n i (fun _ _ off _ => state off) fun r uncovered covered => absurd covered (by simp [covers, uncovered])

/-- An activation has the lines tested (R124, R130). -/
theorem State.activate_stays (h : Bounds base s) (n : Nat) : Stays base (s.activate n) := by
  have set := (Stays.postOnce_permits (h.setInput n { s.input n with
    state := .active, activations := satSucc 65535 (s.input n).activations })).alert .safety
  unfold State.activate
  dsimp only
  split
  · exact (State.haltAll_stays set).postOnce _
  · exact set

theorem State.beginRelease_stays (h : Stays base s) (n : Nat) (active : (s.input n).state ≠ .inactive) :
    Stays base (s.beginRelease n) :=
  h.setInputState n _ (fun _ => rfl) fun off => absurd off active

theorem State.inputReleased_stays (h : Stays base s) (n : Nat) : Stays base (s.inputReleased n) := by
  have set := (h.setInputState n { s.input n with state := .inactive, window := none } (fun _ => rfl) fun _ => rfl).postOnce .permits
  unfold State.inputReleased
  dsimp only
  split
  · exact (State.releaseHalt_stays set).postOnce _
  · exact set

/-- An INACTIVE input is defined anew (R134). -/
theorem State.defineInput_stays (h : Stays base s) (n : Nat) (kind : SafetyKind) (level : Level) (rows : List Nat)
    (off : (s.input n).state = .inactive) : Stays base (s.defineInput n kind level rows) := by
  have set := h.setInput n { s.input n with kind := kind, level := level, rows := rows } (fun _ _ _ _ => off) fun _ _ _ => off
  unfold State.defineInput
  dsimp only
  split
  · exact State.activate_stays set.toBounds n
  · exact set

theorem State.defineInput_bounds (h : Bounds base s) (n : Nat) (kind : SafetyKind) (level : Level) (rows : List Nat) :
    Bounds base (s.defineInput n kind level rows) := by
  have set := h.setInput n { s.input n with kind := kind, level := level, rows := rows }
  unfold State.defineInput
  dsimp only
  split
  · exact (State.activate_stays set n).toBounds
  · exact set

/-- An input that is written keeps a property that its new and its old record have. -/
theorem State.input_setInput_of {p : SafetyInput → Prop} {n : Nat} {i : SafetyInput} (new : p i) (old : p (s.input n)) :
    p ((s.setInput n i).input n) := nth_setNth_of (fun _ => new) old

theorem State.inputEdge_stays (h : Stays base s) (n : Nat) (level : Level) : Stays base (s.inputEdge n level) := by
  have sensed := h.setInputState n { s.input n with sensed := level } (fun _ => rfl) id
  unfold State.inputEdge
  dsimp only
  split
  · split
    · exact State.activate_stays sensed.toBounds n
    · exact sensed
  next on =>
    split
    · exact sensed
    · exact State.beginRelease_stays sensed n (State.input_setInput_of (p := fun i => i.state ≠ .inactive) (by simp [on]) (by simp [on]))
  next on =>
    split
    · refine sensed.setInputState n _ (fun r => ?_) fun off => ?_
      · exact (State.input_setInput_of (p := fun i => (s.input n).covers r = i.covers r) rfl rfl)
      · exact absurd off (State.input_setInput_of (p := fun i => i.state ≠ .inactive) (by simp [on]) (by simp [on]))
    · exact sensed

theorem State.resetInputs_bounds (h : Bounds base s) : Bounds base s.resetInputs := by
  unfold State.resetInputs
  refine Bounds.foldl (fun u n hu => ?_) _ _ h
  dsimp only
  have active := hu.setInput n { u.input n with state := .active, window := none }
  split
  · exact active
  · exact active.setInput n _

theorem State.restartInputs_bounds (h : Bounds base s) : Bounds base s.restartInputs := by
  have judged := State.resetInputs_bounds h
  unfold State.restartInputs
  generalize s.resetInputs = u at judged
  exact judged.trans {}

theorem State.resetAlert_stays (h : Stays base s) : Stays base s.resetAlert := by
  have disarmed : Stays base { s with pu := { s.pu with resetAlertAt := none } } := h.trans .of_grounds
  unfold State.resetAlert
  dsimp only
  split
  · exact disarmed.alert _
  · exact disarmed

/-- The end of an arc hold (R133). -/
theorem Stays.endArcHold (h : Stays base s) (a : Nat) : Stays base (s.setArcHold a none) :=
  h.trans (.of_grounds ((Bounds.refl s).setArcHold a none)
    { arcs := fun k hk => nth_setNth_of (p := fun x => x = none) (fun _ => rfl) hk })

/-- An arc has the lines tested (R124, R133). -/
theorem State.arcOn_stays (h : Bounds base s) (a : Nat) : Stays base (s.arcOn a) :=
  (Stays.postOnce_permits (h.setArcHold a _)).post _

/-! ## The configuration record -/

theorem Stays.setWindow (h : Stays base s) (w : Nat) (x : PresetWindow) : Stays base (s.setWindow w x) :=
  State.mapSets_stays (h.withCache (x := { s.pc with windows := setNth s.pc.windows w x }) (by simp [PresetCache.sizes])) _

/-- The record's inputs, windows and fault flags, once its tables stand, and the test of the lines (R14). -/
theorem State.applyConfig_stays (x : ConfigRecord) : Stays (s.withConfig x) (s.applyConfig x) := by
  have defined := Bounds.foldl (fun u (p : Nat × SafetyDef) (hu : Bounds (s.withConfig x) u) =>
    State.defineInput_bounds hu p.1 p.2.kind p.2.level p.2.rows) (s.inputsDiffering x) _ (Bounds.refl _)
  have windowed := Bounds.foldl (fun u (p : Nat × PresetWindow) (hu : Bounds (s.withConfig x) u) =>
    hu.stays ((Stays.refl u).setWindow p.1 p.2)) ((x.windows.zipIdx).map fun p => (p.2 + 1, p.1)) _ defined
  have unchecked := Bounds.foldl (fun u a (hu : Bounds (s.withConfig x) u) => hu.stays ((Stays.refl u).addFault a .unchecked))
    (upTo 24) _ windowed
  exact State.tablesChanged_stays unchecked s

/-! ## The Time Base -/

theorem State.timeEnds_stays (h : Stays base s) : Stays base s.timeEnds := (h.setTime _).alert _

theorem State.secondMark_stays (h : Stays base s) : Stays base s.secondMark := by
  have elapsed := h.setTime s.tb.elapse
  have marked (x : TimeBase) (n : Notice) : Stays base (((s.setTime s.tb.elapse).setTime x).post n) := (elapsed.setTime x).post n
  unfold State.secondMark
  dsimp only
  split
  · split <;> split
    · exact State.timeEnds_stays elapsed
    · exact marked _ _
    · exact State.timeEnds_stays elapsed
    · exact marked _ _
  · split <;> split
    · exact State.timeEnds_stays elapsed
    · exact marked _ _
    · exact State.timeEnds_stays elapsed
    · exact marked _ _
  · exact elapsed

theorem State.firstMark_stays (h : Stays base s) (p : PendingSet) (x : TimeState) (m : Option Nat) : Stays base (s.firstMark p x m) :=
  (h.setTime _).post _

theorem State.ignorePulse_stays (h : Stays base s) : Stays base s.ignorePulse := by
  unfold State.ignorePulse
  dsimp only
  split
  · exact h.setTime _
  · split
    · split
      · exact h.setTime _
      · exact h.setTime _
    · exact h.setTime _

theorem State.acceptPulse_stays (h : Stays base s) : Stays base s.acceptPulse := h.setTime _

theorem State.pulse_stays (h : Stays base s) : Stays base s.pulse := by
  unfold State.pulse
  split
  · exact h
  · split
    · exact State.firstMark_stays h _ _ _
    · exact h
  · split
    · exact State.secondMark_stays (State.acceptPulse_stays h)
    · exact State.ignorePulse_stays h
  · split
    · exact State.secondMark_stays (State.acceptPulse_stays h)
    · split
      · split
        · exact State.acceptPulse_stays h
        · exact State.ignorePulse_stays h
      · exact State.ignorePulse_stays h

theorem State.oscillate_stays (h : Stays base s) : Stays base s.oscillate := (State.secondMark_stays (h.reach _)).setTime _

theorem State.closeWindow_stays (h : Stays base s) : Stays base s.closeWindow := (State.secondMark_stays (h.reach _)).setTime _

/-! ## The Season Store -/

theorem Stays.undefine (h : Stays base s) (address length : Nat) : Stays base (s.undefine address length) := h.trans .of_grounds

theorem State.cutShort_stays (h : Stays base s) : Stays base s.cutShort := by
  unfold State.cutShort
  split
  · exact h.undefine _ _
  · exact h

theorem State.operationPassed_stays (h : Stays base s) (o : Operation) : Stays base (s.operationPassed o) := by
  unfold State.operationPassed
  dsimp only
  have written := h.setStore (x := { s.ss with
    array := o.op.apply s.ss.array
    failedSectors := match o.op with
      | .erase k => s.ss.failedSectors.filter (· != k)
      | .program _ _ => s.ss.failedSectors })
  split
  · exact State.operationDone_stays (State.hostOpEnds_stays written _)
  · exact State.operationDone_stays written

theorem State.operationFailed_stays (h : Stays base s) (o : Operation) : Stays base (s.operationFailed o) := by
  have undefined : Stays base (match o.op with
      | .erase k => s.undefineSector k
      | .program a data => s.undefine a data.length) := by
    split
    · exact h.undefine _ _
    · exact h.undefine _ _
  unfold State.operationFailed
  extract_lets u
  have recorded : Stays base u := State.recordFailure_stays undefined _ _ _
  split
  · exact State.operationDone_stays (State.hostOpEnds_stays recorded _)
  · exact State.operationDone_stays (State.itemEnds_stays (recorded.setStore) _ _)

/-- An overrun once its failure has been recorded empties the work list (R37). -/
theorem State.overrun_recorded_stays {base : State} {o : Operation}
    (hbase : (s.undefineSector o.op.sector).recordFailure o.op o.owner .overrun = base) : Stays base (s.overrun o) := by
  unfold State.overrun
  rw [hbase]
  extract_lets recorded _ stopped _ ended _ emptied
  have records : Stays base recorded := Stays.refl base
  have stops : Stays base stopped := State.serveAll_stays (Stays.setStore records)
  have ends : Stays base ended := by
    unfold ended
    split
    · exact State.hostOpEnds_stays stops _
    · exact State.itemEnds_stays (Stays.setStore stops) _ _
  have empties : Stays base emptied := Stays.foldl (fun v x hv => State.itemEnds_stays hv _ _) _ _
    (Stays.setStore ends fun _ => Nat.zero_le _)
  split
  · exact empties
  · exact empties.postOnce _

theorem State.overrun_stays (h : Stays base s) (o : Operation) : Stays base (s.overrun o) :=
  (State.recordFailure_stays (h.undefine _ _) _ _ _).trans (State.overrun_recorded_stays rfl)

theorem State.startHostOp_stays (h : Stays base s) (op : StoreOp) : Stays base (s.startHostOp op) :=
  (State.startOp_stays h _ _).setStore

/-! ## The books -/

theorem State.offerLoadPage_stays (h : Stays base s) (n slot page : Nat) (records : List (List Byte)) :
    Stays base (s.offerLoadPage n slot page records) := State.offer_stays h _ _

theorem State.addEntry_stays (h : Stays base s) (n : Nat) (record : List Byte) : Stays base (s.addEntry n record) := by
  unfold State.addEntry
  dsimp only
  split
  · exact h.setBook _ _
  · exact State.offerLoadPage_stays (h.setBook _ _) _ _ _ _

theorem State.sealBook_stays (h : Stays base s) (n count crc : Nat) : Stays base (s.sealBook n count crc) := by
  unfold State.sealBook
  dsimp only
  split
  · exact State.markDue_stays (h.setBook _ _) _ _ _
  · exact State.markDue_stays ((State.offerLoadPage_stays (h.setBook _ _) _ _ _ _).setBook _ _) _ _ _

theorem State.eraseBook_stays (h : Stays base s) (n : Nat) : Stays base (s.eraseBook n) := (State.offer_stays h _ _).setBook _ _

theorem State.cancelHandover_stays (h : Stays base s) (n : Nat) : Stays base (s.cancelHandover n) := by
  unfold State.cancelHandover
  dsimp only
  split
  · exact State.markDue_stays (h.setBook _ _) _ _ _
  · exact h

theorem State.readEntry_stays (h : Stays base s) (n position : Nat) : Stays base (s.readEntry n position) := by
  unfold State.readEntry State.entryReadServed
  split
  · split
    · exact h.answer _ _ _
    · exact h.answer _ _ _
  · split
    · exact State.requestRead_stays (h.hold _) _ _ _
    · exact h.answer _ _ _

/-! ## The executor -/

theorem State.startExecutor_stays (h : Stays base s) : Stays base s.startExecutor := by
  have running := h.withExecutor (x := { s.se with state := .running }) rfl rfl
  unfold State.startExecutor
  dsimp only
  split
  · exact State.seasonCheck_stays running _
  · exact running

theorem State.stopExecutor_stays (h : Stays base s) : Stays base s.stopExecutor :=
  Stays.foldl (fun _ t hu => State.releaseHeld_stays hu t) _ _
    (State.dropPlans_stays (h.withExecutor (x := { s.se with state := .stopped }) rfl rfl))

theorem State.releaseExecutor_stays (h : Stays base s) : Stays base s.releaseExecutor := by
  have rebuilt : Stays base (if s.se.rebuild then s.rebuildHandled else s) := by
    split
    · exact State.rebuildHandled_stays h
    · exact h
  unfold State.releaseExecutor
  generalize (if s.se.rebuild then s.rebuildHandled else s) = u at rebuilt
  have cleared := rebuilt.withExecutor (x := { u.se with rebuild := false }) rfl rfl
  dsimp only
  split
  · exact cleared.withExecutor rfl rfl
  next i _ =>
    have released := State.releasePlans_stays cleared i
    generalize State.releasePlans _ i = v at released
    exact State.executorPass_stays (released.withExecutor (x := { v.se with state := .running }) rfl rfl) _ _

theorem State.forgetEntry_stays (h : Stays base s) (t : Nat) : Stays base (s.forgetEntry t) := by
  unfold State.forgetEntry
  split
  · exact State.recordOutcome_stays h _ _ _ _ _ _ _ _
  · exact h

theorem State.toManual_stays (h : Stays base s) (t : Nat) : Stays base (s.toManual t) := by
  unfold State.toManual
  split
  · exact h
  · exact State.recoveryTest_stays (State.updateDuty_stays (State.forgetEntry_stays (State.dropPlan_stays h t) t) _ _) _

theorem State.toAuto_stays (h : Stays base s) (t : Nat) : Stays base (s.toAuto t) := by
  have auto := State.updateDuty_stays h t fun d => { d with mode := .auto, handledThrough := none }
  unfold State.toAuto
  dsimp only
  split
  · exact h
  · split
    · exact State.clearTrip_stays auto _ _
    · split
      · exact State.updateDuty_stays auto _ _
      · exact auto

/-! ## The matrix -/

theorem State.hostMove_stays (h : Stays base s) (m code : Nat) : Stays base (s.hostMove m code) := by
  unfold State.hostMove
  split
  · exact State.requestMotion_stays h _ _ _ _
  · exact h

/-- A read again ends with a derivation (R118). -/
theorem State.readAgain_stays (h : Bounds base s) (m : Nat) : Stays base (s.readAgain m) := by
  have idle := h.setMover_rest m { (s.mover m).idle with confirmed := none, fault := none, watch := none, followOn := none } rfl
  exact Stays.postOnce_matrix (idle.stays (State.startRead_stays
    (State.tellAll_stays (State.tellAll_stays (Stays.refl _) m false (s.mover m).askers) m false (s.mover m).waiters) m false))

theorem State.clearRowFault_stays (h : Stays base s) (t : Nat) : Stays base (s.clearRowFault t) := by
  unfold State.clearRowFault
  split
  · exact h
  · exact State.startSurvey_stays (((h.setRowFault t [] fun _ => rfl).postOnce _).postOnce _) _

theorem State.clearMover_stays (h : Stays base s) (m : Nat) : Stays base (s.clearMover m) := by
  have again := State.readAgain_stays h.toBounds m
  unfold State.clearMover
  dsimp only
  split
  · exact State.clearRowFault_stays again _
  · exact again

/-- A watch that begins has the matrix derived; one that goes on changes nothing that a line rests on. -/
theorem State.watchContact_stays (h : Stays base s) (m : Nat) (p q : Position) (made : Bool) :
    Stays base (s.watchContact m p q made) := by
  unfold State.watchContact
  dsimp only
  split
  · exact h
  · split
    next w watched =>
      refine h.setMover m _ { position := by simp [Mover.confirmedAt, watched], rest := fun sound => ?_ }
      have unwatched := ((Mover.atRestSound_iff _).mp sound).2.2
      exact absurd unwatched (by simp [watched])
    · split
      · exact h
      · exact Stays.postOnce_matrix (h.toBounds.setMover m _)

/-- A motion goes back to MOVING and keeps its slot. -/
theorem Stays.moveOn (h : Stays base s) (m : Nat) (moving : (s.mover m).inMotion = true) :
    Stays base (s.setMover m { s.mover m with phase := .moving, window := none }) :=
  h.setMover m _ { slot := fun _ => moving, rest := fun sound => absurd sound (Mover.inMotion_unsound moving) }

theorem State.contactMoves_stays (h : Stays base s) (m : Nat) (p : Position) (made : Bool) : Stays base (s.contactMoves m p made) := by
  have moving := (Mover.inMotion_iff (s.mover m)).mpr
  unfold State.contactMoves
  dsimp only
  split
  · exact h
  · split
    next phase =>
      split
      · exact State.beginSettle_stays h m (moving (.inl phase))
      · exact h
    next phase =>
      split
      · exact h.moveOn m (moving (.inr (.inl phase)))
      · exact h
    next phase =>
      split
      · exact h.moveOn m (moving (.inr (.inr phase)))
      · exact h
    · exact h
    · split
      · exact State.watchContact_stays h _ _ _ _
      · exact h
    · split
      · exact State.watchContact_stays h _ _ _ _
      · exact h

theorem Mover.readDisturbed_yields (x : Mover) : x.Yields x.readDisturbed := {}

theorem State.contactChanges_stays (h : Stays base s) (m : Nat) (p : Position) (made : Bool) :
    Stays base (s.contactChanges m p made) := by
  have touched := h.setMover m { s.mover m with contacts := contactsAfter (s.mover m).contacts p made }
  unfold State.contactChanges
  dsimp only
  split
  · exact touched
  · split
    · exact State.faultMover_stays touched.toBounds _ _
    · exact State.contactMoves_stays (touched.setMover m _ (Mover.readDisturbed_yields _)) _ _ _

theorem State.settleEnds_stays (h : Stays base s) (m : Nat) (settling : (s.mover m).phase = .settling) :
    Stays base (s.settleEnds m) := by
  have moving := (Mover.inMotion_iff (s.mover m)).mpr (.inr (.inl settling))
  unfold State.settleEnds
  dsimp only
  split
  · exact State.beginValidate_stays h _ moving
  · exact h.moveOn m moving

theorem State.watchEnds_stays (h : Bounds base s) (m : Nat) (w : Watch) : Stays base (s.watchEnds m w) := by
  unfold State.watchEnds
  split
  · exact Stays.postOnce_matrix (h.setMover m _)
  · exact State.faultMover_stays h _ _

/-! ## Sequencers and protection -/

theorem State.orderTaken_stays (h : Stays base s) (t : Nat) (kind : OrderKind) : Stays base (s.orderTaken t kind) :=
  (State.settled_stays h).answer _ _ _

theorem State.hostTunePreset_stays (h : Stays base s) (t freq : Nat) : Stays base (s.hostTunePreset t freq) := by
  have taken := State.takeTunePreset_stays h t freq .host
  unfold State.hostTunePreset
  dsimp only
  split
  · exact State.orderTaken_stays taken _ _
  · exact taken.answer _ _ _

theorem State.leaveLockout_stays (h : Stays base s) (t : Nat) : Stays base (s.leaveLockout t) := by
  unfold State.leaveLockout
  split
  · exact State.enterSeq_stays h.toBounds _ _ _
  · exact h

theorem State.clearLockout_stays (h : Stays base s) (t : Nat) : Stays base (s.clearLockout t) := by
  unfold State.clearLockout
  split
  · exact (State.leaveLockout_stays (h.setProt t _ (fun _ => Nat.zero_le _) fun _ => rfl) _).postOnce _
  · exact h.setProt t _ fun _ => Nat.zero_le _

theorem State.takeLinkOctet_stays (h : Stays base s) (t : Nat) (x : Byte) : Stays base (s.takeLinkOctet t x) := by
  unfold State.takeLinkOctet
  dsimp only
  split
  · exact h.setSeq t _
  · exact h.setSeq t _
  · exact h.setSeq t _
  · exact State.settled_stays (State.takeReport_stays h _ _)

/-! ## The Preset Cache -/

theorem State.startRestore_stays (h : Stays base s) : Stays base s.startRestore :=
  State.readRestorePage_stays (h.withCache (x := { s.pc with restore := some { next := 0, dueAt := s.clock, waiting := false, counts :=
    { blank := 0, invalid := 0, bad := 0, windowed := 0, present := 0, full := 0, installed := 0 } } }) rfl)

theorem State.setFreeze_stays (h : Stays base s) (on : Bool) : Stays base (s.setFreeze on) := by
  have set := h.withCache (x := { s.pc with frozen := on }) rfl
  unfold State.setFreeze
  dsimp only
  split
  · exact State.endRestore_stays set _
  · exact set

theorem State.writeWay_stays (h : Stays base s) (t n way : Nat) (f : PresetFields) : Stays base (s.writeWay t n way f) := by
  have read := State.checkWay_stays h t n (1 - way) .host
  unfold State.writeWay
  dsimp only
  split
  · exact read.answer _ _ _
  · exact (read.setPresetSet _ _ _).answer _ _ _

theorem State.flush_stays (h : Stays base s) (scope t ant channel : Nat) : Stays base (s.flush scope t ant channel) := by
  unfold State.flush
  split
  · have read := State.readSet_stays h t (keySet ant channel) .host
    unfold State.flushKey
    dsimp only
    split
    · exact read.setPresetSet _ _ _
    · exact read
  · split
    · refine h.withCache ?_
      simp [PresetCache.sizes, setNth_lengths]
    · exact State.mapSets_stays h _

theorem State.scrubRecord_stays (h : Stays base s) : Stays base s.scrubRecord := by
  unfold State.scrubRecord
  dsimp only
  split
  · exact State.checkWay_stays h _ _ _ _
  · split
    · exact h
    · split
      · exact State.checkDuplicate_stays (State.checkWay_stays (State.checkWay_stays h _ _ _ _) _ _ _ _) _ _ _
      · exact State.checkWay_stays h _ _ _ _

theorem State.scrub_stays (h : Stays base s) : Stays base s.scrub := by
  obtain ⟨sizes, -, -⟩ := s.scrubRecord.pc.advanceScrub_frame
  exact ((State.scrubRecord_stays h).withCache sizes).nextScrub

/-! ## Line diagnostics -/

/-- Flags that leave a fault set leave an empty one empty. -/
theorem Stays.dropFlags (h : Stays base s) (a : Nat) (f : FaultSet) : Stays base (s.setFaultSet a (s.faultSet a &&& f)) :=
  h.setFaultSet a _ fun none => by simp [none]

theorem State.removeFaults_stays (h : Stays base s) (a flags : Nat) : Stays base (s.removeFaults a flags) := (h.dropFlags a _).postOnce _

theorem State.removeUnchecked_stays (h : Stays base s) (a : Nat) : Stays base (s.removeUnchecked a) := (h.dropFlags a _).postOnce _

theorem State.checkUnchecked_stays (h : Stays base s) (i : Nat) : Stays base (s.checkUnchecked i) := by
  unfold State.checkUnchecked
  dsimp only
  split
  · exact State.removeUnchecked_stays h _
  · exact h

theorem State.stepResult_stays (h : Stays base s) (i : Nat) (d : DiagStep) (r : BusResult) : Stays base (s.stepResult i d r) := by
  have flagged : ∀ e f, Stays base ((s.setPlan i e).runFlag i f) := fun e f => State.runFlag_stays (State.setPlan_stays h i e) i f
  unfold State.stepResult
  dsimp only
  split
  · exact State.checkUnchecked_stays (State.setPlan_stays (State.insulPassed_stays h _) i _) i
  · exact flagged _ _
  · exact State.checkUnchecked_stays (State.setPlan_stays h i _) i
  · exact flagged _ _
  · have limited : ∀ (limit : Nat) (e f : PlanEntry) (q : Nat),
        Stays base (if q ≤ limit then s.setPlan i e else (s.setPlan i f).runFlag i .mismatch) := fun limit e f q => by
      split
      · exact State.setPlan_stays h i e
      · exact flagged _ _
    exact limited _ _ _ _
  · exact h
  · exact h

theorem State.crossResult_stays (h : Stays base s) (i a : Nat) (discard : Bool) (r : BusResult) :
    Stays base (s.crossResult i a discard r) := by
  have plan := fun e => State.setPlan_stays h i e
  unfold State.crossResult
  dsimp only
  generalize (if discard = true then CrossResult.notTested else if r = .pass then .pass else .fail) = found
  split
  · exact (State.markPlan_stays (State.runFlag_stays (plan _) i .cross) a .cross).addFault _ _
  · exact plan _

theorem State.preUseResult_stays (h : Stays base s) (u : PreUse) (r : BusResult) : Stays base (s.preUseResult u r) := by
  unfold State.preUseResult
  dsimp only
  split
  · exact State.openPreUse_stays ((State.insulPassed_stays h _).post _) _
  · exact State.openPreUse_stays ((h.addFault _ _).post _) _

theorem State.measurementAnswered_stays (h : Stays base s) (m : Measurement) (r : BusResult) :
    Stays base (s.measurementAnswered m r) := by
  have cleared := h.setDiag (x := { s.ld with measurement := none }) rfl rfl
  unfold State.measurementAnswered
  dsimp only
  refine Stays.postOnce ?_ _
  split
  · exact State.preUseResult_stays cleared _ _
  · exact cleared
  · split
    · split
      · exact State.setPosition_stays (cleared.setDiag (by rfl) (by rfl)) _
      · exact State.endRun_stays (State.setBusFault_stays cleared _) _
    · split
      · exact State.crossNext_stays (State.crossResult_stays cleared _ _ _ _) 4 _
      · exact State.stepsGoOn_stays (State.crossNext_stays (State.crossResult_stays cleared _ _ _ _) 4 _) _ _ _
    · split
      · exact cleared
      · exact State.stepsGoOn_stays (State.stepResult_stays cleared _ _ _) _ _ _
    · exact cleared

theorem State.takeBusResult_stays (h : Stays base s) (tag : Nat) (r : BusResult) : Stays base (s.takeBusResult tag r) := by
  unfold State.takeBusResult
  split
  · exact h
  · split
    · exact h
    · split
      · exact State.measurementAnswered_stays h _ _
      · exact State.measurementLost_stays h

theorem State.clearFaults_stays (h : Stays base s) (a flags : Nat) : Stays base (s.clearFaults a flags) := by
  unfold State.clearFaults
  split
  · exact (h.setDiag (by rfl) (by rfl)).answer _ _ _
  · exact (State.removeFaults_stays h a flags).answer _ _ _

end Sys2Proof.Machine

/-! # What stays across every command

`Steady s t` is `Stays s t` but for the bound on the slots in use, which is taken with the motion_slots of `t`: HALL_SET, CONFIG_LOAD and
a cold reset may change it. -/

namespace Sys2Proof.Machine

open Sys2Proof

set_option Elab.async false

variable {base s t u : State}

/-- What a command leaves in bounds. -/
structure Loose (s t : State) : Prop where
  sized : s.sized → t.sized := by exact id
  work : s.ss.work.length ≤ 8 → t.ss.work.length ≤ 8 := by exact id
  histories : s.ShortHistories → t.ShortHistories := by exact id
  led : s.Led → t.Led := by exact id
  exclusive : s.Exclusive → t.Exclusive := by exact id
  slots : t.slotsInUse ≤ max s.slotsInUse t.params.motionSlots := by exact Nat.le_max_left _ _

/-- What a command leaves in bounds, and the lines by right. -/
structure Steady (s t : State) : Prop extends Loose s t where
  rightful : s.sized → ∀ r, 1 ≤ r → r ≤ 12 → s.Rightful r → t.Rightful r

theorem Bounds.loose (h : Bounds s t) : Loose s t := { h with slots := by rw [h.slotLimit]; exact h.slots }

theorem Stays.steady (h : Stays s t) : Steady s t := { toLoose := h.toBounds.loose, rightful := h.rightful }

theorem Loose.bounds (h : Loose s t) (k : Bounds t u) : Loose s u where
  sized := k.sized ∘ h.sized
  work := k.work ∘ h.work
  histories := k.histories ∘ h.histories
  led := k.led ∘ h.led
  exclusive := k.exclusive ∘ h.exclusive
  slots := by
    have hs := h.slots
    have ks := k.slots
    rw [k.slotLimit]
    omega

theorem Loose.tests (h : Loose s t) (tests : t.TestsWait) : Steady s t := { toLoose := h, rightful := fun _ _ _ _ _ => .inl tests }

theorem Steady.stays (h : Steady s t) (k : Stays t u) : Steady s u where
  toLoose := h.toLoose.bounds k.toBounds
  rightful sized r h1 h12 hr := k.rightful (h.sized sized) r h1 h12 (h.rightful sized r h1 h12 hr)

/-- The Link Controller is no part of it. -/
theorem Steady.fromLink {l : LinkController} (h : Steady { s with lc := l } t) : Steady s t where
  toLoose := { h.toLoose with }
  rightful sized r h1 h12 hr := h.rightful sized r h1 h12 (((Stays.refl s).withLink l).rightful sized r h1 h12 hr)

/-- Nor is the queue of commands. -/
theorem Steady.fromQueue {q : List Instr} (h : Steady { s with pending := q } t) : Steady s t where
  toLoose := { h.toLoose with }
  rightful sized r h1 h12 hr := h.rightful sized r h1 h12
    ((Stays.of_grounds (b := s) (s := { s with pending := q })).rightful sized r h1 h12 hr)

theorem Steady.handle {f : State → State} (k : Nat) (checks : List (Bool × Status)) (hf : Steady s (f s)) :
    Steady s (s.handle k checks f) := by
  unfold State.handle
  split
  · exact ((Stays.refl s).answer _ _ _).steady
  · exact hf

/-! ## A change of the hall's parameters, R4, R14 -/

/-- A change of the tables ends with the lines about to be tested. -/
theorem State.tablesChanged_tests (s before : State) : (s.tablesChanged before).TestsWait := by
  have told (u : State) : ((u.postOnce .permits).postOnce .arbiter).TestsWait := .inl (mem_addOnce_left (mem_addOnce_self _ _))
  exact told _

theorem State.setHall_steady (s : State) (p : HallParams) : Steady s (s.setHall p) := by
  have tables : Loose s { s with ht := s.ht.withParams p } :=
    { sized := State.sized_of_sizes (by simp [State.sizes, HallTables.withParams, cutAbove_length]) }
  exact (tables.bounds (State.tablesChanged_stays (Bounds.refl _) s).toBounds).tests (State.tablesChanged_tests _ _)

theorem State.applyConfig_steady {x : ConfigRecord} (txs : x.txs.length = 12) (ants : x.ants.length = 24) :
    Steady s (s.applyConfig x) := by
  have tables : Loose s (s.withConfig x) :=
    { sized := ((Keeps.refl .configLoad s).withConfig x ⟨txs, ants⟩ rfl rfl).sized }
  exact (tables.bounds (State.applyConfig_stays x).toBounds).tests (State.tablesChanged_tests _ _)

/-! ## The resets, R16, R17, R211 -/

/-- Nothing is in use, waits or is planned, and every line is OFF. -/
structure Cleared (s : State) : Prop where
  work : s.ss.work = []
  histories : ∀ k, (s.prot k).history = []
  led : ∀ k, s.change k = none
  lines : ∀ r, (s.permit r).line = false

theorem Cleared.cold (s : State) : Cleared s.coldBlocks where
  work := rfl
  histories := nth_replicate_of (P := fun x : Protection => x.history = []) rfl rfl 12
  led := nth_replicate_of (P := fun x : Option Changeover => x = none) rfl rfl 12
  lines := nth_replicate_of (P := fun x : PermitRow => x.line = false) rfl rfl 12

theorem Cleared.restart (s : State) : Cleared s.restartBlocks where
  work := rfl
  histories k := by
    show (nth (s.pt.txs.map fun x => Protection.reset x.counted x.uncounted) (Protection.reset 0 0) k).history = []
    exact congrArg Protection.history (nth_map (fun x => Protection.reset x.counted x.uncounted) s.pt.txs (Protection.reset 0 0) k)
  led := nth_replicate_of (P := fun x : Option Changeover => x = none) rfl rfl 12
  lines := nth_replicate_of (P := fun x : PermitRow => x.line = false) rfl rfl 12

/-- What cleared blocks leave clear. -/
theorem Cleared.loadConfig (h : Cleared s) : Cleared s.loadConfig := by
  unfold State.loadConfig
  split
  · exact { h with }
  · exact { h with }

theorem Cleared.loadLicence (h : Cleared s) : Cleared s.loadLicence := { h with }

theorem Cleared.nextScrub (h : Cleared s) : Cleared s.nextScrub := { h with }

theorem Cleared.setInput (h : Cleared s) (n : Nat) (i : SafetyInput) : Cleared (s.setInput n i) := { h with }

theorem Cleared.resetInputs (h : Cleared s) : Cleared s.resetInputs := by
  unfold State.resetInputs
  generalize upTo 8 = ns
  induction ns generalizing s with
  | nil => exact h
  | cons n ns ih =>
    refine ih ?_
    dsimp only
    split
    · exact h.setInput _ _
    · exact (h.setInput _ _).setInput _ _

theorem Cleared.restartInputs (h : Cleared s) : Cleared s.restartInputs := by
  have judged := h.resetInputs
  unfold State.restartInputs
  generalize s.resetInputs = u at judged
  exact { judged with }

theorem AntennaClaims.reset_exclusive : AntennaClaims.reset.Exclusive := ⟨fun _ => nofun, nofun⟩

/-- The matrix begins anew with no slot in use and no antenna claimed. -/
theorem Cleared.resetMatrix (h : Cleared u) (sized : s.sized → u.sized) : Steady s u.resetMatrix := by
  refine Steady.stays (t := { u with mc := { Matrix.reset with
    movers := u.mc.movers.map (fun x => Mover.reset x.contacts), survey := .running none false, surveyed := false } }) ?_
    (State.startSurvey_stays (Stays.refl _) none)
  exact {
    sized := fun hs => by
      obtain ⟨hall, permits, seqs, prots, ⟨movers, -, -⟩, rest⟩ := State.sized_iff.mp (sized hs)
      exact State.sized_iff.mpr ⟨hall, permits, seqs, prots, ⟨(List.length_map _).trans movers, rfl, rfl⟩, rest⟩
    work := fun _ => h.work ▸ Nat.zero_le _
    histories := fun _ k => h.histories k ▸ Nat.zero_le _
    led := fun _ k c hc => absurd ((h.led k).symm.trans hc) nofun
    exclusive := fun _ => State.exclusive_iff.mpr
      (nth_replicate_of (P := AntennaClaims.Exclusive) AntennaClaims.reset_exclusive AntennaClaims.reset_exclusive 24)
    slots := by
      have still : (u.mc.movers.map fun x => Mover.reset x.contacts).filter Mover.inMotion = [] := by
        simp [List.filter_eq_nil_iff, Mover.inMotion, Mover.reset]
      exact (congrArg List.length still).le.trans (Nat.zero_le _)
    rightful := fun _ r _ _ _ => .inr fun line => absurd line (by
      show ¬ (u.permit r).line = true
      simp [h.lines r]) }

theorem State.coldReset_steady (s : State) : Steady s s.coldReset := by
  have cleared := (Cleared.cold s.cutShort).loadConfig.loadLicence.restartInputs.nextScrub
  have kept := ((Keeps.refl .coldReset s).cutShort rfl).coldBlocks.loadConfig.loadLicence.restartInputs.nextScrub
  exact (cleared.resetMatrix kept.sized).stays (State.startScan_stays (Stays.refl _))

theorem State.restart_steady (s : State) : Steady s s.restart := by
  have ended := State.endRestore_stays (State.endSave_stays (Stays.refl s) .reset) .reset
  have sized (hs : s.sized) := State.restartBlocks_sized ((State.cutShort_stays ended).sized hs)
  have judged : Cleared ((s.endSave .reset).endRestore .reset).cutShort.restartBlocks.restartInputs := (Cleared.restart _).restartInputs
  exact (judged.resetMatrix fun hs => (State.restartInputs_bounds (Bounds.refl _)).sized (sized hs)).stays
    (State.startScan_stays (Stays.refl _))

/-! ## Every command -/

/-- A command ends with a next state, in bounds and its lines by right. -/
def Steadies (s : State) (o : Host.Outcome State Fault Refusal) : Prop := ∃ t, o = .next t ∧ Steady s t

theorem Stays.steadies (h : Stays s t) : Steadies s (.next t) := ⟨t, rfl, h.steady⟩

/-- An event, and the hand-overs that follow. -/
theorem Stays.event (h : Stays s t) : Steadies s (.next t.settled) := (State.settled_stays h).steadies

/-- A request keeps what its handler keeps, whenever its frame is served. -/
theorem hostRequest_steady {c : Instr} {f : State → State} (hf : ∀ l, Steady s (f { s with lc := l })) : Steadies s (hostRequest c f s) := by
  unfold hostRequest
  split
  · exact ⟨_, rfl, hf _⟩
  · split
    · exact ⟨_, rfl, hf _⟩
    · exact (State.frameArrives_stays (Stays.refl s) _).steadies

theorem hostRequest_stays {c : Instr} {f : State → State} (hf : ∀ u, Stays s u → Stays s (f u)) : Steadies s (hostRequest c f s) :=
  hostRequest_steady fun _ => (hf _ ((Stays.refl s).withLink _)).steady

/-- A report changes nothing but the reply. -/
theorem query_steady {c : Instr} (query : c.isQuery = true) (s : State) : Steadies s (exec c s) := by
  cases c with
  | echo data =>
    show Steadies s (execEcho data s)
    exact hostRequest_stays fun _ hu => hu.report _ _ _
  | ident =>
    show Steadies s (execIdent s)
    exact hostRequest_stays fun _ hu => hu.report _ _ _
  | alertQuery =>
    show Steadies s (execAlertQuery s)
    exact hostRequest_stays fun _ hu => hu.report _ _ _
  | unknownKindRequest kind =>
    show Steadies s (execUnknownKindRequest kind s)
    exact hostRequest_stays fun _ hu => hu.answer _ _ _
  | hallQuery =>
    show Steadies s (execHallQuery s)
    exact hostRequest_stays fun _ hu => hu.report _ _ _
  | txQuery tx =>
    show Steadies s (execTxQuery tx s)
    exact hostRequest_stays fun _ hu => hu.report _ _ _
  | antQuery ant =>
    show Steadies s (execAntQuery ant s)
    exact hostRequest_stays fun _ hu => hu.report _ _ _
  | licenceQuery first =>
    show Steadies s (execLicenceQuery first s)
    exact hostRequest_stays fun _ hu => hu.report _ _ _
  | timeQuery =>
    show Steadies s (execTimeQuery s)
    exact hostRequest_stays fun _ hu => hu.report _ _ _
  | storeStatus =>
    show Steadies s (execStoreStatus s)
    exact hostRequest_stays fun _ hu => hu.report _ _ _
  | bookQuery book =>
    show Steadies s (execBookQuery book s)
    exact hostRequest_stays fun _ hu => hu.report _ _ _
  | findingsQuery book =>
    show Steadies s (execFindingsQuery book s)
    exact hostRequest_stays fun _ hu => hu.report _ _ _
  | dutyQuery tx =>
    show Steadies s (execDutyQuery tx s)
    exact hostRequest_stays fun _ hu => hu.report _ _ _
  | moverQuery mover =>
    show Steadies s (execMoverQuery mover s)
    exact hostRequest_stays fun _ hu => hu.report _ _ _
  | antennaStatus ant =>
    show Steadies s (execAntennaStatus ant s)
    exact hostRequest_stays fun _ hu => hu.report _ _ _
  | permitQuery =>
    show Steadies s (execPermitQuery s)
    exact hostRequest_stays fun _ hu => hu.report _ _ _
  | txStatus tx =>
    show Steadies s (execTxStatus tx s)
    exact hostRequest_stays fun _ hu => hu.report _ _ _
  | protQuery tx =>
    show Steadies s (execProtQuery tx s)
    exact hostRequest_stays fun _ hu => hu.report _ _ _
  | diagQuery =>
    show Steadies s (execDiagQuery s)
    exact hostRequest_stays fun _ hu => hu.report _ _ _
  | _ => cases query

theorem coldReset_steady (s : State) : Steadies s (execColdReset s) := by
  exact ⟨_, rfl, s.coldReset_steady.stays (State.settled_stays (Stays.refl _))⟩

theorem restart_steady (s : State) :
    Steadies s (execRestart s) :=
  hostRequest_steady fun _ => Steady.fromLink ((State.restart_steady _).stays (State.settled_stays (Stays.refl _)))

theorem alertClear_steady (flags : Nat) (s : State) :
    Steadies s (execAlertClear flags s) :=
  hostRequest_stays fun _ hu => hu.handle _ _ ((hu.withLink _).answer _ _ _)

theorem alertMask_steady (mask : Nat) (s : State) :
    Steadies s (execAlertMask mask s) :=
  hostRequest_stays fun _ hu => hu.handle _ _ ((hu.withLink _).answer _ _ _)

theorem hostFrameDiscard_steady (octets : List LineOctet) (s : State) :
    Steadies s (execHostFrameDiscard octets s) := by
  exact (Stays.foldl (fun _ o hu => State.takeHostOctet_stays hu o) octets s (Stays.refl s)).steadies

theorem hostReceiveTimeout_steady (s : State) :
    Steadies s (execHostReceiveTimeout s) := by
  have h := Stays.refl s
  unfold execHostReceiveTimeout
  split
  · exact (State.discardFrame_stays (h.reach _) _).steadies
  · exact (Stays.refl s).steadies

theorem hostFrameQueued_steady (kind : Nat) (body : List Byte) (s : State) :
    Steadies s (execHostFrameQueued kind body s) := by
  have h := Stays.refl s
  exact (State.frameArrives_stays h _).steadies

theorem hallSet_steady (params : HallParams) (s : State) :
    Steadies s (execHallSet params s) :=
  hostRequest_steady fun _ => Steady.fromLink (Steady.handle _ _ ((State.setHall_steady _ params).stays
    (State.settled_stays ((Stays.refl _).answer _ _ _))))

theorem txDefine_steady (tx : Nat) (fields : TxFields) (s : State) :
    Steadies s (execTxDefine tx fields s) :=
  hostRequest_stays fun u hu => hu.handle _ _ ((hu.trans (t := { u with ht := { u.ht with
    txs := setNth u.ht.txs tx (some (TxFields.record fields)) } }) (.of_grounds { sized := State.sized_of_sizes (by
      simp [State.sizes]) })).answer _ _ _)

theorem antDefine_steady (ant : Nat) (fields : AntFields) (s : State) :
    Steadies s (execAntDefine ant fields s) :=
  hostRequest_stays fun _ hu => hu.request _ _ ((State.setAnt_stays hu.toBounds ant _).answer _ _ _)

theorem licenceWrite_steady (first total final : Nat) (lines : List LicenceLine) (s : State) :
    Steadies s (execLicenceWrite first total final lines s) :=
  hostRequest_stays fun _ hu => hu.handle _ _ (State.settled_stays ((State.takeLicence_stays hu first total final lines).answer _ _ _))

theorem licenceLock_steady (s : State) :
    Steadies s (execLicenceLock s) :=
  hostRequest_stays fun u hu => hu.request _ _ ((State.offer_stays (hu.trans (t := { u with ht := { u.ht with
    locked := true, staging := none } }) .of_grounds) _ _).answer _ _ _)

theorem configSave_steady (s : State) :
    Steadies s (execConfigSave s) :=
  hostRequest_stays fun _ hu => hu.request _ _ ((State.offer_stays hu _ _).answer _ _ _)

theorem configLoad_steady (s : State) :
    Steadies s (execConfigLoad s) := by
  refine hostRequest_steady fun l => Steady.fromLink (Steady.handle _ _ ?_)
  unfold State.loadFromRecord
  split
  next source x hx =>
    obtain ⟨txs, ants, -, -⟩ := readConfig_lengths hx
    exact (State.applyConfig_steady txs ants).stays (State.settled_stays ((Stays.refl _).answer _ _ _))
  next source _ =>
    exact ((Stays.of_grounds (b := { s with lc := l }) (s := { s with lc := l, ht := { s.ht with configSource := source } })).answer
      _ _ _).steady

theorem timeSet_steady (day second : Nat) (s : State) :
    Steadies s (execTimeSet day second s) :=
  hostRequest_stays fun _ hu => hu.handle _ _ ((hu.setTime _).answer _ _ _)

theorem storeRead_steady (address length : Nat) (s : State) :
    Steadies s (execStoreRead address length s) :=
  hostRequest_stays fun _ hu => hu.request _ _ (State.requestRead_stays (hu.hold _) _ _ _)

theorem storeProgram_steady (address : Nat) (data : List Byte) (s : State) :
    Steadies s (execStoreProgram address data s) :=
  hostRequest_stays fun _ hu => hu.handle _ _ ((State.startHostOp_stays hu _).answer _ _ _)

theorem storeErase_steady (sector : Nat) (s : State) :
    Steadies s (execStoreErase sector s) :=
  hostRequest_stays fun _ hu => hu.handle _ _ ((State.startHostOp_stays hu _).answer _ _ _)

theorem bookOpen_steady (book season firstDay lastDay : Nat) (s : State) :
    Steadies s (execBookOpen book season firstDay lastDay s) :=
  hostRequest_stays fun _ hu => hu.request _ _ ((State.markDue_stays (hu.setBook _ _) _ _ _).answer _ _ _)

theorem entryAdd_steady (book : Nat) (record : List Byte) (s : State) :
    Steadies s (execEntryAdd book record s) :=
  hostRequest_stays fun _ hu => hu.request _ _ ((State.addEntry_stays hu _ _).answer _ _ _)

theorem bookSeal_steady (book count crc : Nat) (s : State) :
    Steadies s (execBookSeal book count crc s) :=
  hostRequest_stays fun _ hu => hu.request _ _ ((State.sealBook_stays hu _ _ _).answer _ _ _)

theorem bookVerify_steady (book : Nat) (s : State) :
    Steadies s (execBookVerify book s) :=
  hostRequest_stays fun _ hu => hu.request _ _ ((State.startVerifier_stays (hu.setBook _ _) _ _).answer _ _ _)

theorem entryRead_steady (book position : Nat) (s : State) :
    Steadies s (execEntryRead book position s) :=
  hostRequest_stays fun _ hu => hu.request _ _ (State.readEntry_stays hu _ _)

theorem bookErase_steady (book : Nat) (s : State) :
    Steadies s (execBookErase book s) :=
  hostRequest_stays fun _ hu => hu.request _ _ ((State.eraseBook_stays hu _).answer _ _ _)

theorem handoverSet_steady (book day second : Nat) (s : State) :
    Steadies s (execHandoverSet book day second s) :=
  hostRequest_stays fun _ hu => hu.request _ _ ((State.markDue_stays (hu.setBook _ _) _ _ _).answer _ _ _)

theorem handoverCancel_steady (book : Nat) (s : State) :
    Steadies s (execHandoverCancel book s) :=
  hostRequest_stays fun _ hu => hu.request _ _ ((State.cancelHandover_stays hu _).answer _ _ _)

theorem execStart_steady (s : State) :
    Steadies s (execExecStart s) :=
  hostRequest_stays fun _ hu => hu.request _ _ ((State.startExecutor_stays hu).answer _ _ _)

theorem execStop_steady (s : State) :
    Steadies s (execExecStop s) :=
  hostRequest_stays fun _ hu => hu.request _ _ ((State.stopExecutor_stays hu).answer _ _ _)

theorem execHold_steady (s : State) :
    Steadies s (execExecHold s) :=
  hostRequest_stays fun u hu => hu.handle _ _ (((hu.withExecutor (x := { u.se with state := .held }) rfl rfl)).answer _ _ _)

theorem execRelease_steady (s : State) :
    Steadies s (execExecRelease s) :=
  hostRequest_stays fun _ hu => hu.request _ _ ((State.releaseExecutor_stays hu).answer _ _ _)

theorem txManual_steady (tx : Nat) (s : State) :
    Steadies s (execTxManual tx s) :=
  hostRequest_stays fun _ hu => hu.request _ _ ((State.toManual_stays hu _).answer _ _ _)

theorem txAuto_steady (tx : Nat) (s : State) :
    Steadies s (execTxAuto tx s) :=
  hostRequest_stays fun _ hu => hu.request _ _ ((State.toAuto_stays hu _).answer _ _ _)

theorem occurrenceSkip_steady (tx entryId day : Nat) (s : State) :
    Steadies s (execOccurrenceSkip tx entryId day s) :=
  hostRequest_stays fun _ hu => hu.request _ _ (State.readEntries_stays (hu.hold _) _)

theorem move_steady (mover position : Nat) (s : State) :
    Steadies s (execMove mover position s) :=
  hostRequest_stays fun _ hu => hu.request _ _ ((State.hostMove_stays hu _ _).answer _ _ _)

theorem moverClear_steady (mover : Nat) (s : State) :
    Steadies s (execMoverClear mover s) :=
  hostRequest_stays fun _ hu => hu.request _ _ ((State.clearMover_stays hu _).answer _ _ _)

theorem survey_steady (s : State) :
    Steadies s (execSurvey s) :=
  hostRequest_stays fun _ hu => hu.request _ _ ((State.startSurvey_stays hu _).answer _ _ _)

theorem safetyDefine_steady (input kind level : Nat) (rows : List Nat) (s : State) :
    Steadies s (execSafetyDefine input kind level rows s) := by
  refine hostRequest_stays fun u hu => hu.handleChecked _ _ fun passed => State.settled_stays (Stays.answer ?_ _ _ _)
  have off : (u.input input).state = .inactive := by
    simp only [State.safetyChecks, List.find?_eq_none] at passed
    simpa using passed ((u.input input).state != .inactive, .state) (by simp)
  unfold State.setSafety
  split
  · exact State.defineInput_stays hu _ _ _ _ off
  · exact hu

theorem txOrderTunePreset_steady (tx freq : Nat) (s : State) :
    Steadies s (execTxOrderTunePreset tx freq s) :=
  hostRequest_stays fun _ hu => hu.request _ _ (State.hostTunePreset_stays hu _ _)

theorem txOrderTuneAuto_steady (tx freq : Nat) (s : State) :
    Steadies s (execTxOrderTuneAuto tx freq s) :=
  hostRequest_stays fun _ hu => hu.request _ _ (State.orderTaken_stays (State.takeTuneAuto_stays hu _ _ _) _ _)

theorem txOrderRfOn_steady (tx power feed : Nat) (s : State) :
    Steadies s (execTxOrderRfOn tx power feed s) :=
  hostRequest_stays fun _ hu => hu.request _ _ (State.orderTaken_stays (State.takeRfOn_stays (State.setLimit_stays hu _ _) _ _ _ _) _ _)

theorem txOrderRfOff_steady (tx : Nat) (s : State) :
    Steadies s (execTxOrderRfOff tx s) :=
  hostRequest_stays fun _ hu => hu.request _ _ (State.orderTaken_stays (State.takeRfOff_stays hu _ _) _ _)

theorem txOrderMute_steady (tx : Nat) (s : State) :
    Steadies s (execTxOrderMute tx s) :=
  hostRequest_stays fun _ hu => hu.request _ _ (State.orderTaken_stays (State.muteFor_stays hu _ _ _ _) _ _)

theorem txOrderPower_steady (tx power : Nat) (s : State) :
    Steadies s (execTxOrderPower tx power s) :=
  hostRequest_stays fun _ hu => hu.request _ _ (State.orderTaken_stays (State.enqueue_stays (State.setLimit_stays hu _ _) _ _ _) _ _)

theorem txOrderFeed_steady (tx feed : Nat) (s : State) :
    Steadies s (execTxOrderFeed tx feed s) :=
  hostRequest_stays fun _ hu => hu.request _ _ (State.orderTaken_stays (State.takeFeed_stays hu _ _ _) _ _)

theorem txOrderClearTrip_steady (tx : Nat) (s : State) :
    Steadies s (execTxOrderClearTrip tx s) :=
  hostRequest_stays fun _ hu => hu.request _ _ (State.orderTaken_stays (State.clearTrip_stays hu _ _) _ _)

theorem protSet_steady (settings : ProtSettings) (s : State) :
    Steadies s (execProtSet settings s) :=
  hostRequest_stays fun u hu => hu.handle _ _ ((hu.trans (t := { u with pt := { u.pt with settings := settings } }) .of_grounds).answer _ _ _)

theorem lockoutClear_steady (tx : Nat) (s : State) :
    Steadies s (execLockoutClear tx s) :=
  hostRequest_stays fun _ hu => hu.request _ _ ((State.clearLockout_stays hu _).answer _ _ _)

theorem presetRead_steady (tx set way : Nat) (s : State) :
    Steadies s (execPresetRead tx set way s) :=
  hostRequest_stays fun _ hu => hu.handle _ _ ((State.checkWay_stays hu _ _ _ _).answer _ _ _)

theorem presetWrite_steady (tx set way : Nat) (fields : PresetFields) (s : State) :
    Steadies s (execPresetWrite tx set way fields s) :=
  hostRequest_stays fun _ hu => hu.handle _ _ (State.writeWay_stays hu _ _ _ _)

theorem presetFlush_steady (scope tx ant channel : Nat) (s : State) :
    Steadies s (execPresetFlush scope tx ant channel s) :=
  hostRequest_stays fun _ hu => hu.handle _ _ ((State.flush_stays hu _ _ _ _).answer _ _ _)

theorem presetFreeze_steady (state : Nat) (s : State) :
    Steadies s (execPresetFreeze state s) :=
  hostRequest_stays fun _ hu => hu.handle _ _ ((State.setFreeze_stays hu _).answer _ _ _)

theorem presetWindow_steady (window enabled base exponent : Nat) (s : State) :
    Steadies s (execPresetWindow window enabled base exponent s) :=
  hostRequest_stays fun _ hu => hu.handle _ _ ((hu.setWindow _ _).answer _ _ _)

theorem presetSave_steady (s : State) :
    Steadies s (execPresetSave s) :=
  hostRequest_stays fun _ hu => hu.request _ _ (State.readSaveSector_stays (hu.hold _) _)

theorem presetRestore_steady (s : State) :
    Steadies s (execPresetRestore s) :=
  hostRequest_stays fun _ hu => hu.request _ _ ((State.startRestore_stays hu).answer _ _ _)

theorem presetError_steady (s : State) :
    Steadies s (execPresetError s) :=
  hostRequest_stays fun u hu => (hu.withCache (x := { u.pc with latch := none, more := false }) rfl).answer _ _ _

theorem diagStart_steady (antennas : List Nat) (steps : Nat) (s : State) :
    Steadies s (execDiagStart antennas steps s) :=
  hostRequest_stays fun _ hu => hu.request _ _ ((State.startRun_stays hu _ _).answer _ _ _)

theorem diagStop_steady (s : State) :
    Steadies s (execDiagStop s) :=
  hostRequest_stays fun _ hu => hu.request _ _ ((State.endRun_stays hu _).answer _ _ _)

theorem faultClear_steady (ant flags : Nat) (s : State) :
    Steadies s (execFaultClear ant flags s) :=
  hostRequest_stays fun _ hu => hu.request _ _ (State.clearFaults_stays hu _ _)

theorem timePulse_steady (s : State) :
    Steadies s (execTimePulse s) := by
  have h := Stays.refl s
  exact (State.pulse_stays h).event

theorem oscillatorMark_steady (s : State) :
    Steadies s (execOscillatorMark s) := by
  have h := Stays.refl s
  have marked := State.oscillate_stays h
  unfold execOscillatorMark
  split
  · exact (Stays.refl s).steadies
  · exact marked.event
  · exact marked.event
  · exact marked.event

theorem windowClose_steady (s : State) :
    Steadies s (execWindowClose s) := by
  have h := Stays.refl s
  have marked := State.closeWindow_stays h
  unfold execWindowClose
  split
  · exact marked.event
  · exact (Stays.refl s).steadies
  · exact (Stays.refl s).steadies
  · exact (Stays.refl s).steadies

theorem holdoverEntry_steady (s : State) :
    Steadies s (execHoldoverEntry s) := by
  have h := Stays.refl s
  unfold execHoldoverEntry
  split
  · exact (((h.reach _).setTime _).alert _).steadies
  · exact (Stays.refl s).steadies

theorem pendingExpiry_steady (s : State) :
    Steadies s (execPendingExpiry s) := by
  have h := Stays.refl s
  unfold execPendingExpiry
  split
  · exact ((State.firstMark_stays (h.reach _) _ _ _).alert _).event
  · exact (Stays.refl s).steadies

theorem operationEnd_steady (passed : Bool) (s : State) :
    Steadies s (execOperationEnd passed s) := by
  have h := Stays.refl s
  unfold execOperationEnd
  split
  · exact (Stays.refl s).steadies
  · split
    · exact (State.operationPassed_stays h _).event
    · exact (State.operationFailed_stays h _).event

theorem operationOverrun_steady (s : State) :
    Steadies s (execOperationOverrun s) := by
  have h := Stays.refl s
  unfold execOperationOverrun
  split
  · exact (Stays.refl s).steadies
  · exact (State.overrun_stays (h.reach _) _).event

theorem progressGuardEnd_steady (s : State) :
    Steadies s (execProgressGuardEnd s) := by
  unfold execProgressGuardEnd
  split
  · exact (Stays.refl s).steadies
  · split
    · exact (Stays.refl s).steadies
    · exact (State.guardEnds_stays ((Stays.refl s).reach _)).event

theorem verifyEnd_steady (s : State) :
    Steadies s (execVerifyEnd s) := by
  unfold execVerifyEnd
  split
  · split
    · exact (State.verificationEnds_stays (Stays.refl s) _).event
    · exact (Stays.refl s).steadies
  · exact (Stays.refl s).steadies

theorem reindexEnd_steady (s : State) :
    Steadies s (execReindexEnd s) := by
  unfold execReindexEnd
  split
  · split
    · exact (State.reindexEnds_stays (Stays.refl s)).event
    · exact (Stays.refl s).steadies
  · exact (Stays.refl s).steadies

theorem contactChange_steady (mover : Nat) (position : Position) (made : Bool) (s : State) :
    Steadies s (execContactChange mover position made s) := by
  unfold execContactChange
  split
  · exact (Stays.refl s).steadies
  · exact (State.contactChanges_stays (Stays.refl s) _ _ _).event

theorem settleEnd_steady (mover : Nat) (s : State) :
    Steadies s (execSettleEnd mover s) := by
  unfold execSettleEnd
  split
  next settling _ => exact (State.settleEnds_stays ((Stays.refl s).reach _) _ settling).event
  · exact (Stays.refl s).steadies

theorem validateEnd_steady (mover : Nat) (s : State) :
    Steadies s (execValidateEnd mover s) := by
  unfold execValidateEnd
  split
  · exact (State.confirmMover_stays ((Stays.refl s).reach _).toBounds _).event
  · exact (Stays.refl s).steadies

theorem travelTimeout_steady (mover : Nat) (s : State) :
    Steadies s (execTravelTimeout mover s) := by
  unfold execTravelTimeout
  split
  · exact (State.faultMover_stays ((Stays.refl s).reach _).toBounds _ _).event
  · exact (Stays.refl s).steadies

theorem watchEnd_steady (mover : Nat) (s : State) :
    Steadies s (execWatchEnd mover s) := by
  unfold execWatchEnd
  split
  · exact (State.watchEnds_stays ((Stays.refl s).reach _).toBounds _ _).event
  · exact (Stays.refl s).steadies

theorem moverReadEnd_steady (mover : Nat) (s : State) :
    Steadies s (execMoverReadEnd mover s) := by
  unfold execMoverReadEnd
  split
  · exact (State.endRead_stays ((Stays.refl s).reach _) _ _).event
  · exact (Stays.refl s).steadies

theorem rowCold_steady (row : Nat) (s : State) :
    Steadies s (execRowCold row s) := by
  unfold execRowCold
  split
  · exact (((Stays.refl s).reach _).postOnce _).event
  · exact (Stays.refl s).steadies

theorem safetyInputEdge_steady (input : Nat) (level : Level) (s : State) :
    Steadies s (execSafetyInputEdge input level s) := by
  have h := Stays.refl s
  unfold execSafetyInputEdge
  split
  · exact (Stays.refl s).steadies
  · exact (State.inputEdge_stays h _ _).event

theorem releaseWindowEnd_steady (input : Nat) (s : State) :
    Steadies s (execReleaseWindowEnd input s) := by
  have h := Stays.refl s
  unfold execReleaseWindowEnd
  split
  · exact (State.inputReleased_stays (h.reach _) _).event
  · exact (Stays.refl s).steadies

theorem safetyResetAlert_steady (s : State) :
    Steadies s (execSafetyResetAlert s) := by
  have h := Stays.refl s
  unfold execSafetyResetAlert
  split
  · exact (State.resetAlert_stays (h.reach _)).steadies
  · exact (Stays.refl s).steadies

theorem arcInput_steady (ant : Nat) (s : State) :
    Steadies s (execArcInput ant s) := by
  have h := Stays.refl s
  unfold execArcInput
  split
  · exact (Stays.refl s).steadies
  · exact (State.arcOn_stays h.toBounds _).event

theorem arcHoldEnd_steady (ant : Nat) (s : State) :
    Steadies s (execArcHoldEnd ant s) := by
  have h := Stays.refl s
  unfold execArcHoldEnd
  split
  · exact (((h.reach _).endArcHold _).postOnce _).event
  · exact (Stays.refl s).steadies

theorem txReport_steady (tx : Nat) (report : Report) (s : State) :
    Steadies s (execTxReport tx report s) := by
  unfold execTxReport
  split
  · exact (Stays.refl s).steadies
  · exact (State.takeReport_stays (Stays.refl s) _ _).event

theorem txFrameDiscard_steady (tx : Nat) (octets : List Byte) (s : State) :
    Steadies s (execTxFrameDiscard tx octets s) := by
  have h := Stays.refl s
  unfold execTxFrameDiscard
  split
  · exact (Stays.refl s).steadies
  · exact (Stays.foldl (fun _ x hu => State.takeLinkOctet_stays hu tx x) octets s h).steadies

theorem txLinkTimeout_steady (tx : Nat) (s : State) :
    Steadies s (execTxLinkTimeout tx s) := by
  unfold execTxLinkTimeout
  split
  · exact (State.linkBecomesLost_stays ((Stays.refl s).reach _).toBounds _).event
  · exact (Stays.refl s).steadies

theorem reportStale_steady (tx : Nat) (s : State) :
    Steadies s (execReportStale tx s) := by
  have h := Stays.refl s
  unfold execReportStale
  split
  · exact (State.checkStale_stays (h.reach _) _).steadies
  · exact (Stays.refl s).steadies

theorem orderDeadline_steady (tx : Nat) (s : State) :
    Steadies s (execOrderDeadline tx s) := by
  unfold execOrderDeadline
  split
  · exact (State.orderFailed_stays ((Stays.refl s).reach _) _ _ _ _).event
  · exact (Stays.refl s).steadies

theorem tuneTimeout_steady (tx : Nat) (s : State) :
    Steadies s (execTuneTimeout tx s) := by
  unfold execTuneTimeout
  split
  · exact (State.seqFault_stays ((Stays.refl s).reach _) _ _).event
  · exact (Stays.refl s).steadies

theorem rampFail_steady (tx : Nat) (s : State) :
    Steadies s (execRampFail tx s) := by
  unfold execRampFail
  split
  · exact (State.tripWith_stays ((Stays.refl s).reach _) _ _ _ _).event
  · exact (Stays.refl s).steadies

theorem offTimeout_steady (tx : Nat) (s : State) :
    Steadies s (execOffTimeout tx s) := by
  unfold execOffTimeout
  split
  · exact (State.seqFault_stays ((Stays.refl s).reach _) _ _).event
  · exact (Stays.refl s).steadies

theorem recoveryWaitEnd_steady (tx : Nat) (s : State) :
    Steadies s (execRecoveryWaitEnd tx s) := by
  unfold execRecoveryWaitEnd
  split
  · exact (State.recoveryWaitTest_stays ((Stays.refl s).reach _) _).event
  · exact (Stays.refl s).steadies

theorem scrubCheck_steady (s : State) :
    Steadies s (execScrubCheck s) := by
  have h := Stays.refl s
  unfold execScrubCheck
  split
  · exact (State.scrub_stays (h.reach _)).steadies
  · exact (Stays.refl s).steadies

theorem restorePageRead_steady (s : State) :
    Steadies s (execRestorePageRead s) := by
  unfold execRestorePageRead
  split
  · split
    · exact (Stays.refl s).steadies
    · exact (State.readRestorePage_stays ((Stays.refl s).reach _)).event
  · exact (Stays.refl s).steadies

theorem busResult_steady (tag : Nat) (result : BusResult) (s : State) :
    Steadies s (execBusResult tag result s) := by
  have h := Stays.refl s
  exact (State.takeBusResult_stays h tag result).event

theorem measurementTimeout_steady (s : State) :
    Steadies s (execMeasurementTimeout s) := by
  unfold execMeasurementTimeout
  split
  · exact (State.measurementLost_stays ((Stays.refl s).reach _)).event
  · exact (Stays.refl s).steadies

theorem hostStartOctet_steady (s : State) :
    Steadies s (execHostStartOctet s) := by
  exact (State.takeHostOctet_stays (Stays.refl s) _).steadies

theorem huntStopBitError_steady (s : State) :
    Steadies s (execHuntStopBitError s) := by
  exact (State.takeHostOctet_stays (Stays.refl s) _).steadies

theorem txLinkSyncFound_steady (tx : Nat) (s : State) :
    Steadies s (execTxLinkSyncFound tx s) := by
  have h := Stays.refl s
  unfold execTxLinkSyncFound
  split
  · exact (Stays.refl s).steadies
  · dsimp only
    split
    · exact (h.setSeq _ _).steadies
    · exact (Stays.refl s).steadies

theorem verifierRead_steady (s : State) :
    Steadies s (execVerifierRead s) := by
  exact (State.verifierReads_stays (Stays.refl s)).event

theorem exec_steady (c : Instr) (s : State) : Steadies s (exec c s) := by
  cases c with
  | coldReset => exact coldReset_steady s
  | restart => exact restart_steady s
  | echo data => exact query_steady rfl s
  | ident => exact query_steady rfl s
  | alertQuery => exact query_steady rfl s
  | alertClear flags => exact alertClear_steady flags s
  | alertMask mask => exact alertMask_steady mask s
  | unknownKindRequest kind => exact query_steady rfl s
  | hostFrameDiscard octets => exact hostFrameDiscard_steady octets s
  | hostReceiveTimeout => exact hostReceiveTimeout_steady s
  | hostFrameQueued kind body => exact hostFrameQueued_steady kind body s
  | hallSet params => exact hallSet_steady params s
  | hallQuery => exact query_steady rfl s
  | txDefine tx fields => exact txDefine_steady tx fields s
  | txQuery tx => exact query_steady rfl s
  | antDefine ant fields => exact antDefine_steady ant fields s
  | antQuery ant => exact query_steady rfl s
  | licenceWrite first total final lines => exact licenceWrite_steady first total final lines s
  | licenceQuery first => exact query_steady rfl s
  | licenceLock => exact licenceLock_steady s
  | configSave => exact configSave_steady s
  | configLoad => exact configLoad_steady s
  | timeSet day second => exact timeSet_steady day second s
  | timeQuery => exact query_steady rfl s
  | storeRead address length => exact storeRead_steady address length s
  | storeProgram address data => exact storeProgram_steady address data s
  | storeErase sector => exact storeErase_steady sector s
  | storeStatus => exact query_steady rfl s
  | bookOpen book season firstDay lastDay => exact bookOpen_steady book season firstDay lastDay s
  | entryAdd book record => exact entryAdd_steady book record s
  | bookSeal book count crc => exact bookSeal_steady book count crc s
  | bookVerify book => exact bookVerify_steady book s
  | bookQuery book => exact query_steady rfl s
  | findingsQuery book => exact query_steady rfl s
  | entryRead book position => exact entryRead_steady book position s
  | bookErase book => exact bookErase_steady book s
  | handoverSet book day second => exact handoverSet_steady book day second s
  | handoverCancel book => exact handoverCancel_steady book s
  | execStart => exact execStart_steady s
  | execStop => exact execStop_steady s
  | execHold => exact execHold_steady s
  | execRelease => exact execRelease_steady s
  | dutyQuery tx => exact query_steady rfl s
  | txManual tx => exact txManual_steady tx s
  | txAuto tx => exact txAuto_steady tx s
  | occurrenceSkip tx entryId day => exact occurrenceSkip_steady tx entryId day s
  | move mover position => exact move_steady mover position s
  | moverQuery mover => exact query_steady rfl s
  | antennaStatus ant => exact query_steady rfl s
  | moverClear mover => exact moverClear_steady mover s
  | survey => exact survey_steady s
  | safetyDefine input kind level rows => exact safetyDefine_steady input kind level rows s
  | permitQuery => exact query_steady rfl s
  | txOrderTunePreset tx freq => exact txOrderTunePreset_steady tx freq s
  | txOrderTuneAuto tx freq => exact txOrderTuneAuto_steady tx freq s
  | txOrderRfOn tx power feed => exact txOrderRfOn_steady tx power feed s
  | txOrderRfOff tx => exact txOrderRfOff_steady tx s
  | txOrderMute tx => exact txOrderMute_steady tx s
  | txOrderPower tx power => exact txOrderPower_steady tx power s
  | txOrderFeed tx feed => exact txOrderFeed_steady tx feed s
  | txOrderClearTrip tx => exact txOrderClearTrip_steady tx s
  | txStatus tx => exact query_steady rfl s
  | protSet settings => exact protSet_steady settings s
  | protQuery tx => exact query_steady rfl s
  | lockoutClear tx => exact lockoutClear_steady tx s
  | presetRead tx set way => exact presetRead_steady tx set way s
  | presetWrite tx set way fields => exact presetWrite_steady tx set way fields s
  | presetFlush scope tx ant channel => exact presetFlush_steady scope tx ant channel s
  | presetFreeze state => exact presetFreeze_steady state s
  | presetWindow window enabled base exponent => exact presetWindow_steady window enabled base exponent s
  | presetSave => exact presetSave_steady s
  | presetRestore => exact presetRestore_steady s
  | presetError => exact presetError_steady s
  | diagStart antennas steps => exact diagStart_steady antennas steps s
  | diagStop => exact diagStop_steady s
  | diagQuery => exact query_steady rfl s
  | faultClear ant flags => exact faultClear_steady ant flags s
  | timePulse => exact timePulse_steady s
  | oscillatorMark => exact oscillatorMark_steady s
  | windowClose => exact windowClose_steady s
  | holdoverEntry => exact holdoverEntry_steady s
  | pendingExpiry => exact pendingExpiry_steady s
  | operationEnd passed => exact operationEnd_steady passed s
  | operationOverrun => exact operationOverrun_steady s
  | progressGuardEnd => exact progressGuardEnd_steady s
  | verifyEnd => exact verifyEnd_steady s
  | reindexEnd => exact reindexEnd_steady s
  | contactChange mover position made => exact contactChange_steady mover position made s
  | settleEnd mover => exact settleEnd_steady mover s
  | validateEnd mover => exact validateEnd_steady mover s
  | travelTimeout mover => exact travelTimeout_steady mover s
  | watchEnd mover => exact watchEnd_steady mover s
  | moverReadEnd mover => exact moverReadEnd_steady mover s
  | rowCold row => exact rowCold_steady row s
  | safetyInputEdge input level => exact safetyInputEdge_steady input level s
  | releaseWindowEnd input => exact releaseWindowEnd_steady input s
  | safetyResetAlert => exact safetyResetAlert_steady s
  | arcInput ant => exact arcInput_steady ant s
  | arcHoldEnd ant => exact arcHoldEnd_steady ant s
  | txReport tx report => exact txReport_steady tx report s
  | txFrameDiscard tx octets => exact txFrameDiscard_steady tx octets s
  | txLinkTimeout tx => exact txLinkTimeout_steady tx s
  | reportStale tx => exact reportStale_steady tx s
  | orderDeadline tx => exact orderDeadline_steady tx s
  | tuneTimeout tx => exact tuneTimeout_steady tx s
  | rampFail tx => exact rampFail_steady tx s
  | offTimeout tx => exact offTimeout_steady tx s
  | recoveryWaitEnd tx => exact recoveryWaitEnd_steady tx s
  | scrubCheck => exact scrubCheck_steady s
  | restorePageRead => exact restorePageRead_steady s
  | busResult tag result => exact busResult_steady tag result s
  | measurementTimeout => exact measurementTimeout_steady s
  | hostStartOctet => exact hostStartOctet_steady s
  | huntStopBitError => exact huntStopBitError_steady s
  | txLinkSyncFound tx => exact txLinkSyncFound_steady tx s
  | verifierRead => exact verifierRead_steady s

theorem exec_next_steady {c : Instr} (h : exec c s = .next t) : Steady s t := by
  obtain ⟨u, hu, steady⟩ := exec_steady c s
  cases hu.symm.trans h
  exact steady

/-- A step is steady: a command over what waits, the refusal of a frame, or a tick. -/
theorem step_steady (h : step s = .next t) : Steady s t := by
  obtain ⟨c, rest, -, hc⟩ | ⟨c, rest, hc⟩ | ⟨kind, status, rest, rfl⟩ | rfl := step_cases h
  · exact Steady.fromQueue (exec_next_steady hc)
  · exact Steady.fromLink (exec_next_steady hc)
  · exact (((Stays.refl s).withLink _).answer kind status []).steady
  · exact (Stays.of_grounds).steady

end Sys2Proof.Machine

/-! # Work, trips, leads and power in bounds -/

namespace Sys2Proof.Machine

open Sys2Proof

set_option Elab.async false

variable {s u : State} {t : Nat}

/-! ## The lead, R81 to R83 -/

theorem State.planLead_kind (s : State) (t : Nat) (g : Target) (freq ref now : Nat) :
    (s.planLead t g freq ref now).2.kind = s.changeKind t g freq ref := by
  unfold State.planLead
  dsimp only
  split
  · rfl
  · rfl

theorem State.planLead_seamless {g : Target} {freq ref : Nat} (seamless : s.changeKind t g freq ref = .seamless) (now : Nat) :
    (s.planLead t g freq ref now).2.leadS = 0 ∧ (s.planLead t g freq ref now).2.ps = ref ∧ (s.planLead t g freq ref now).2.x = ref := by
  unfold State.planLead
  rw [if_pos seamless]
  exact ⟨rfl, rfl, rfl⟩

/-- Ps is the later of now and S less the lead, where there is no current entry (R83). -/
theorem State.planLead_ps_none {g : Target} {freq ref : Nat} (other : s.changeKind t g freq ref ≠ .seamless)
    (idle : (s.duty t).current = none) (now : Nat) :
    (s.planLead t g freq ref now).2.ps = max now (ref - (s.planLead t g freq ref now).2.leadS) := by
  unfold State.planLead
  rw [if_neg other]
  simp only [idle, Nat.zero_max]

/-- Behind a current entry it is the end of that too, if that is not after S (R83). -/
theorem State.planLead_ps_some {g : Target} {freq ref : Nat} {e : CurrentEntry} (other : s.changeKind t g freq ref ≠ .seamless)
    (busy : (s.duty t).current = some e) (now : Nat) :
    (s.planLead t g freq ref now).2.ps =
      max now (max (if e.endAt ≤ ref then e.endAt else 0) (ref - (s.planLead t g freq ref now).2.leadS)) := by
  unfold State.planLead
  rw [if_neg other]
  simp only [busy]

theorem State.driveDs_still {g : Target} (still : s.drivesMove g = false) : s.driveDs g = 0 := by
  obtain ⟨slew, reverser⟩ := Bool.or_eq_false_iff.mp still
  unfold State.driveDs
  split
  · rfl
  · simp [slew, reverser]

theorem State.planLead_routeDs {g : Target} {freq ref : Nat} (here : s.changeKind t g freq ref ≠ .reroute)
    (still : s.drivesMove g = false) (now : Nat) : (s.planLead t g freq ref now).2.routeDs = 0 := by
  unfold State.planLead
  dsimp only
  split
  · rfl
  · simp [State.driveDs_still still]

/-! ## The candidates, R80, R83 -/

/-- A candidate that fails a test gives way to the next. -/
theorem State.planCandidates_fails {o : Occurrence} {g : Target} {sub : Bool} {c : Cause}
    (cause : s.candidateCause t g o.entry.freq o.entry.power = some c) (now : Nat) (last : Cause) (rest : List (Target × Bool)) :
    s.planCandidates t o now last ((g, sub) :: rest) = s.planCandidates t o now c rest := by
  rw [State.planCandidates]
  simp only [cause]

/-- A start beyond the late limit skips the occurrence before a reservation is asked. -/
theorem State.planCandidates_late {o : Occurrence} {g : Target} {sub : Bool} {now l : Nat}
    (cause : s.candidateCause t g o.entry.freq o.entry.power = none) (limit : o.entry.lateLimit = some l)
    (late : l < (s.planLead t g o.entry.freq o.refStart now).2.x - o.refStart) (last : Cause) (rest : List (Target × Bool)) :
    s.planCandidates t o now last ((g, sub) :: rest) = (s.planLead t g o.entry.freq o.refStart now).1.skipOccurrence t o .lateLimit := by
  rw [State.planCandidates]
  simp only [cause, limit, decide_eq_true late, if_true]

/-- A reservation commits the plan. -/
theorem State.planCandidates_reserved {o : Occurrence} {g : Target} {sub : Bool} {now : Nat}
    (cause : s.candidateCause t g o.entry.freq o.entry.power = none) (unlimited : o.entry.lateLimit = none)
    (reserved : ((s.planLead t g o.entry.freq o.refStart now).1.reserveTarget t g.antenna).2 = true) (last : Cause)
    (rest : List (Target × Bool)) :
    s.planCandidates t o now last ((g, sub) :: rest) =
      ((s.planLead t g o.entry.freq o.refStart now).1.reserveTarget t g.antenna).1.commitPlan t o
        ((s.planLead t g o.entry.freq o.refStart now).2.record o g sub (s.duty t).handledThrough) := by
  rw [State.planCandidates]
  simp only [cause, unlimited, reserved, if_true, Bool.false_eq_true, if_false]

/-- A plan that is committed is the changeover record, and its occurrence is handled. -/
theorem State.commitPlan_planned (sized : s.sized) (h1 : 1 ≤ t) (h12 : t ≤ 12) (o : Occurrence) (c : Changeover) :
    (s.commitPlan t o c).change t = some c ∧ ((s.commitPlan t o c).duty t).handledThrough = some o.startAt := by
  obtain ⟨-, -, -, -, -, ⟨duties, changeovers⟩, -⟩ := State.sized_iff.mp sized
  have written : ((s.setChange t (some c)).updateDuty t fun d => { d with handledThrough := some o.startAt, heldRoute := none }).change t =
      some c := s.change_setChange t (some c) h1 (by omega)
  have handled : (((s.setChange t (some c)).updateDuty t fun d =>
      { d with handledThrough := some o.startAt, heldRoute := none }).duty t).handledThrough = some o.startAt :=
    congrArg Duty.handledThrough (State.duty_setDuty (s := s.setChange t (some c)) t _ h1
      (show t ≤ s.se.duties.length by omega))
  unfold State.commitPlan
  dsimp only
  split
  · exact ⟨written, handled⟩
  · exact ⟨written, handled⟩

/-! ## The power where RF stands, R162 to R167 -/

/-- The commanded power is between floor and limit. -/
structure Protection.Within (p : Protection) (limit : Nat) : Prop where
  limited : p.limit = some limit
  floored : p.floor = (limit + 3) / 4
  low : (limit + 3) / 4 ≤ p.commanded
  high : p.commanded ≤ limit

/-- A decision that leaves the sequencer in its state leaves the power within its bounds. -/
def State.KeepsWithin (s : State) (t limit : Nat) (u : State) : Prop :=
  (u.seq t).state = (s.seq t).state → (u.prot t).Within limit

/-- A trip where RF stands leaves the state. -/
theorem State.tripWith_leaves {cause : TripCause} (has : s.HasTx t) (standing : (s.seq t).state = .rampUp ∨ (s.seq t).state = .onAir)
    (counted : cause.counted = true) (code : Nat) (owner : OrderOwner) :
    ((s.tripWith t cause code owner).seq t).state ≠ (s.seq t).state := by
  have stands : (s.seq t).rfStanding = true := by
    obtain h | h := standing
    · simp [Sequencer.rfStanding, h]
    · simp [Sequencer.rfStanding, h]
  have apart {x : SeqState} (h : x = .muted ∨ x = .lockout) : x ≠ (s.seq t).state := by
    obtain rfl | rfl := h <;> obtain e | e := standing <;> simp [e]
  cases trip : (s.prot t).trip cause code s.tb.elapsed s.pt.settings.tripWindowS with
  | mk p o =>
    by_cases outcome : o = .none
    · obtain ⟨lc, recorded, answer, -, -⟩ := moves_recordTrip t s cause code
      have has' : State.HasTx { s with lc := lc } t := ⟨has.pos, has.sequencers, has.protections⟩
      obtain ⟨q, muted, state, -⟩ := moves_seqTrip (recorded.hasTx has') (by rw [recorded.seq has']; exact stands) owner
      have silent : s.tripWith t cause code owner = (s.recordTrip t cause code).1.seqTrip t owner := by
        unfold State.tripWith State.deliver
        dsimp only
        rw [answer, trip, outcome]
      rw [silent, muted.seq (recorded.hasTx has'), state]
      exact apart (.inl rfl)
    · have tripped := State.tripWith_tripped has stands counted trip outcome owner
      cases o with
      | none => exact absurd rfl outcome
      | recovery => exact apart (.inl (tripped.recovers rfl).1)
      | lockout => exact apart (.inr (tripped.locks rfl))

/-- A POWER order between floor and limit keeps the power within them. -/
theorem State.offerOrder_within {p : Protection} {limit power : Nat} (has : s.HasTx t)
    (standing : (s.seq t).state = .rampUp ∨ (s.seq t).state = .onAir) (bounds : p.limit = some limit ∧ p.floor = (limit + 3) / 4)
    (low : (limit + 3) / 4 ≤ power) (high : power ≤ limit) :
    (((s.setProt t p).offerOrder t (.power power) .protection).prot t).Within limit := by
  have set := moves_setProt t s p
  rw [State.offerOrder_power (by rw [set.seq has]; exact standing)]
  obtain ⟨_, _, _, _, _, sent⟩ := moves_enqueue (set.hasTx has) (.power power) .protection
  rw [set.prot has] at sent
  rw [sent.prot (set.hasTx has)]
  exact ⟨bounds.1, bounds.2, low, high⟩

theorem foldOf_le (p : Nat) : foldOf p ≤ p := by
  unfold foldOf
  omega

theorem le_restoreOf (p : Nat) : p ≤ restoreOf p := by
  unfold restoreOf ceilDiv
  omega

theorem State.foldStep_within {limit : Nat} (has : s.HasTx t) (standing : (s.seq t).state = .rampUp ∨ (s.seq t).state = .onAir)
    (h : (s.prot t).Within limit) : s.KeepsWithin t limit (s.foldStep t) := by
  intro same
  have folded := foldOf_le (s.prot t).commanded
  have high := h.high
  by_cases above : (s.prot t).floor ≤ foldOf (s.prot t).commanded
  · rw [State.foldStep_above above]
    exact State.offerOrder_within has standing ⟨h.limited, h.floored⟩ (h.floored ▸ above) (by omega)
  · refine absurd same ?_
    unfold State.foldStep
    dsimp only
    rw [if_pos (Nat.not_le.mp above)]
    exact State.tripWith_leaves has standing rfl _ _

theorem State.restoreStep_within {limit : Nat} (has : s.HasTx t) (standing : (s.seq t).state = .rampUp ∨ (s.seq t).state = .onAir)
    (pos : 1 ≤ limit) (h : (s.prot t).Within limit) : ((s.restoreStep t).prot t).Within limit := by
  have restored := le_restoreOf (s.prot t).commanded
  have low := h.low
  rw [State.restoreStep_eq h.limited]
  exact State.offerOrder_within has standing ⟨h.limited, h.floored⟩ (by omega) (by omega)

theorem State.restoreRunStep_within {limit : Nat} (has : s.HasTx t)
    (standing : (s.seq t).state = .rampUp ∨ (s.seq t).state = .onAir) (pos : 1 ≤ limit) (h : (s.prot t).Within limit) :
    ((s.restoreRunStep t).prot t).Within limit := by
  cases run : (s.prot t).restoreRun with
  | none =>
    rw [State.restoreRunStep_none run, (moves_setProt t s _).prot has]
    exact { h with }
  | some m =>
    by_cases due : m + s.pt.settings.restoreIntervalS * 1000 ≤ s.clock
    · rw [State.restoreRunStep_due run due]
      exact State.restoreStep_within has standing pos h
    · rw [State.restoreRunStep_early run (Nat.not_le.mp due)]
      exact h

theorem State.ratioDecision_within {limit q : Nat} (has : s.HasTx t)
    (standing : (s.seq t).state = .rampUp ∨ (s.seq t).state = .onAir) (pos : 1 ≤ limit) (h : (s.prot t).Within limit) :
    s.KeepsWithin t limit (s.ratioDecision t q) := by
  have ended := moves_setProt t s { s.prot t with restoreRun := none }
  have has' : (s.endRestoreRun t).HasTx t := ended.hasTx has
  have seq : (s.endRestoreRun t).seq t = s.seq t := ended.seq has
  have within : ((s.endRestoreRun t).prot t).Within limit := by
    rw [show (s.endRestoreRun t).prot t = _ from ended.prot has]
    exact { h with }
  have stands : ((s.endRestoreRun t).seq t).state = .rampUp ∨ ((s.endRestoreRun t).seq t).state = .onAir := seq.symm ▸ standing
  intro same
  by_cases warn : s.pt.settings.warnPm ≤ q
  · rw [State.ratioDecision_of_warn_le warn] at same ⊢
    split at same
    · exact absurd (same.trans (congrArg _ seq.symm)) (State.tripWith_leaves has' stands rfl _ _)
    next calm =>
      rw [if_neg calm]
      split at same
      next fold =>
        rw [if_pos fold]
        exact State.foldStep_within has' stands within (same.trans (congrArg _ seq.symm))
      next still =>
        rw [if_neg still]
        exact within
  · rw [State.ratioDecision_of_lt_warn (Nat.not_le.mp warn)]
    split
    · exact State.restoreRunStep_within has standing pos h
    · exact h

/-! ## The obligation -/

/-- Settles O60: the first three bounds are kept by every step (`step_steady`), the rest is read off the planner and the protection. -/
theorem work_trips_leads_and_power_stay_in_bounds : Obligations.work_trips_leads_and_power_stay_in_bounds := by
  refine ⟨fun s t h step => (step_steady step).work h, fun s t h step => (step_steady step).histories h,
    fun s t h step => (step_steady step).led h, ?lead, ?candidates, ?power⟩
  case lead =>
    rintro s t freq ref now g p rfl
    refine ⟨State.planLead_kind _ _ _ _ _ _, fun kind => State.planLead_seamless ((State.planLead_kind ..).symm.trans kind) now,
      fun kind => ?_⟩
    have other (seamless : s.changeKind t g freq ref = .seamless) := kind ((State.planLead_kind ..).trans seamless)
    obtain ⟨capped, x⟩ := State.planLead_led s t g freq ref now
    exact ⟨capped, x, fun idle => State.planLead_ps_none other idle now, fun e busy => State.planLead_ps_some other busy now,
      fun here still => State.planLead_routeDs (fun reroute => here ((State.planLead_kind ..).trans reroute)) still now⟩
  case candidates =>
    refine fun s t now o g sub rest last => ⟨fun c cause => State.planCandidates_fails cause _ _ _, fun v p cause lead => ?_⟩
    obtain ⟨rfl, rfl⟩ := Prod.mk.injEq .. ▸ lead
    refine ⟨fun l limit late => State.planCandidates_late cause limit late _ _, fun unlimited reserved sized h1 h12 => ?_⟩
    have planned := State.commitPlan_planned (((State.reserveTarget_stays (State.planLead_stays (Stays.refl s) t g o.entry.freq o.refStart now)
      t g.antenna).sized sized)) h1 h12 o ((s.planLead t g o.entry.freq o.refStart now).2.record o g sub (s.duty t).handledThrough)
    exact ⟨_, _, State.planCandidates_reserved cause unlimited reserved _ _, planned.1, rfl, rfl, rfl, rfl, rfl, rfl, planned.2⟩
  case power =>
    intro s t q limit sized h1 h12 limited pos floor low high standing same
    have within := State.ratioDecision_within (q := q) (sized.hasTx h1 h12) standing pos ⟨limited, floor, floor ▸ low, high⟩ same
    exact ⟨within.limited, within.floored, within.low, within.high⟩

end Sys2Proof.Machine

/-! # The arbiter, the status table and the lines -/

namespace Sys2Proof.Machine

open Sys2Proof

set_option Elab.async false

variable {s t : State} {m : Nat}

/-! ## The choice of a request, R110 -/

/-- The better of the choice so far and mover `m`. -/
def State.better (s : State) (best : Option Nat) (m : Nat) : Option Nat :=
  match best with
  | some b => if (s.mover m).before (s.mover b) then some m else best
  | none => some m

/-- The requests that may be granted. -/
def State.grantable (s : State) : List Nat := (s.moversWhere fun x => x.phase == .queued).filter s.eligible

theorem State.nextGrant_eq (s : State) : s.nextGrant = s.grantable.foldl s.better none := by
  unfold State.nextGrant State.grantable
  rfl

/-- Mover `m` goes before every other of a list. -/
def State.First (s : State) (m : Nat) (xs : List Nat) : Prop :=
  ∀ k ∈ xs, k ≠ m → (s.mover m).before (s.mover k) = true ∧ (s.mover k).before (s.mover m) = false

theorem Mover.before_irrefl (x : Mover) : x.before x = false := by simp [Mover.before]

theorem State.better_self {k : Nat} (first : s.First m [k]) : s.better (some m) k = some m := by
  unfold State.better
  dsimp only
  by_cases here : k = m
  · simp [here]
  · simp [(first k List.mem_cons_self here).2]

theorem State.better_first {best : Option Nat} (first : s.First m best.toList) : s.better best m = some m := by
  cases best with
  | none => rfl
  | some b =>
    unfold State.better
    dsimp only
    by_cases here : b = m
    · simp [here]
    · simp [(first b List.mem_cons_self here).1]

/-- Once chosen, the first stays chosen. -/
theorem State.first_kept {xs : List Nat} (first : s.First m xs) : xs.foldl s.better (some m) = some m := by
  induction xs with
  | nil => rfl
  | cons x xs ih =>
    rw [List.foldl_cons, State.better_self fun k hk => first k (List.mem_singleton.mp hk ▸ List.mem_cons_self)]
    exact ih fun k hk => first k (List.mem_cons_of_mem _ hk)

/-- The first of a list is the one chosen. -/
theorem State.first_chosen {xs : List Nat} {best : Option Nat} (mem : m ∈ xs) (first : s.First m xs) (behind : s.First m best.toList) :
    xs.foldl s.better best = some m := by
  induction xs generalizing best with
  | nil => cases mem
  | cons x xs ih =>
    have later : s.First m xs := fun k hk => first k (List.mem_cons_of_mem _ hk)
    rw [List.foldl_cons]
    by_cases here : x = m
    · rw [here, State.better_first behind]
      exact State.first_kept later
    · refine ih ((List.mem_cons.mp mem).resolve_left (Ne.symm here)) later ?_
      have one : s.better best x = best ∨ s.better best x = some x := by
        unfold State.better
        split
        · split
          · exact .inr rfl
          · exact .inl rfl
        · exact .inr rfl
      obtain kept | took := one
      · rwa [kept]
      · rw [took]
        exact fun k hk => first k (List.mem_singleton.mp hk ▸ List.mem_cons_self)

theorem State.movers_getElem (h1 : 1 ≤ m) (index : m - 1 < s.mc.movers.length) : s.mc.movers[m - 1] = s.mover m := by
  simp [State.mover, nth, Nat.pos_iff_ne_zero.mp h1, List.getD_eq_getElem?_getD, List.getElem?_eq_getElem index]

theorem State.mem_moversWhere {p : Mover → Bool} (h1 : 1 ≤ m) (inside : m ≤ s.mc.movers.length) (holds : p (s.mover m) = true) :
    m ∈ s.moversWhere p := by
  have index : m - 1 < s.mc.movers.length := by omega
  simp only [State.moversWhere, List.mem_map, List.mem_filter]
  exact ⟨(s.mover m, m - 1),
    ⟨List.mem_zipIdx_iff_getElem?.mpr (State.movers_getElem h1 index ▸ List.getElem?_eq_getElem index), holds⟩, by omega⟩

/-! ## A grant, R100, R110 -/

theorem State.eligible_inside (sized : s.sized) (eligible : s.eligible m = true) : 1 ≤ m ∧ m ≤ 372 := by
  obtain ⟨-, -, -, -, ⟨movers, -⟩, -⟩ := State.sized_iff.mp sized
  exact movers ▸ State.mover_inside (by rw [State.eligible_queued eligible]; decide)

/-- No grant without a free slot or an eligible request. -/
theorem State.arbitrate_idle (sized : s.sized)
    (idle : s.params.motionSlots ≤ s.slotsInUse ∨ ∀ m, 1 ≤ m → m ≤ 372 → s.eligible m = false) : s.arbitrate = s := by
  unfold State.arbitrate
  split
  next slot =>
    split
    next m chosen =>
      have eligible := (List.mem_filter.mp (State.nextGrant_mem chosen)).2
      obtain ⟨h1, h372⟩ := State.eligible_inside sized eligible
      exact absurd eligible (by simp [idle.resolve_left (Nat.not_le.mpr slot) m h1 h372])
    · rfl
  · rfl

/-- A mover that begins to move takes one slot more. -/
theorem State.setMover_slots_more {x : Mover} (h1 : 1 ≤ m) (inside : m ≤ s.mc.movers.length) (still : (s.mover m).inMotion = false)
    (moving : x.inMotion = true) : (s.setMover m x).slotsInUse = s.slotsInUse + 1 := by
  have index : m - 1 < s.mc.movers.length := by omega
  show ((setNth s.mc.movers m x).filter Mover.inMotion).length = (s.mc.movers.filter Mover.inMotion).length + 1
  rw [setNth, if_neg (by omega), ← List.countP_eq_length_filter, ← List.countP_eq_length_filter, List.countP_set index, State.movers_getElem h1 index]
  simp [still, moving]

/-- The motion that a grant begins. -/
def State.started (s : State) (m : Nat) : Mover :=
  { s.mover m with
    phase := .moving, run := (s.mover m).target, timer := some (s.clock + s.travelMs m (s.mover m)), confirmed := none }

/-- A grant away from the target. -/
theorem State.grant_eq (away : (s.mover m).contacts ≠ (s.mover m).target.toList) :
    s.grant m = ((s.setMover m (s.started m)).postOnce .matrix).postOnce .arbiter := by
  unfold State.grant
  dsimp only
  rw [if_neg (by simp [away])]
  rfl

theorem State.nextGrant_first (h1 : 1 ≤ m) (inside : m ≤ s.mc.movers.length) (eligible : s.eligible m = true)
    (first : ∀ k, 1 ≤ k → k ≤ s.mc.movers.length → k ≠ m → s.eligible k = true → (s.mover k).priority < (s.mover m).priority ∨
      ((s.mover k).priority = (s.mover m).priority ∧ (s.mover m).age < (s.mover k).age)) : s.nextGrant = some m := by
  rw [State.nextGrant_eq]
  refine State.first_chosen (List.mem_filter.mpr ⟨State.mem_moversWhere h1 inside ?_, eligible⟩) (fun k hk other => ?_)
    fun _ hk => absurd hk List.not_mem_nil
  · simp [State.eligible_queued eligible]
  · have rival := (List.mem_filter.mp hk).2
    obtain ⟨k1, kinside⟩ := State.mover_inside (s := s) (m := k) (by rw [State.eligible_queued rival]; decide)
    have ahead := first k k1 kinside other rival
    simp only [Mover.before, decide_eq_true_eq, decide_eq_false_iff_not]
    omega

/-! ## What an eligible request stands against, R111 -/

theorem State.eligible_stands (eligible : s.eligible m = true) :
    (s.mover m).phase = .queued ∧ s.safetyHalt = false ∧ (s.mover m).watch = none ∧ (∀ r ∈ s.dependsOn m, (s.permit r).cold = true) ∧
      ((s.mover m).target = some .closed → s.closeAllowed m = true) := by
  simp only [State.eligible, Bool.and_eq_true, beq_iff_eq, Bool.not_eq_true', Option.isNone_iff_eq_none, Bool.or_eq_true, bne_iff_ne,
    State.rowsCold, List.all_eq_true] at eligible
  obtain ⟨⟨⟨⟨⟨queued, halt⟩, cold⟩, watch⟩, -⟩, close⟩ := eligible
  exact ⟨queued, halt, watch, cold, fun closing => close.resolve_left fun other => other closing⟩

theorem State.closeAllowed_crosspoint {r a : Nat} (kind : kindOf m = .crosspoint r a) (allowed : s.closeAllowed m = true) :
    (∀ k ∈ s.columnMovers a, k ≠ m → s.isOpen k = true) ∧ s.isOpen (testSwitch a) = true ∧
      (∀ k ∈ s.rowMovers r, k ≠ m → s.isOpen k = true) ∧ s.rowFault r = [] := by
  simp only [State.closeAllowed, kind, Bool.and_eq_true, List.all_eq_true, Bool.or_eq_true, beq_iff_eq, List.isEmpty_iff] at allowed
  obtain ⟨⟨⟨column, test⟩, row⟩, fault⟩ := allowed
  exact ⟨fun k hk other => (column k hk).resolve_left other, test, fun k hk other => (row k hk).resolve_left other, fault⟩

/-! ## The obligation -/

/-- Settles O59: the arbiter's part is read off its choice and its grant; the bounds and the lines are kept by every command and step
(`exec_steady`, `step_steady`), for a line by right stays so or is about to be tested, and no test waits without a notice. -/
theorem arbiter_antennas_and_lines_keep_their_rules : Obligations.arbiter_antennas_and_lines_keep_their_rules := by
  refine ⟨fun s sized => ⟨State.arbitrate_idle sized, ?granted, ?stands⟩, fun c s t _ h => (exec_next_steady h).slots,
    fun s t _ exclusive h => (step_steady h).exclusive exclusive, ?lines⟩
  case granted =>
    rintro m x h1 h372 rfl slot eligible first away
    obtain ⟨-, -, -, -, ⟨movers, -⟩, -⟩ := State.sized_iff.mp sized
    have chosen : s.arbitrate = s.grant m := by
      unfold State.arbitrate
      rw [if_pos slot, State.nextGrant_first h1 (movers ▸ h372) eligible (movers ▸ first)]
    rw [chosen, State.grant_eq away]
    exact ⟨s.mover_setMover m _ h1 (movers ▸ h372), fun k other => s.mover_setMover_ne m k _ other,
      State.setMover_slots_more h1 (movers ▸ h372) (by simp [Mover.inMotion, State.eligible_queued eligible]) rfl⟩
  case stands =>
    intro m eligible
    obtain ⟨queued, halt, watch, cold, close⟩ := State.eligible_stands eligible
    exact ⟨queued, halt, watch, cold, fun closing r a kind => State.closeAllowed_crosspoint kind (close closing)⟩
  case lines =>
    intro s t sized _ right h quiet r h1 h12
    refine ((step_steady h).rightful sized r h1 h12 (.inr (right r h1 h12))).resolve_left fun tests => ?_
    simp [State.TestsWait, quiet] at tests

end Sys2Proof.Machine
